-- ==== Sys2Proof/Word.lean ====
section
/-! DEFINITION. The word types of the Hepsa 4820: bytes of the wires, the counters that wrap, samples and frames. -/

namespace Sys2Proof

/-- A byte of a record, a packet or a surface frame. -/
abbrev Byte := BitVec 8

/-- A two-byte field of a record, already read least significant byte first (00, Byte order). -/
abbrev Half := BitVec 16

/-- The studio frame counter and the stamps taken whole from it (R44). -/
abbrev Stamp := BitVec 48

/-- A stamp that carries the low 32 bits of the studio frame counter (R44), or a surface millisecond count (R130). -/
abbrev Word32 := BitVec 32

/-- A module's serial (08, opening). -/
abbrev Serial := BitVec 48

/-- A sample: a signed 24-bit integer, from -8,388,608 to +8,388,607 (00, Samples). -/
abbrev Sample := Int

/-- One sample for each channel of a stream or each slot of a port (00, Samples). -/
abbrev Frame := List Sample

/-- A slot of a converter link: 32 bits, the sample in the top 24 (R74). -/
abbrev Slot := BitVec 32

end Sys2Proof
end

