-- ==== Sys2Proof/Syntax.lean ====
section
/-! DEFINITION. The steps of the part: one constructor of `Instr` for each row of spec/opcode_table.json. Event rows
carry what the outside brings; command rows carry the record's tag and its payload fields as raw codes (R202), so
that a code out of range can be sent. -/

namespace Sys2Proof

/-- The seven clock sources (R22). -/
inductive ClockSource where
  | internal
  | wordclock
  | link
  | port (p : Fin 4)
deriving DecidableEq, Repr

/-- The three output queues of the Surface Output (09, section 9.1). -/
inductive QueueId where
  | urgent
  | normal
  | meter
deriving DecidableEq, Repr

/-- A record that holds a ramp: a route entry or a mix bus (R110). -/
inductive RampRef where
  | route (id : Fin 128)
  | bus (b : Fin 8)
deriving DecidableEq, Repr

/-- The bus's own set-up requests other than the selection of a configuration (R1). -/
inductive SetupRequest where
  | setAddress (address : BitVec 7)
  | getDescriptor (kind index : Byte)
  | getStatus
  | clearHalt (pipe : Byte)
deriving DecidableEq, Repr

/-- What one fader channel samples in a servo period (R194): position, touch sensor, motor current. -/
structure FaderSample where
  position : Nat
  touch : Bool
  current : Nat
deriving DecidableEq, Repr

/-- A signal point as two bytes: kind, then index (11, section 11.1). -/
structure PointCode where
  kind : Byte
  index : Byte
deriving DecidableEq, Repr

/-- One step of the part. -/
inductive Instr where
  -- power, link and control pipes (01)
  | powerOn
  | initialisationComplete
  | busPowerConnection
  | busReset
  | selectConfiguration (value : Byte)
  | setupRequest (request : SetupRequest)
  | busIdleSuspend
  | resumeSignalling
  | disconnection
  | controlOutPacket (bytes : List Byte)
  | takeCommand
  | controlInRequest
  | controlInAcknowledge
  | identify (tag : Byte)
  | reset (tag : Byte)
  | resetComplete
  | noticeMask (tag : Byte) (mask : Half)
  | lampSet (tag lampA lampB : Byte)
  -- studio clock (02)
  | clockSetRate (tag rate : Byte)
  | clockSetSources (tag mode fixed revert : Byte) (list : List Byte)
  | clockStatus (tag : Byte)
  | checkPeriodEnd
  | synthesiserLock
  | synthesiserUnlock
  | lockTimerExpiry
  | settleTimerExpiry
  | holdoverTimerExpiry
  -- host streams (03)
  | streamConfig (tag selector channels : Byte) (depth : Half)
  | streamStart (tag selector : Byte)
  | streamStop (tag selector : Byte)
  | streamStatus (tag selector : Byte)
  | playbackPacket (bytes : List Byte)
  | capturePacketRequest
  | serviceIntervalStart
  | rateReportSend
  -- converter ports (04)
  | portConfig (tag port mode slots : Byte)
  | portStart (tag port : Byte)
  | portStop (tag port : Byte)
  | portMute (tag port mute : Byte)
  | portStatus (tag port : Byte)
  | portResetTimerExpiry (port : Fin 4)
  | portSettleCountEnd (port : Fin 4)
  | portInputFrameComplete (port : Fin 4) (slots : List Slot)
  | portOutputFrameBegin (port : Fin 4)
  | overloadLineChange (port : Fin 4) (level : Bool)
  -- route table, mix buses, meters (05, 06)
  | routeAdd (tag : Byte) (source destination : PointCode) (gain : Half) (flags : Byte)
  | routeRemove (tag id : Byte)
  | routeSetGain (tag id : Byte) (gain : Half)
  | routeSetMute (tag id mute : Byte)
  | routeList (tag start : Byte)
  | busSet (tag bus flags : Byte) (gain : Half) (mute : Byte)
  | rampSet (tag : Byte) (length : Half)
  | evaluateStudioFrame
  | rampEnd (record : RampRef)
  | meterPeriodEnd
  | meterAssign (tag slot flags : Byte) (point : PointCode) (address position : Byte)
  | meterSubscribe (tag : Byte) (set : BitVec 64) (holdTime : Byte)
  | meterRead (tag first count clear : Byte)
  -- surface bus (07)
  | surfaceSetup (tag enable period lifetime auto : Byte)
  | surfaceStatus (tag clear : Byte)
  | pollBoundary
  | autoDiscoveryStart
  | busFree
  | frameSendingEnd
  | replyWindowExpiry
  | replyCorrupt
  | replyComplete (characters : List Byte)
  | lineBreakStart
  | lineBreakEnd
  | stuckTimerExpiry
  | clearingCheckEnd (quiet : Bool)
  | faultRetryExpiry
  -- modules and events (08)
  | discover (tag : Byte)
  | moduleList (tag : Byte)
  | moduleForget (tag : Byte) (addresses : List Byte)
  | filterSet (tag number enable origin low high kinds action : Byte)
  | filterList (tag : Byte)
  -- surface output (09)
  | surfaceSend (tag address kind priority retries notify : Byte) (data : List Byte)
  | frameDelayExpiry (queue : QueueId)
  | surfaceAbort (tag selector named : Byte)
  | surfaceHistory (tag count : Byte)
  -- bindings and faders (10)
  | bindSet (tag index origin control targetKind targetIndex mode step feedback : Byte)
  | bindClear (tag index : Byte)
  | bindList (tag : Byte)
  | faderConfig (tag channel enable kp deadband minDuty maxDuty rest limit : Byte)
  | faderMove (tag channel : Byte) (position : Half)
  | faderClear (tag channel : Byte)
  | faderStatus (tag channel : Byte)
  | servoPeriod (samples : List FaderSample)
  | motionTimerExpiry (channel : Fin 8)
  | supplyLow
  | supplyBack
  -- the last rows of the table
  | sourceEdge (source : ClockSource)
  | replyStartBit
  | lineCharacter
  | surfaceMillisecondTick
deriving DecidableEq, Repr

end Sys2Proof
end

