-- ==== Sys2Proof/Decode.lean ====
section
/-! DEFINITION. The decoder over the rows of spec/opcode_table.json that give bits. The table gives bits to no row: its rows
are steps of the block, and a command's record is read by TAKE_COMMAND (Machine/Command.lean). -/

namespace Sys2Proof

/-- The command that a word spells by the table's bits: none, since no row has bits (log 26). -/
def decodeTableWord (_nbits _w : Nat) : Option Instr := none

end Sys2Proof
end

