-- ==== Sys2Proof/Config.lean ====
section
/-! DEFINITION. What the spec leaves open in the part itself: free values, constants without a body. -/

namespace Sys2Proof

/-- How many notices of the other blocks enter before the next notice of this block, where R10 says that notices
handed over at the same moment by different blocks "enter in either order". The arguments are the event (the
State's counter `fresh`), the place in the fan-out, and the place in the list. It has no body: nothing is known of
it (log 5). -/
opaque Config.noticeOrder : Nat → Nat → Nat → Nat

/-- Whether the records are emptied before or after the Clock Unit's notices of the same link reset are handed over,
which the spec does not say (R2, R17, R23). The argument is the event (log 33). -/
opaque Config.emptiesFirst : Nat → Bool

/-- The expiry of an entry made by an assign step, before its CONFIRM sets it (R158, R159: the spec gives none). The
argument is the event (log 34). -/
opaque Config.joiningExpiry : Nat → Word32

/-- Where the next page of ROUTE_LIST starts, between the last id listed and the next non-FREE one: R108 does not
say which. The arguments are those two ids (log 35). -/
opaque Config.nextPage : Nat → Nat → Nat

/-- The ramp target that a listed route entry reports while its ramp is absent: R108's text on route entries gives 0 for the
steps remaining alone. The arguments are the entry's id and its K_cur (log 46). -/
opaque Config.absentTarget : Nat → Nat → Nat

/-- What a slot of a RUNNING DRIVE port reads before an input frame has completed since the port entered RUNNING: R88 names
the frame most recently completed, and R75 discards the frames completed before. The arguments are the studio frame counter,
the port and the slot (log 39). -/
opaque Config.unheardSample : Nat → Nat → Nat → BitVec 24

/-- The level at which the surface line carries a data bit, true for the active level: R129 gives the levels of the start and
the stop bit alone. The argument is the bit (log 40). -/
opaque Config.dataLevel : Bool → Bool

end Sys2Proof
end

