-- ==== Sys2Proof/Machine/State.lean ====
section
/-! DEFINITION. The state of the part as plain data: one structure for each block of the block diagram (00), their
power-on values, the notices and replies they queue, and the outcomes a step can have. -/

namespace Sys2Proof.Machine

/-! ## Link and records (01) -/

/-- The link states of R1; SUSPENDED remembers whether its prior state was CONFIGURED. -/
inductive LinkState where
  | detached
  | attached
  | configured
  | suspended (fromConfigured : Bool)
deriving DecidableEq, Repr

/-- The span the part is in: initialising after power-on (R14), in a RESET (R15), or neither. -/
inductive Phase where
  | powerUp
  | resetting
  | running
deriving DecidableEq, Repr

/-- The cause a READY carries (R13). -/
inductive StartCause where
  | powerOn
  | resetCommand
deriving DecidableEq, Repr

/-- The lamp conditions of R19. -/
inductive LampCondition where
  | off
  | clockGood
  | clockAlarm
  | anyClip
  | streamActive
  | surfaceAlarm
  | faderAlarm
deriving DecidableEq, Repr

/-- The status codes of a reply, in code order (01, section 1.5). -/
inductive Status where
  | ok
  | adjusted
  | unknownKind
  | badLength
  | outOfRange
  | wrongState
  | notFound
  | inUse
  | noRoom
  | badOrder
  | heldBySurface
  | queueFull
deriving DecidableEq, Repr

/-! ## Studio clock (02) -/

/-- The six studio rates (00, Sample rates). -/
inductive Rate where
  | r44
  | r48
  | r88
  | r96
  | r176
  | r192
deriving DecidableEq, Repr

/-- A source's standing (02, section 2.2). -/
inductive Standing where
  | good
  | degraded
  | unusable
  | absent
deriving DecidableEq, Repr

/-- The clock states (02, section 2.1). -/
inductive ClockState where
  | free
  | locked
  | switching
  | holdover
deriving DecidableEq, Repr

/-- The selection mode (R27); the fixed source stands beside it. -/
inductive ClockMode where
  | auto
  | fixed
deriving DecidableEq, Repr

/-- The fallback reason (02, section 2.7). -/
inductive Fallback where
  | none
  | sourceUnusable
  | holdoverExpired
deriving DecidableEq, Repr

/-- The reasons of a CLOCK_STATE notice (R43). -/
inductive ClockReason where
  | lockAcquired
  | settled
  | lockTimeout
  | unlock
  | sourceLost
  | recovered
  | revert
  | holdoverExpired
  | settings
  | rateChange
deriving DecidableEq, Repr

/-- A source's record (02, section 2.2) with the edges counted in the check period in progress (R22). -/
structure SourceRec where
  standing : Standing
  quality : Nat
  revert : Nat
  lastEdges : Nat
  unlock : Bool
  edges : Nat
deriving DecidableEq, Repr

/-- INTERNAL's record, which nothing changes (R22). -/
def SourceRec.internalRec : SourceRec := ⟨.good, 0, 500, 0, false, 0⟩

/-- An external source's record at power-on (R46). -/
def SourceRec.absentRec : SourceRec := ⟨.absent, 255, 0, 0, false, 0⟩

/-- The Clock Unit. The timers hold the milliseconds left, none when stopped. -/
structure Cku where
  rate : Rate
  sources : List SourceRec
  priority : List ClockSource
  mode : ClockMode
  fixedSource : ClockSource
  revert : Bool
  clock : ClockState
  source : ClockSource
  fallback : Fallback
  lockTimer : Option Nat
  settleTimer : Option Nat
  holdoverTimer : Option Nat
  counter : Stamp
  unjudged : Bool
deriving DecidableEq, Repr

/-- R46. -/
def Cku.powerOn : Cku :=
  { rate := .r48
    sources := SourceRec.internalRec :: List.replicate 6 SourceRec.absentRec
    priority := [.internal]
    mode := .auto
    fixedSource := .internal
    revert := true
    clock := .free
    source := .internal
    fallback := .none
    lockTimer := none
    settleTimer := none
    holdoverTimer := none
    counter := 0
    unjudged := false }

/-! ## Host streams (03) -/

/-- The two streams, by selector (R48). -/
inductive StreamId where
  | playback
  | capture
deriving DecidableEq, Repr

/-- Stream states; capture has no PRIMING (03, opening table). -/
inductive StreamState where
  | idle
  | priming
  | running
deriving DecidableEq, Repr

/-- The reasons of a STREAM_STATE notice (R52). -/
inductive StreamReason where
  | started
  | stopped
  | primed
  | starved
  | rateChange
  | suspended
deriving DecidableEq, Repr

/-- An arrival-list entry (03, section 3.3). -/
structure Arrival where
  stamp : Stamp
  count : Nat
deriving DecidableEq, Repr

/-- The playback stream record; the target fill is half the depth. -/
structure Playback where
  state : StreamState
  configured : Nat
  effective : Nat
  depth : Nat
  buffer : List Frame
  underruns : Nat
  overruns : Nat
  malformed : Nat
  recentres : Nat
  repeatRun : Nat
  lastFrame : Frame
  arrivals : List Arrival
  unlisted : Nat
  lastResidence : Nat
  maxResidence : Nat
deriving DecidableEq, Repr

/-- The capture stream record. -/
structure Capture where
  state : StreamState
  configured : Nat
  effective : Nat
  depth : Nat
  buffer : List Frame
  underruns : Nat
  overruns : Nat
  headStamp : Stamp
  slipFlag : Bool
  unsteady : Bool
deriving DecidableEq, Repr

/-- The Stream Unit. -/
structure Stu where
  playback : Playback
  capture : Capture
  ring : List Stamp
  lastReport : Nat
deriving DecidableEq, Repr

/-- R47. -/
def Stu.powerOn : Stu :=
  { playback :=
      { state := .idle, configured := 2, effective := 2, depth := 64, buffer := []
        underruns := 0, overruns := 0, malformed := 0, recentres := 0, repeatRun := 0
        lastFrame := [0, 0], arrivals := [], unlisted := 0, lastResidence := 0, maxResidence := 0 }
    capture :=
      { state := .idle, configured := 2, effective := 2, depth := 64, buffer := []
        underruns := 0, overruns := 0, headStamp := 1, slipFlag := false, unsteady := false }
    ring := []
    lastReport := 393216 }

/-! ## Converter ports (04) -/

/-- Who drives a port's clocks (R74). -/
inductive PortMode where
  | drive
  | follow
deriving DecidableEq, Repr

/-- The port states (04, section 4.2). -/
inductive PortState where
  | off
  | starting
  | settling
  | running
  | held
  | conflict
deriving DecidableEq, Repr

/-- The reasons of a PORT_STATE notice (R80). -/
inductive PortReason where
  | started
  | stopped
  | resetDone
  | settled
  | clockLost
  | clockBack
  | rateChange
  | configured
deriving DecidableEq, Repr

/-- A port record (04, opening), with the DRIVE link's input frame most recently completed since the port entered
RUNNING (R75, R88) and its output frame for the next link frame (R74), the slots of the link frame last begun, and the overload input's level. -/
structure Port where
  mode : PortMode
  slots : Nat
  mute : Bool
  state : PortState
  resetTimer : Option Nat
  settle : Nat
  inBuf : List Frame
  outBuf : List Frame
  lastIn : Frame
  lastOut : Frame
  underSlips : Nat
  overSlips : Nat
  driveIn : Option Frame
  driveOut : Frame
  line : Option (List Slot)
  overload : Bool
deriving DecidableEq, Repr

/-- R73, with the overload input's level given by the outside. -/
def Port.powerOn (overload : Bool) : Port :=
  { mode := .drive, slots := 8, mute := false, state := .off, resetTimer := none, settle := 0
    inBuf := [], outBuf := [], lastIn := List.replicate 8 0, lastOut := List.replicate 8 0, underSlips := 0, overSlips := 0
    driveIn := none, driveOut := List.replicate 8 0, line := none, overload := overload }

/-! ## Route table, mix buses, meters (05, 06) -/

/-- A signal point (00, Signal points; R91). -/
inductive Point where
  | play (c : Nat)
  | pin (p s : Nat)
  | bus (b : Nat)
  | recCh (c : Nat)
  | pout (p s : Nat)
  | busIn (b : Nat)
deriving DecidableEq, Repr

/-- A gain setting: OFF, or tenths of a decibel (00, Gain setting). -/
inductive Gain where
  | off
  | tenths (g : Int)
deriving DecidableEq, Repr

/-- The origin of a surface event: LOCAL, or a module's address (00, Origin). -/
inductive Origin where
  | bank
  | remote (address : Nat)
deriving DecidableEq, Repr

/-- A surface control: origin and control number (R96). -/
structure Control where
  origin : Origin
  number : Nat
deriving DecidableEq, Repr

/-- A ramp under way (06, section 6.2). -/
structure Ramp where
  start : Nat
  target : Nat
  length : Nat
  step : Nat
deriving DecidableEq, Repr

/-- What a route and a bus record have alike: gain, mute, coefficient, ramp, holder (R95, R105). -/
structure GainRec where
  gain : Gain
  mute : Bool
  coeff : Nat
  ramp : Option Ramp
  holder : Option Control
deriving DecidableEq, Repr

/-- A route entry's state (05, section 5.2). -/
inductive RouteState where
  | free
  | active
  | releasing
deriving DecidableEq, Repr

/-- A route entry. -/
structure Route where
  state : RouteState
  source : Point
  dest : Point
  invert : Bool
  level : GainRec
deriving DecidableEq, Repr

/-- A FREE entry: its other fields have no meaning (05, section 5.2). -/
def Route.freeEntry : Route := ⟨.free, .play 0, .recCh 0, false, ⟨.tenths 0, false, 0, none, none⟩⟩

/-- A bus record at power-on (R92). -/
def GainRec.busPowerOn : GainRec := ⟨.tenths 0, false, 1048576, none, none⟩

/-- Why a route entry became FREE (R101). -/
inductive ReleaseReason where
  | faded
  | cut
deriving DecidableEq, Repr

/-- A meter slot (06, section 6.5). -/
structure MeterSlot where
  point : Option Point
  display : Option (Nat × Nat)
  peak : Nat
  code : Nat
  hold : Nat
  age : Nat
  clip : Bool
  subscribed : Bool
deriving DecidableEq, Repr

/-- R120. -/
def MeterSlot.powerOn : MeterSlot := ⟨none, none, 0, 61, 0, 0, false, false⟩

/-- The Route and Mix Engine. -/
structure Rme where
  routes : List Route
  buses : List GainRec
  rampLength : Nat
  overload : List Bool
  slots : List MeterSlot
  holdTime : Nat
  frameCount : Nat
deriving DecidableEq, Repr

/-- R92, R120. -/
def Rme.powerOn : Rme :=
  { routes := List.replicate 128 Route.freeEntry
    buses := List.replicate 8 GainRec.busPowerOn
    rampLength := 256
    overload := List.replicate 4 false
    slots := List.replicate 64 MeterSlot.powerOn
    holdTime := 16
    frameCount := 0 }

/-! ## Surface bus (07) and discovery (08) -/

/-- The bus states (07, section 7.7). -/
inductive BusState where
  | off
  | running
  | clearing
  | fault
deriving DecidableEq, Repr

/-- The reasons of a BUS_STATE notice (R148). -/
inductive BusReason where
  | enabled
  | disabled
  | stuck
  | cleared
  | clearFailed
deriving DecidableEq, Repr

/-- The eight kinds of frame the part sends (R132). -/
inductive FrameKind where
  | poll
  | call
  | assign
  | release
  | refuse
  | write
  | setControl
  | meter
deriving DecidableEq, Repr

/-- A surface frame without its length and CRC, which follow from it (07, section 7.2). -/
structure BusFrame where
  address : Nat
  kind : FrameKind
  payload : List Byte
deriving DecidableEq, Repr

/-- Who owns a transaction (R134). -/
inductive Owner where
  | round
  | search
  | output (queue : QueueId)
  | controller
deriving DecidableEq, Repr

/-- The phases of a transaction (07, section 7.3). -/
inductive TxnPhase where
  | sending
  | awaiting
  | receiving
deriving DecidableEq, Repr

/-- The transaction in flight (R134). -/
structure Txn where
  frame : BusFrame
  owner : Owner
  phase : TxnPhase
deriving DecidableEq, Repr

/-- A prefix of a serial: its length, and a value whose top bits are the prefix (08, section 8.3). -/
structure Stem where
  length : Nat
  value : Serial
deriving DecidableEq, Repr

/-- The six module kinds (08, section 8.1). -/
inductive ModuleKind where
  | faderStrip
  | buttonPanel
  | meterBridge
  | display
  | transport
  | generic
deriving DecidableEq, Repr

/-- An entry's standing (08, section 8.1). -/
inductive ModuleState where
  | joining
  | online
  | suspect
  | silent
deriving DecidableEq, Repr

/-- What a clean ANSWER tells of a module (R157). -/
structure Answer where
  serial : Serial
  kind : ModuleKind
  controls : Nat
  touch : Bool
  meters : Nat
deriving DecidableEq, Repr

/-- The discovery step in flight (R155). For ASSIGN: the address, the serial, and for a rejoin the state before
JOINING. -/
inductive SearchStep where
  | call (stem : Stem)
  | assign (address : Nat) (serial : Serial) (rejoinedFrom : Option ModuleState)
  | refuse (serial : Serial)
deriving DecidableEq, Repr

/-- The discovery search (R155), the top of its stack first. -/
structure Search where
  running : Bool
  stack : List Stem
  step : Option SearchStep
  answer : Option Answer
  ending : Bool
deriving DecidableEq, Repr

/-- IDLE with an empty stack (R155). -/
def Search.idle : Search := ⟨false, [], none, none, false⟩

/-- The Surface Bus Controller; `breakFound` tells whether the last end of SENDING found the line in break (R135), and `cutShort`
is the frame that a RESET stopped while it was being sent (R151, log 47). -/
structure Sbc where
  bus : BusState
  enable : Bool
  periodCode : Nat
  lifetime : Nat
  auto : Bool
  txn : Option Txn
  roundList : List Nat
  roundCounter : BitVec 16
  search : Search
  millis : Word32
  stuckTimer : Bool
  attempt : Nat
  faultTimer : Option Nat
  faultAttempt : Bool
  noReplies : Nat
  corrupts : Nat
  overruns : Nat
  stucks : Nat
  free : Bool
  lineBreak : Bool
  breakFound : Bool
  startUp : Bool
  cutShort : Option BusFrame
deriving DecidableEq, Repr

/-- R151, with the line's level given by the outside. -/
def Sbc.powerOn (lineBreak : Bool) : Sbc :=
  { bus := .running, enable := true, periodCode := 1, lifetime := 4, auto := true
    txn := none, roundList := [], roundCounter := 0, search := Search.idle, millis := 0
    stuckTimer := false, attempt := 0, faultTimer := none, faultAttempt := false
    noReplies := 0, corrupts := 0, overruns := 0, stucks := 0
    free := false, lineBreak := lineBreak, breakFound := false, startUp := false, cutShort := none }

/-! ## Module table and event filter (08) -/

/-- A module entry (08, section 8.1). -/
structure Entry where
  address : Nat
  serial : Serial
  kind : ModuleKind
  controls : Nat
  touch : Bool
  meters : Nat
  state : ModuleState
  quality : Nat
  expiry : Word32
deriving DecidableEq, Repr

/-- The Module Table; entries stand in ascending address order. -/
structure Mtb where
  entries : List Entry
  discarded : Nat
deriving DecidableEq, Repr

/-- R152. -/
def Mtb.powerOn : Mtb := ⟨[], 0⟩

/-- The reasons of a MODULE_STATE notice (R161). -/
inductive ModuleReason where
  | suspect
  | silent
  | online
  | joined
  | rejoined
  | lost
  | refused
deriving DecidableEq, Repr

/-- The details of a MODULE_STATE notice (R161). -/
inductive ModuleDetail where
  | none
  | expired
  | evicted
  | forgotten
  | noConfirm
  | tableFull
  | duplicateSerial
deriving DecidableEq, Repr

/-- The content of a MODULE_STATE notice (R161); a state of none is NONE. -/
structure ModuleNotice where
  address : Nat
  serial : Serial
  previous : Option ModuleState
  state : Option ModuleState
  reason : ModuleReason
  detail : ModuleDetail
  quality : Nat
deriving DecidableEq, Repr

/-- The kinds of surface event (08, section 8.6). -/
inductive EventKind where
  | fader
  | touch
  | button
  | encoder
  | value
deriving DecidableEq, Repr

/-- An event record (08, section 8.6). -/
structure SurfaceEvent where
  control : Control
  kind : EventKind
  value : Int
  stamp : Word32
deriving DecidableEq, Repr

/-- What a filter does with an event (R168). -/
inductive FilterAction where
  | notify
  | notifyLatest
  | discard
deriving DecidableEq, Repr

/-- An event filter (08, section 8.7); no origin stands for ANY, bit n of the kind set for event kind n. -/
structure Filter where
  enable : Bool
  origin : Option Origin
  low : Nat
  high : Nat
  kinds : BitVec 5
  action : FilterAction
deriving DecidableEq, Repr

/-- R167. -/
def Filter.powerOn : Filter := ⟨false, none, 0, 63, 31, .notify⟩

/-- The Event Filter. -/
structure Evf where
  filters : List Filter
  default : FilterAction
deriving DecidableEq, Repr

/-- R167. -/
def Evf.powerOn : Evf := ⟨List.replicate 16 Filter.powerOn, .notify⟩

/-! ## Surface output (09) -/

/-- Who produced a queued frame (R172). -/
inductive FrameOrigin where
  | host
  | feedback
  | meter
  | removal
deriving DecidableEq, Repr

/-- The end mark of a frame in flight (R179, R180). -/
inductive EndMark where
  | purged
  | aborted
deriving DecidableEq, Repr

/-- How a host frame ended (R181). -/
inductive FrameResult where
  | delivered
  | refused
  | moduleBusy
  | noReply
  | corrupt
  | sent
  | dropped
  | purged
  | aborted
deriving DecidableEq, Repr

/-- A queued frame (09, section 9.1). The delay is in microseconds after the event that set it (R178); the queue is
the list it stands in and the block count follows from the payload (R172). -/
structure QFrame where
  origin : FrameOrigin
  frame : BusFrame
  retries : Nat
  waits : Nat
  delay : Option Nat
  attempts : Nat
  notify : Bool
  tag : Option Byte
  inFlight : Bool
  renewed : Bool
  mark : Option EndMark
deriving DecidableEq, Repr

/-- A record of the send history (R181). -/
structure HistoryRecord where
  tag : Option Byte
  address : Nat
  kind : FrameKind
  result : FrameResult
  attempts : Nat
  millis : Word32
deriving DecidableEq, Repr

/-- The Surface Output; the head of each list is the head of its queue. -/
structure Sou where
  urgent : List QFrame
  normal : List QFrame
  meter : List QFrame
  history : List HistoryRecord
deriving DecidableEq, Repr

/-- R171. -/
def Sou.powerOn : Sou := ⟨[], [], [], []⟩

/-! ## Bindings and faders (10) -/

/-- What a binding acts on (10, section 10.1). -/
inductive Target where
  | routeGain (id : Nat)
  | routeMute (id : Nat)
  | busGain (b : Nat)
  | busMute (b : Nat)
deriving DecidableEq, Repr

/-- How events act on the target (10, section 10.1). -/
inductive BindMode where
  | absolute
  | relative
  | toggle
deriving DecidableEq, Repr

/-- A binding's state (10, section 10.1). -/
inductive BindState where
  | empty
  | active
  | orphaned
deriving DecidableEq, Repr

/-- Why a binding was orphaned (R192). -/
inductive OrphanCause where
  | none
  | lostModule
  | lostRoute
deriving DecidableEq, Repr

/-- A binding (10, section 10.1). -/
structure Binding where
  state : BindState
  cause : OrphanCause
  control : Control
  serial : Option Serial
  target : Target
  mode : BindMode
  step : Nat
  feedback : Bool
deriving DecidableEq, Repr

/-- An EMPTY binding (R184); its other fields mean nothing. -/
def Binding.emptyEntry : Binding :=
  ⟨.empty, .none, ⟨.bank, 0⟩, none, .routeGain 0, .absolute, 1, false⟩

/-- How an untouched fader rests (10, section 10.5). -/
inductive RestMode where
  | brake
  | coast
deriving DecidableEq, Repr

/-- A fader channel's state (10, section 10.5). -/
inductive FaderState where
  | disabled
  | idle
  | moving
  | stalled
  | fault
  | held
deriving DecidableEq, Repr

/-- A channel's fault reason (10, section 10.5). -/
inductive FaultReason where
  | none
  | overcurrent
  | openLoad
deriving DecidableEq, Repr

/-- The reasons of a FADER_STATE notice (R201). -/
inductive FaderReason where
  | enabled
  | disabled
  | move
  | arrived
  | touched
  | stalled
  | overcurrent
  | openLoad
  | supplyLow
  | supplyBack
  | cleared
deriving DecidableEq, Repr

/-- A fader channel (10, section 10.5), with its touch sensor as last sampled (R193, R194), and the deadband and rest mode that the
last servo period read, which are in force until the next one reads those stored (R193). -/
structure Fader where
  enable : Bool
  kp : Nat
  deadband : Nat
  minDuty : Nat
  maxDuty : Nat
  rest : RestMode
  limit : Nat
  state : FaderState
  touch : Bool
  target : Nat
  position : Nat
  reported : Nat
  duty : Int
  motion : Nat
  overRun : Nat
  openRun : Nat
  fault : FaultReason
  touchSensor : Bool
  deadbandInForce : Nat
  restInForce : RestMode
deriving DecidableEq, Repr

/-- R193. -/
def Fader.powerOn : Fader :=
  { enable := false, kp := 16, deadband := 4, minDuty := 40, maxDuty := 255, rest := .brake, limit := 200
    state := .disabled, touch := false, target := 0, position := 0, reported := 0, duty := 0, motion := 0
    overRun := 0, openRun := 0, fault := .none, touchSensor := false, deadbandInForce := 4, restInForce := .brake }

/-- The Fader Servo: eight channels and the motor-supply-good input. -/
structure Fsv where
  channels : List Fader
  supplyGood : Bool
deriving DecidableEq, Repr

/-- A channel after a RESET: the defaults of the table, whose position is "as sampled", with its last sample (R193). -/
def Fader.afterReset (f : Fader) : Fader := { Fader.powerOn with position := f.position, touchSensor := f.touchSensor }

/-- The Fader Servo after a RESET: every channel at its defaults, the supply input as it stands (R193). -/
def Fsv.afterReset (v : Fsv) : Fsv := { v with channels := v.channels.map Fader.afterReset }

/-- R193 before any sample, with the supply input's level given by the outside. -/
def Fsv.powerOn (supplyGood : Bool) : Fsv := ⟨List.replicate 8 Fader.powerOn, supplyGood⟩

/-! ## Notices and replies -/

/-- An entry of a METER_REPORT (R124). -/
structure MeterEntry where
  slot : Nat
  code : Nat
  holdCode : Nat
  clip : Bool
deriving DecidableEq, Repr

/-- The content of a notice, by kind, in code order (11, section 11.2). -/
inductive NoticeBody where
  | ready (cause : StartCause)
  | clockState (clock : ClockState) (source : ClockSource) (rate : Rate) (fallback : Fallback) (reason : ClockReason)
  | sourceState (source : ClockSource) (previous state : Standing) (quality : Nat)
  | streamState (stream : StreamId) (previous state : StreamState) (reason : StreamReason)
      (channels depth : Bool) (effective depthNow : Nat)
  | streamSlip (stream : StreamId) (underruns overruns : Nat) (stamp : Word32)
  | portState (port : Nat) (previous state : PortState) (reason : PortReason) (mode : PortMode) (slots : Nat)
  | routeReleased (id : Nat) (source dest : Point) (reason : ReleaseReason)
  | meterReport (stamp : Word32) (entries : List MeterEntry)
  | busState (previous state : BusState) (reason : BusReason) (stucks : Nat)
  | moduleState (content : ModuleNotice)
  | surfaceDone (content : HistoryRecord)
  | event (filter : Nat) (action : FilterAction) (content : SurfaceEvent)
  | faderState (channel : Nat) (previous state : FaderState) (reason : FaderReason) (position target : Nat)
      (fault : FaultReason)
deriving DecidableEq, Repr

/-- A queued notice with its gap bit (R10). -/
structure Notice where
  gap : Bool
  body : NoticeBody
deriving DecidableEq, Repr

/-- A source as CLOCK_STATUS reports it (R42). -/
structure SourceReport where
  standing : Standing
  quality : Nat
  revert : Nat
  lastEdges : Nat
deriving DecidableEq, Repr

/-- A record as ROUTE_LIST reports it (R108). While the ramp is absent the steps remaining are 0; so is the ramp target of a bus
record, and that of a route entry is a free value (log 46). -/
structure LevelReport where
  gain : Gain
  mute : Bool
  coeff : Nat
  rampTarget : Nat
  stepsLeft : Nat
  holder : Option Control
deriving DecidableEq, Repr

/-- A route entry as ROUTE_LIST reports it (R108). -/
structure RouteReport where
  id : Nat
  state : RouteState
  source : Point
  dest : Point
  invert : Bool
  level : LevelReport
deriving DecidableEq, Repr

/-- A meter slot as METER_READ reports it (R128). -/
structure SlotReport where
  slot : Nat
  point : Option Point
  display : Option (Nat × Nat)
  code : Nat
  holdCode : Nat
  clip : Bool
  subscribed : Bool
deriving DecidableEq, Repr

/-- A fader channel's settings (R193). -/
structure FaderSettings where
  enable : Bool
  kp : Nat
  deadband : Nat
  minDuty : Nat
  maxDuty : Nat
  rest : RestMode
  limit : Nat
deriving DecidableEq, Repr

/-- The results that replies of status OK or ADJUSTED carry, by the owning chapter's fields (R4). -/
inductive Result where
  | identity (part revision : Nat) (cause : StartCause) (counter : Stamp) (mask : Half)
      (lampA lampB : LampCondition) (fill : Nat) (gap : Bool)
  | mask (applied : Half)
  | rate (applied : Rate)
  | sources (priority : List ClockSource) (mode : ClockMode) (fixedSource : ClockSource) (revert : Bool)
      (clock : ClockState) (source : ClockSource)
  | clock (rate : Rate) (clock : ClockState) (source : ClockSource) (fallback : Fallback) (mode : ClockMode)
      (fixedSource : ClockSource) (revert : Bool) (priority : List ClockSource) (timerLeft : Nat) (counter : Stamp)
      (records : List SourceReport)
  | streamConfig (stream : StreamId) (configured effective depth : Nat)
  | stream (state : StreamState) (configured effective depth target fill underruns overruns malformed recentres
      repeatRun lastResidence maxResidence arrivals unlisted : Nat) (headStamp : Stamp) (ringFill report : Nat)
  | portConfig (mode : PortMode) (slots : Nat)
  | portMute (mute : Bool)
  | port (mode : PortMode) (slots : Nat) (mute : Bool) (state : PortState) (resetLine muteLine overload : Bool)
      (resetTimer settle inFill outFill underSlips overSlips : Nat)
  | routeAdded (id : Nat) (gain : Gain)
  | routeGain (id : Nat) (gain : Gain) (target : Nat)
  | routeMute (id : Nat) (mute : Bool)
  | routes (rampLength : Nat) (buses : List LevelReport) (count next : Nat) (entries : List RouteReport)
  | bus (b : Nat) (gain : Gain) (mute : Bool) (target : Nat)
  | rampLength (length : Nat)
  | meterPoint (point : Option Point) (display : Option (Nat × Nat))
  | subscriptions (set : BitVec 64) (holdTime : Nat)
  | meters (entries : List SlotReport)
  | surfaceSettings (enable : Bool) (periodCode lifetime : Nat) (auto : Bool)
  | surface (bus : BusState) (enable : Bool) (periodCode lifetime : Nat) (auto : Bool) (millis : Word32)
      (roundCounter : BitVec 16) (roundLength : Nat) (txn : Option (Nat × FrameKind × TxnPhase)) (attempt faultLeft : Nat)
      (searching : Bool) (stackFill noReplies corrupts overruns stucks : Nat)
  | discovery (started : Bool) (stackFill : Nat)
  | modules (count discarded : Nat) (entries : List Entry)
  | forgotten (addresses : List Nat)
  | filter (number : Nat) (stored : Filter)
  | defaultAction (action : FilterAction)
  | filters (default : FilterAction) (filters : List Filter)
  | queued (queue : QueueId) (position blocks dropped : Nat)
  | aborted (removed : Nat) (inFlight : Bool)
  | history (records : List HistoryRecord) (frames blocks : List Nat) (freeBlocks : Nat)
      (inFlight : Option (QueueId × Nat × Option Byte))
  | binding (stored : Binding)
  | bindings (entries : List (Binding × Bool))
  | faderSettings (settings : FaderSettings)
  | faderPosition (position : Nat)
  | faderStanding (state : FaderState)
  | fader (settings : FaderSettings) (state : FaderState) (touch : Bool) (target position reported : Nat) (duty : Int)
      (motion overRun openRun : Nat) (fault : FaultReason) (supplyGood : Bool)
deriving DecidableEq, Repr

/-- A queued reply (R4): kind and tag of the command, status, and the result that OK and ADJUSTED carry. -/
structure Reply where
  kind : Byte
  tag : Byte
  status : Status
  result : Option Result
deriving DecidableEq, Repr

/-- A record of the control-in pipe (R9). -/
inductive Record where
  | reply (content : Reply)
  | notice (content : Notice)
deriving DecidableEq, Repr

/-- What the part last answered on the computer port (R1, R3, R5, R9, R61). -/
inductive LinkAnswer where
  | none
  | accepted
  | notReady
  | stall
  | record (content : Record)
  | capture (bytes : List Byte)
  | rateReport (value : Nat)
deriving DecidableEq, Repr

/-- The link reference, a frame-rate clock that the Link Interface derives from the starts of service intervals (R22): the edges
of the interval in progress that are still to come, and the part of an edge, in 8000ths, that the intervals so far leave over. -/
structure LinkReference where
  due : Nat
  fraction : Nat
deriving DecidableEq, Repr

/-- The Link Interface. -/
structure Lif where
  link : LinkState
  transmit : Option Record
  answer : LinkAnswer
  reference : LinkReference
deriving DecidableEq, Repr

/-- R14, with the link reference at the start of its first edge (log 51). -/
def Lif.powerOn : Lif := ⟨.detached, none, .none, ⟨0, 0⟩⟩

/-- The Message Unit. -/
structure Msu where
  commands : List (List Byte)
  replies : List Reply
  notices : List Notice
  mask : Half
  gap : Bool
  lampA : LampCondition
  lampB : LampCondition
  cause : StartCause
deriving DecidableEq, Repr

/-- R14. -/
def Msu.powerOn : Msu := ⟨[], [], [], 0, false, .clockGood, .anyClip, .powerOn⟩

/-! ## The whole state -/

/-- The state of the part, block by block, with the queue of commands that wait. -/
structure State where
  phase : Phase
  lif : Lif
  msu : Msu
  cku : Cku
  stu : Stu
  ptu : List Port
  rme : Rme
  sbc : Sbc
  mtb : Mtb
  evf : Evf
  sou : Sou
  bdt : List Binding
  fsv : Fsv
  fresh : Nat
  pending : List Instr
deriving DecidableEq, Repr

/-- No step of the part faults: errors are statuses, counts, notices and states (01, section 1.5). -/
inductive Fault where
deriving DecidableEq, Repr

/-- The refusals. -/
inductive Refusal where
  /-- Raised by `exec` alone, for a row that has no meaning yet; safe: the run stops. -/
  | notModelled (mnemonic : String)
deriving DecidableEq, Repr

/-- The part at power-on, before initialisation is complete (R14, R46, R47, R73, R92, R120, R151, R152, R167, R171,
R184, R193), with the input pins at the levels of log 8 and nothing in the queue. -/
def State.reset : State :=
  { phase := .powerUp
    lif := Lif.powerOn
    msu := Msu.powerOn
    cku := Cku.powerOn
    stu := Stu.powerOn
    ptu := List.replicate 4 (Port.powerOn false)
    rme := Rme.powerOn
    sbc := Sbc.powerOn false
    mtb := Mtb.powerOn
    evf := Evf.powerOn
    sou := Sou.powerOn
    bdt := List.replicate 32 Binding.emptyEntry
    fsv := Fsv.powerOn true
    fresh := 0
    pending := [] }

/-! ## Updates of one block -/

/-- The state with its `phase` replaced. -/
def State.withPhase (s : State) (x : Phase) : State := { s with phase := x }

/-- The state with its `lif` replaced. -/
def State.withLif (s : State) (x : Lif) : State := { s with lif := x }

/-- The state with its `msu` replaced. -/
def State.withMsu (s : State) (x : Msu) : State := { s with msu := x }

/-- The state with its `cku` replaced. -/
def State.withCku (s : State) (x : Cku) : State := { s with cku := x }

/-- The state with its `stu` replaced. -/
def State.withStu (s : State) (x : Stu) : State := { s with stu := x }

/-- The state with its `ptu` replaced. -/
def State.withPtu (s : State) (x : List Port) : State := { s with ptu := x }

/-- The state with its `rme` replaced. -/
def State.withRme (s : State) (x : Rme) : State := { s with rme := x }

/-- The state with its `sbc` replaced. -/
def State.withSbc (s : State) (x : Sbc) : State := { s with sbc := x }

/-- The state with its `mtb` replaced. -/
def State.withMtb (s : State) (x : Mtb) : State := { s with mtb := x }

/-- The state with its `evf` replaced. -/
def State.withEvf (s : State) (x : Evf) : State := { s with evf := x }

/-- The state with its `sou` replaced. -/
def State.withSou (s : State) (x : Sou) : State := { s with sou := x }

/-- The state with its `bdt` replaced. -/
def State.withBdt (s : State) (x : List Binding) : State := { s with bdt := x }

/-- The state with its `fsv` replaced. -/
def State.withFsv (s : State) (x : Fsv) : State := { s with fsv := x }

/-- The state with its `fresh` replaced. -/
def State.withFresh (s : State) (x : Nat) : State := { s with fresh := x }

/-- The state with its `pending` replaced. -/
def State.withPending (s : State) (x : List Instr) : State := { s with pending := x }

end Sys2Proof.Machine
end

