-- ==== Sys2Proof/Machine/Codec.lean ====
section
/-! DEFINITION. Byte orders and checks of the wires: fields sent least significant byte first (00, Byte order),
sample containers and link slots (R74, R203), the CRC of surface frames (R131), kind codes (11, section 11.4). -/

namespace Sys2Proof.Machine

/-- The low `n` bytes of a number, least significant first (00, Byte order). -/
def leBytes (n v : Nat) : List Byte := (List.range n).map (fun i => BitVec.ofNat 8 (v / 256 ^ i))

/-- The number that bytes stand for, least significant first (00, Byte order). -/
def leNat : List Byte → Nat
  | [] => 0
  | b :: rest => b.toNat + 256 * leNat rest

/-- A two-byte field, least significant byte first. -/
def half (low high : Byte) : Half := high ++ low

/-- The samples of a run of containers; byte 0 of each is ignored (R203). -/
def samplesOf : List Byte → List Sample
  | _ :: a :: b :: c :: rest => (c ++ b ++ a : BitVec 24).toInt :: samplesOf rest
  | _ => []

/-- A sample's container: byte 0 is 0, then the 24-bit sample (R203). -/
def containerOf (x : Sample) : List Byte := 0 :: leBytes 3 (BitVec.ofInt 24 x).toNat

/-- The first `n` frames of `width` samples each. -/
def framesOf (width : Nat) : Nat → List Sample → List Frame
  | 0, _ => []
  | n + 1, xs => xs.take width :: framesOf width n (xs.drop width)

/-- The sample in the top 24 bits of a slot; the bottom 8 are ignored (R74). -/
def sampleOfSlot (w : Slot) : Sample := (w.extractLsb' 8 24).toInt

/-- A slot that carries a sample; the bottom 8 bits are 0 (R74). -/
def slotOfSample (x : Sample) : Slot := BitVec.ofInt 24 x ++ (0 : Byte)

/-- One shift of the CRC with x^8 + x^2 + x + 1, most significant bit first (R131). -/
def crcShift (c : Byte) : Byte := if c.msb then (c <<< 1) ^^^ 7 else c <<< 1

/-- The CRC after one more byte (R131). -/
def crcByte (c b : Byte) : Byte :=
  crcShift (crcShift (crcShift (crcShift (crcShift (crcShift (crcShift (crcShift (c ^^^ b))))))))

/-- The CRC of a run of bytes, from 0 (R131). -/
def crc8 (bytes : List Byte) : Byte := bytes.foldl crcByte 0

/-- The codes of the frames the part sends (11, section 11.4). -/
def FrameKind.code : FrameKind → Byte
  | .poll => 1
  | .call => 2
  | .assign => 3
  | .release => 4
  | .refuse => 5
  | .write => 6
  | .setControl => 7
  | .meter => 8

/-- The characters of a frame as sent: address, kind, length, payload, CRC (R131, 11 section 11.4). -/
def BusFrame.characters (f : BusFrame) : List Byte :=
  let body := BitVec.ofNat 8 f.address :: f.kind.code :: BitVec.ofNat 8 f.payload.length :: f.payload
  body ++ [crc8 body]

/-- The kinds of reply (11, section 11.4). -/
inductive ReplyKind where
  | report
  | empty
  | answer
  | confirm
  | ack
  | nak
  | wait
deriving DecidableEq, Repr

/-- The reply kind a code names (11, section 11.4). -/
def replyKindOf (b : Byte) : Option ReplyKind :=
  match b.toNat with
  | 0x81 => some .report
  | 0x82 => some .empty
  | 0x83 => some .answer
  | 0x84 => some .confirm
  | 0x85 => some .ack
  | 0x86 => some .nak
  | 0x87 => some .wait
  | _ => none

/-- Whether a reply's length suits its kind (R132). -/
def ReplyKind.lengthOk : ReplyKind → Nat → Bool
  | .report, n => n % 4 == 0 && decide (n ≤ 32)
  | .answer, n => n == 10
  | _, n => n == 0

/-- The content of a prefix for a CALL: length, then the value (11, section 11.4). -/
def Stem.bytes (p : Stem) : List Byte := BitVec.ofNat 8 p.length :: leBytes 6 p.value.toNat

/-- A serial as sent (R204). -/
def serialBytes (x : Serial) : List Byte := leBytes 6 x.toNat

end Sys2Proof.Machine
end

