-- ==== Sys2Proof/Machine/Levels.lean ====
section
/-! DEFINITION. The numbers the spec gives by formula or table: family limits (00), the nominal rate report (R63), the
coefficient of a gain setting (R109), meter codes (R122), the fader taper and its inverse (R187, R191). -/

namespace Sys2Proof.Machine

/-- The rate in hertz (00, Sample rates). -/
def Rate.hertz : Rate → Nat
  | .r44 => 44100
  | .r48 => 48000
  | .r88 => 88200
  | .r96 => 96000
  | .r176 => 176400
  | .r192 => 192000

/-- The family's max stream channels (00, Sample rates). -/
def Rate.maxChannels : Rate → Nat
  | .r44 | .r48 => 32
  | .r88 | .r96 => 16
  | .r176 | .r192 => 8

/-- The family's max port slots (00, Sample rates). -/
def Rate.maxSlots : Rate → Nat
  | .r44 | .r48 => 16
  | .r88 | .r96 => 8
  | .r176 | .r192 => 4

/-- The family's max frames per packet (00, Sample rates). -/
def Rate.maxFrames : Rate → Nat
  | .r44 | .r48 => 7
  | .r88 | .r96 => 13
  | .r176 | .r192 => 25

/-- The family's min buffer depth (00, Sample rates). -/
def Rate.minDepth : Rate → Nat
  | .r44 | .r48 => 16
  | .r88 | .r96 => 32
  | .r176 | .r192 => 64

/-- The nominal rate report N = round(rate in Hz × 8.192) (R63). -/
def Rate.nominal (r : Rate) : Nat := (r.hertz * 8192 + 500) / 1000

/-- The greatest `t` below 2^bits with (2t - 1)^n × den ≤ num: the nearest integer to half the n-th root of num/den,
half rounded up. -/
def halfRoot (n num den : Nat) : Nat → Nat → Nat
  | 0, acc => acc
  | bits + 1, acc =>
    let t := acc + 2 ^ bits
    halfRoot n num den bits (if (2 * t - 1) ^ n * den ≤ num then t else acc)

/-- K(g) = round(2^20 × 10^(g/200)) for a gain setting within -1200..+120, and 0 for OFF (R109). The 200-th power of
twice the exact value is 2^4200 × 10^g. -/
def Gain.coeff : Gain → Nat
  | .off => 0
  | .tenths (.ofNat g) => halfRoot 200 (2 ^ 4200 * 10 ^ g) 1 23 0
  | .tenths (.negSucc g) => halfRoot 200 (2 ^ 4200) (10 ^ (g + 1)) 23 0

/-- The threshold T(a) = round(8,388,607 × 10^(-a/20)) (R122). -/
def meterThreshold (a : Nat) : Nat := halfRoot 20 (16777214 ^ 20) (10 ^ a) 24 0

/-- The smallest of the codes `a`, `a + 1`, … that a peak reaches, 61 when it reaches none up to 60 (R122). -/
def meterCodeFrom (peak : Nat) : Nat → Nat → Nat
  | 0, a => a
  | n + 1, a => if meterThreshold a ≤ peak then a else meterCodeFrom peak n (a + 1)

/-- The meter code of a peak magnitude (R122). -/
def meterCode (peak : Nat) : Nat := meterCodeFrom peak 61 0

/-- The gain setting of a fader position (R187). -/
def taper (p : Nat) : Gain :=
  if p = 0 then .off
  else if p ≤ 255 then .tenths (-1200 + ((p - 1) * 800 / 254 : Nat))
  else if p ≤ 767 then .tenths (-400 + ((p - 256) * 400 / 511 : Nat))
  else .tenths ((p - 768) * 100 / 255 : Nat)

/-- Whether a position's gain setting is at least `g` tenths of a decibel. -/
def taperAtLeast (g : Int) (p : Nat) : Bool :=
  match taper p with
  | .off => false
  | .tenths t => decide (g ≤ t)

/-- The first of the positions `p`, `p + 1`, … that reaches `g`, at most `n` further on. -/
def inverseFrom (g : Int) : Nat → Nat → Nat
  | 0, p => p
  | n + 1, p => if taperAtLeast g p then p else inverseFrom g n (p + 1)

/-- The inverse position of a gain setting: 0 for OFF, else the smallest p in 1-1023 with taper(p) at least g, and
1023 when g exceeds +100 (R191). -/
def inversePosition : Gain → Nat
  | .off => 0
  | .tenths g => inverseFrom g 1022 1

/-- A value held within 0..65,535 (the saturating counts of 03, 04, 07, 08). -/
def saturate16 (n : Nat) : Nat := min 65535 n

end Sys2Proof.Machine
end

