-- ==== Sys2Proof/Machine/Operands.lean ====
section
/-! DEFINITION. How the payload fields of a command are read (R202): each code to the value it names, none where the
code is not listed. -/

namespace Sys2Proof.Machine

/-- on/off and set/clear fields. -/
def flagOf (b : Byte) : Option Bool :=
  match b.toNat with
  | 0 => some false
  | 1 => some true
  | _ => none

/-- An index below a limit. -/
def indexBelow (n : Nat) (b : Byte) : Option Nat := if b.toNat < n then some b.toNat else none

/-- Studio rate codes. -/
def rateOf (b : Byte) : Option Rate :=
  match b.toNat with
  | 0 => some .r44
  | 1 => some .r48
  | 2 => some .r88
  | 3 => some .r96
  | 4 => some .r176
  | 5 => some .r192
  | _ => none

/-- Clock source codes. -/
def sourceOf (b : Byte) : Option ClockSource :=
  match b.toNat with
  | 0 => some .internal
  | 1 => some .wordclock
  | 2 => some .link
  | 3 => some (.port 0)
  | 4 => some (.port 1)
  | 5 => some (.port 2)
  | 6 => some (.port 3)
  | _ => none

/-- The codes of a list of sources; none when one is out of range. -/
def sourcesOf : List Byte → Option (List ClockSource)
  | [] => some []
  | b :: rest =>
    match sourceOf b, sourcesOf rest with
    | some x, some xs => some (x :: xs)
    | _, _ => none

/-- CLOCK_SET_SOURCES mode: 0 AUTO, 1 FIXED (11, section 11.2). -/
def clockModeOf (b : Byte) : Option ClockMode :=
  match b.toNat with
  | 0 => some .auto
  | 1 => some .fixed
  | _ => none

/-- Lamp condition codes. -/
def lampOf (b : Byte) : Option LampCondition :=
  match b.toNat with
  | 0 => some .off
  | 1 => some .clockGood
  | 2 => some .clockAlarm
  | 3 => some .anyClip
  | 4 => some .streamActive
  | 5 => some .surfaceAlarm
  | 6 => some .faderAlarm
  | _ => none

/-- Stream selector codes. -/
def streamOf (b : Byte) : Option StreamId :=
  match b.toNat with
  | 0 => some .playback
  | 1 => some .capture
  | _ => none

/-- The allowed stream depths (R48). -/
def depthOf (h : Half) : Option Nat :=
  match h.toNat with
  | 16 => some 16
  | 32 => some 32
  | 64 => some 64
  | 128 => some 128
  | 256 => some 256
  | _ => none

/-- Port mode codes. -/
def portModeOf (b : Byte) : Option PortMode :=
  match b.toNat with
  | 0 => some .drive
  | 1 => some .follow
  | _ => none

/-- Slot counts (R81). -/
def slotsOf (b : Byte) : Option Nat :=
  match b.toNat with
  | 2 => some 2
  | 4 => some 4
  | 8 => some 8
  | 16 => some 16
  | _ => none

/-- Signal points of any kind, with their index ranges (R91, R202). -/
def pointOf (c : PointCode) : Option Point :=
  let n := c.index.toNat
  match c.kind.toNat with
  | 0 => if n ≤ 31 then some (.play n) else none
  | 1 => if n ≤ 63 then some (.pin (n / 16) (n % 16)) else none
  | 2 => if n ≤ 7 then some (.bus n) else none
  | 3 => if n ≤ 31 then some (.recCh n) else none
  | 4 => if n ≤ 63 then some (.pout (n / 16) (n % 16)) else none
  | 5 => if n ≤ 7 then some (.busIn n) else none
  | _ => none

/-- Whether a point is a source (R91). -/
def Point.isSource : Point → Bool
  | .play _ | .pin _ _ | .bus _ => true
  | .recCh _ | .pout _ _ | .busIn _ => false

/-- A source field (R91). -/
def sourcePointOf (c : PointCode) : Option Point := (pointOf c).filter Point.isSource

/-- A destination field (R91). -/
def destPointOf (c : PointCode) : Option Point := (pointOf c).filter (fun p => !p.isSource)

/-- A gain setting field: OFF is 0x8000, a setting below -1200 is none, one above +120 stands as given until it is
clamped (R202). -/
def gainOf (h : Half) : Option Gain :=
  if h.toNat = 0x8000 then some .off
  else if h.toInt < -1200 then none
  else some (.tenths h.toInt)

/-- A gain setting above +120 is clamped to +120 (R8). -/
def Gain.clamped : Gain → Gain
  | .off => .off
  | .tenths g => .tenths (min 120 g)

/-- OK, or ADJUSTED when a value was clamped (R8). -/
def adjustedIf (b : Bool) : Status := if b then .adjusted else .ok

/-- The flags of ROUTE_ADD: mute, invert, REPLACE; a bit without meaning refuses (R202, 11 section 11.2). -/
def routeFlagsOf (b : Byte) : Option (Bool × Bool × Bool) :=
  if b.toNat < 8 then some (b.getLsbD 0, b.getLsbD 1, b.getLsbD 2) else none

/-- A flag byte with two flags (BUS_SET, METER_ASSIGN). -/
def twoFlagsOf (b : Byte) : Option (Bool × Bool) :=
  if b.toNat < 4 then some (b.getLsbD 0, b.getLsbD 1) else none

/-- The ramp lengths (R107). -/
def rampLengthOf (h : Half) : Option Nat :=
  match h.toNat with
  | 0 => some 0
  | 64 => some 64
  | 256 => some 256
  | 1024 => some 1024
  | 4096 => some 4096
  | _ => none

/-- A module address 1-30. -/
def addressOf (b : Byte) : Option Nat := if 1 ≤ b.toNat ∧ b.toNat ≤ 30 then some b.toNat else none

/-- A list of module addresses; none when one is out of range. -/
def addressesOf : List Byte → Option (List Nat)
  | [] => some []
  | b :: rest =>
    match addressOf b, addressesOf rest with
    | some x, some xs => some (x :: xs)
    | _, _ => none

/-- An origin field: 0 LOCAL, 1-30 a module. -/
def originOf (b : Byte) : Option Origin :=
  if b.toNat = 0 then some .bank else (addressOf b).map .remote

/-- A filter's origin field: ANY is 255. -/
def filterOriginOf (b : Byte) : Option (Option Origin) :=
  if b.toNat = 255 then some none else (originOf b).map some

/-- Filter action codes. -/
def actionOf (b : Byte) : Option FilterAction :=
  match b.toNat with
  | 0 => some .notify
  | 1 => some .notifyLatest
  | 2 => some .discard
  | _ => none

/-- The default action is NOTIFY or DISCARD (R169). -/
def defaultActionOf (b : Byte) : Option FilterAction :=
  match b.toNat with
  | 0 => some .notify
  | 2 => some .discard
  | _ => none

/-- A set of event kinds: bit n for kind n (11, section 11.2). -/
def kindSetOf (b : Byte) : Option (BitVec 5) :=
  if b.toNat < 32 then some (BitVec.ofNat 5 b.toNat) else none

/-- Event kind codes. -/
def eventKindOf (b : Byte) : Option EventKind :=
  match b.toNat with
  | 0 => some .fader
  | 1 => some .touch
  | 2 => some .button
  | 3 => some .encoder
  | 4 => some .value
  | _ => none

/-- The code of an event kind. -/
def EventKind.code : EventKind → Nat
  | .fader => 0
  | .touch => 1
  | .button => 2
  | .encoder => 3
  | .value => 4

/-- The value of an event: signed for ENCODER, unsigned for the others (R204). -/
def EventKind.valueOf (k : EventKind) (h : Half) : Int :=
  match k with
  | .encoder => h.toInt
  | _ => (h.toNat : Int)

/-- The value ranges of 08, section 8.6. -/
def EventKind.inRange (k : EventKind) (v : Int) : Bool :=
  match k with
  | .fader => decide (0 ≤ v) && decide (v ≤ 1023)
  | .touch | .button => decide (0 ≤ v) && decide (v ≤ 1)
  | .encoder => decide (-64 ≤ v) && decide (v ≤ 63)
  | .value => decide (0 ≤ v) && decide (v ≤ 65535)

/-- SURFACE_SEND kinds: WRITE 0, SET_CONTROL 1 (11, section 11.2). -/
def sendKindOf (b : Byte) : Option FrameKind :=
  match b.toNat with
  | 0 => some .write
  | 1 => some .setControl
  | _ => none

/-- SURFACE_SEND priorities: URGENT 0, NORMAL 1. -/
def priorityOf (b : Byte) : Option QueueId :=
  match b.toNat with
  | 0 => some .urgent
  | 1 => some .normal
  | _ => none

/-- For SET_CONTROL exactly 3 data bytes with a control number 0-63; at most 32 for WRITE (R176). -/
def sendDataOk (kind : FrameKind) (data : List Byte) : Bool :=
  match kind, data with
  | .setControl, [c, _, _] => decide (c.toNat ≤ 63)
  | .setControl, _ => false
  | _, d => decide (d.length ≤ 32)

/-- A binding's target (11, section 11.2). -/
def targetOf (kind index : Byte) : Option Target :=
  match kind.toNat with
  | 0 => (indexBelow 128 index).map .routeGain
  | 1 => (indexBelow 128 index).map .routeMute
  | 2 => (indexBelow 8 index).map .busGain
  | 3 => (indexBelow 8 index).map .busMute
  | _ => none

/-- A binding's mode (11, section 11.2). -/
def bindModeOf (b : Byte) : Option BindMode :=
  match b.toNat with
  | 0 => some .absolute
  | 1 => some .relative
  | 2 => some .toggle
  | _ => none

/-- Whether a target is a gain. -/
def Target.isGain : Target → Bool
  | .routeGain _ | .busGain _ => true
  | .routeMute _ | .busMute _ => false

/-- ABSOLUTE and RELATIVE need a gain target, TOGGLE a mute target (R185). -/
def BindMode.suits (m : BindMode) (t : Target) : Bool :=
  match m with
  | .toggle => !t.isGain
  | _ => t.isGain

/-- A control: 0-7 for LOCAL, 0-63 for a module (R185). -/
def controlOf (origin number : Byte) : Option Control :=
  match originOf origin with
  | some .bank => if number.toNat ≤ 7 then some ⟨.bank, number.toNat⟩ else none
  | some (.remote a) => if number.toNat ≤ 63 then some ⟨.remote a, number.toNat⟩ else none
  | none => none

/-- Rest mode codes. -/
def restOf (b : Byte) : Option RestMode :=
  match b.toNat with
  | 0 => some .brake
  | 1 => some .coast
  | _ => none

/-- A module kind code; one outside the six is recorded as GENERIC (R157). -/
def moduleKindOf (b : Byte) : ModuleKind :=
  match b.toNat with
  | 0 => .faderStrip
  | 1 => .buttonPanel
  | 2 => .meterBridge
  | 3 => .display
  | 4 => .transport
  | _ => .generic

/-- The content of an ANSWER, out-of-range content at the nearest value an entry can hold (R157, R204). -/
def answerOf : List Byte → Option Answer
  | [a, b, c, d, e, f, kind, controls, touch, meters] =>
    some ⟨BitVec.ofNat 48 (leNat [a, b, c, d, e, f]), moduleKindOf kind, min 64 controls.toNat, touch != 0,
      min 16 meters.toNat⟩
  | _ => none

/-- A numeric setting held within its limits (R193). -/
def clampTo (low high n : Nat) : Nat := max low (min high n)

end Sys2Proof.Machine
end

