-- ==== Sys2Proof/Machine/Ops.lean ====
section
/-! DEFINITION. What every block shares: notices into the queue (R10, R11), the open order of notices of different
blocks, and the taking and answering of a command (R4, R6). -/

namespace Sys2Proof.Machine

/-- A step's outcome. -/
abbrev Outcome := Host.Outcome State Fault Refusal

/-! ## Lists of records -/

/-- The element at a place, or the given one beyond the end, changed by a function. -/
def updateAt (xs : List α) (i : Nat) (dflt : α) (f : α → α) : List α := xs.set i (f (xs.getD i dflt))

/-- The first element that passes a test, replaced. -/
def replaceFirst (test : α → Bool) (f : α → α) : List α → List α
  | [] => []
  | x :: rest => if test x then f x :: rest else x :: replaceFirst test f rest

/-- The elements paired with their places, counted from `n`. -/
def numbered : Nat → List α → List (Nat × α)
  | _, [] => []
  | n, x :: rest => (n, x) :: numbered (n + 1) rest

/-! ## Notices -/

/-- The notice codes (11, section 11.2). -/
def NoticeBody.code : NoticeBody → Nat
  | .ready .. => 0
  | .clockState .. => 1
  | .sourceState .. => 2
  | .streamState .. => 3
  | .streamSlip .. => 4
  | .portState .. => 5
  | .routeReleased .. => 6
  | .meterReport .. => 7
  | .busState .. => 8
  | .moduleState .. => 9
  | .surfaceDone .. => 10
  | .event .. => 11
  | .faderState .. => 12

/-- Whether a new notice matches a queued one (R11). -/
def NoticeBody.coalesces (new queued : NoticeBody) : Bool :=
  match new, queued with
  | .meterReport .., .meterReport .. => true
  | .streamSlip a .., .streamSlip b .. => a == b
  | .event _ .notifyLatest e, .event _ .notifyLatest f => e.control == f.control
  | _, _ => false

/-- Whether the mask drops a kind; READY is never dropped (R10 step 1). -/
def Msu.masked (m : Msu) (b : NoticeBody) : Bool := b.code != 0 && m.mask.getLsbD b.code

/-- A notice handed to the MSU (R10). -/
def Msu.enqueue (m : Msu) (b : NoticeBody) : Msu :=
  if m.masked b then m
  else if m.notices.any (fun q => b.coalesces q.body) then
    { m with notices := replaceFirst (fun q => b.coalesces q.body) (fun q => { q with body := b }) m.notices }
  else if 64 ≤ m.notices.length then { m with gap := true }
  else { m with notices := m.notices ++ [⟨m.gap, b⟩], gap := false }

/-- A block raises a notice; during a RESET it is dropped (R10, R15). -/
def notify (b : NoticeBody) (s : State) : State :=
  if s.phase = .resetting then s else s.withMsu (s.msu.enqueue b)

/-- Notices handed over one after another. -/
def notifyAll : List NoticeBody → State → State
  | [], s => s
  | b :: rest, s => notifyAll rest (notify b s)

/-- Two blocks' notices in an order that keeps each block's own and is otherwise open (R10, log 5). -/
def interleave (event place : Nat) : Nat → List α → List α → List α
  | _, xs, [] => xs
  | _, [], ys => ys
  | k, x :: xs, y :: ys =>
    let n := Config.noticeOrder event place k
    (y :: ys).take n ++ x :: interleave event place (k + 1) xs ((y :: ys).drop n)

/-- The notices of four blocks at one clock event, in an open order (R10, log 5). -/
def mergeNotices (event : Nat) (a b c d : List α) : List α :=
  interleave event 0 0 a (interleave event 1 0 b (interleave event 2 0 c d))

/-- The notices of CKU, STU, PTU and RME at one event, handed to the MSU. -/
def notifyMerged (a b c d : List NoticeBody) (s : State) : State :=
  (notifyAll (mergeNotices s.fresh a b c d) s).withFresh (s.fresh + 1)

/-! ## Commands and replies -/

/-- What the owning block makes of a command: the state, the status, the result. -/
structure Handled where
  state : State
  status : Status
  result : Option Result

/-- Refused: no state changes, no result (R4, R8). -/
def refuse (s : State) (st : Status) : Handled := ⟨s, st, none⟩

/-- Accepted with OK. -/
def accept (s : State) (r : Option Result) : Handled := ⟨s, .ok, r⟩

/-- Whether the MSU takes a record: no RESET in progress and room for the reply (R6). -/
def State.takes (s : State) : Bool := s.phase != .resetting && decide (s.msu.replies.length < 4)

/-- A reply at the tail of the reply queue (R6). -/
def queueReply (r : Reply) (s : State) : State := s.withMsu { s.msu with replies := s.msu.replies ++ [r] }

/-- The reply to a handled command (R4). -/
def Handled.answered (h : Handled) (kind tag : Byte) : State := queueReply ⟨kind, tag, h.status, h.result⟩ h.state

/-- A command row: the MSU takes a record of this command when R6 lets it, and answers it; otherwise the record waits
and nothing changes (log 1). -/
def takeRow (kind tag : Byte) (handle : State → Handled) (s : State) : Outcome :=
  .next (if s.takes then (handle s).answered kind tag else s)

end Sys2Proof.Machine
end

