-- ==== Sys2Proof/Machine/ClockUnit.lean ====
section
/-! DEFINITION. The Clock Unit's own operations (02): judging sources, quality counts, selection in AUTO and FIXED,
switching, holdover, revert. Each takes the unit's record and says what it becomes. -/

namespace Sys2Proof.Machine

/-! ## Sources -/

/-- A source's code, its place in the source table (11, section 11.1). -/
def sourceCode : ClockSource → Nat
  | .internal => 0
  | .wordclock => 1
  | .link => 2
  | .port p => 3 + p.val

/-- The external sources in code order. -/
def externalSources : List ClockSource := [.wordclock, .link, .port 0, .port 1, .port 2, .port 3]

/-- A source's record. -/
def Cku.record (c : Cku) (x : ClockSource) : SourceRec := c.sources.getD (sourceCode x) SourceRec.absentRec

/-- A source's record replaced. -/
def Cku.putRec (c : Cku) (x : ClockSource) (r : SourceRec) : Cku := { c with sources := c.sources.set (sourceCode x) r }

/-- GOOD or DEGRADED (02, section 2.2). -/
def Standing.usable : Standing → Bool
  | .good | .degraded => true
  | .unusable | .absent => false

/-- Whether a source is usable. -/
def Cku.usable (c : Cku) (x : ClockSource) : Bool := (c.record x).standing.usable

/-- A count of edges within ±1 of rate/1000 (R24), in tenths: rate/1000 is a whole number of tenths. -/
def goodEdges (r : Rate) (n : Nat) : Bool := decide (r.hertz ≤ 1000 * (n + 1)) && decide (1000 * n ≤ r.hertz + 1000)

/-- The state after a change of the count, from the state before (R25). -/
def Standing.reevaluated (before : Standing) (q : Nat) : Standing :=
  match before with
  | .good => if 128 ≤ q then .unusable else if 96 ≤ q then .degraded else .good
  | .degraded => if 128 ≤ q then .unusable else if q < 64 then .good else .degraded
  | .unusable => if q < 64 then .good else .unusable
  | .absent => .absent

/-- The judgement of one source at the end of a check period, with its effect on count and state (R24, R25). -/
def SourceRec.judged (rate : Rate) (r : SourceRec) : SourceRec :=
  let swept := { r with lastEdges := r.edges, edges := 0, unlock := false }
  if r.edges = 0 then { swept with standing := .absent, quality := 255 }
  else if r.standing = .absent then { swept with standing := .unusable, quality := 255 }
  else if goodEdges rate r.edges && !r.unlock then
    { swept with quality := r.quality - 1, standing := r.standing.reevaluated (r.quality - 1) }
  else
    { swept with quality := min 255 (r.quality + 8), standing := r.standing.reevaluated (min 255 (r.quality + 8)) }

/-- The revert counter's update (R26). -/
def SourceRec.counted (r : SourceRec) : SourceRec :=
  { r with revert := if r.standing = .good then min 500 (r.revert + 1) else 0 }

/-- One external source at the end of a judged check period: judged when present, revert counter 0 otherwise. -/
def SourceRec.atPeriodEnd (rate : Rate) (present : Bool) (r : SourceRec) : SourceRec :=
  if present then (r.judged rate).counted else { r with revert := 0, edges := 0, unlock := false }

/-- One external source at the end of an unjudged check period (R41). -/
def SourceRec.swept (r : SourceRec) : SourceRec := { r with edges := 0, unlock := false }

/-- The SOURCE_STATE notices of the sources whose state differs between two records of the unit, in source code order
(R25). -/
def sourceNotices (before after : Cku) : List NoticeBody :=
  externalSources.filterMap (fun x =>
    if (before.record x).standing = (after.record x).standing then none
    else some (.sourceState x (before.record x).standing (after.record x).standing (after.record x).quality))

/-- The CLOCK_STATE notice of an event, carrying the clock as it stands after it (R43). -/
def clockNotice (c : Cku) : Option ClockReason → List NoticeBody
  | none => []
  | some r => [.clockState c.clock c.source c.rate c.fallback r]

/-! ## Switching -/

/-- To start a switch to a target (R28). -/
def Cku.startSwitch (c : Cku) (x : ClockSource) : Cku :=
  { c with
    source := x
    clock := .switching
    holdoverTimer := none
    lockTimer := if x = .internal then none else some 50
    settleTimer := if x = .internal then some 2 else none }

/-- To enter HOLDOVER on the fixed source (R38). -/
def Cku.enterHoldover (c : Cku) (x : ClockSource) : Cku :=
  { c with
    source := x
    clock := .holdover
    lockTimer := none
    settleTimer := none
    holdoverTimer := some 10000 }

/-- Already FREE, or switching to INTERNAL. -/
def Cku.onInternal (c : Cku) : Bool := c.clock == .free || (c.clock == .switching && c.source == .internal)

/-- LOCKED on a source, or switching to it. -/
def Cku.onSource (c : Cku) (x : ClockSource) : Bool := (c.clock == .locked || c.clock == .switching) && c.source == x

/-- The first usable source of the priority list (R34); INTERNAL is always in the list and always usable. -/
def Cku.firstUsable (c : Cku) : ClockSource := (c.priority.find? c.usable).getD .internal

/-- Selection in AUTO (R34), with the reason it runs for; `fresh` after a lock timeout (R31). -/
def Cku.selectAuto (c : Cku) (reason : ClockReason) (fresh : Bool) : Cku × Option ClockReason :=
  let choice := c.firstUsable
  let c := { c with fallback := .none }
  if (c.clock == .locked || c.clock == .free) && c.source == choice then (c, none)
  else if c.clock == .switching && c.source == choice && !fresh then (c, none)
  else (c.startSwitch choice, some reason)

/-- Selection in FIXED mode (R37), with the reason it runs for; `fresh` after a lock timeout (R31). -/
def Cku.selectFixed (c : Cku) (reason : ClockReason) (fresh : Bool) : Cku × Option ClockReason :=
  let x := c.fixedSource
  if x = .internal then
    let c := { c with fallback := .none }
    if c.onInternal then (c, none) else (c.startSwitch .internal, some reason)
  else if c.usable x then
    let c := { c with fallback := .none }
    if c.onSource x && !fresh then (c, none) else (c.startSwitch x, some reason)
  else if c.onSource x then
    ({ c with fallback := .none }.enterHoldover x, some .sourceLost)
  else if c.clock == .holdover && c.source == x then (c, none)
  else
    let c := { c with fallback := if c.fallback = .holdoverExpired then .holdoverExpired else .sourceUnusable }
    if c.onInternal then (c, none) else (c.startSwitch .internal, some reason)

/-- Selection under the mode in force. -/
def Cku.select (c : Cku) (reason : ClockReason) (fresh : Bool) : Cku × Option ClockReason :=
  match c.mode with
  | .auto => c.selectAuto reason fresh
  | .fixed => c.selectFixed reason fresh

/-! ## The check period -/

/-- The sources of the list that lie ahead of a source. -/
def Cku.ahead (c : Cku) (x : ClockSource) : List ClockSource := c.priority.takeWhile (fun y => y != x)

/-- The revert test (R36). -/
def Cku.revertTest (c : Cku) : Cku × Option ClockReason :=
  if c.revert && c.source != .internal then
    match (c.ahead c.source).find? (fun x => decide ((c.record x).revert = 500)) with
    | some x => (c.startSwitch x, some .revert)
    | none => (c, none)
  else (c, none)

/-- The clock at the end of a check period in AUTO (R35, R36). -/
def Cku.periodAuto (c : Cku) : Cku × Option ClockReason :=
  if !c.usable c.source then c.selectAuto .sourceLost false
  else if c.source == .internal && (c.ahead .internal).any c.usable then c.selectAuto .recovered false
  else c.revertTest

/-- The clock at the end of a check period in FIXED mode: selection runs when the fixed source's state has changed
(R37). -/
def Cku.periodFixed (c : Cku) (before : Standing) : Cku × Option ClockReason :=
  if (c.record c.fixedSource).standing = before then (c, none)
  else c.selectFixed (if c.usable c.fixedSource then .recovered else .sourceLost) false

/-- Every source at the end of the check period; INTERNAL is not measured (R22, R24). -/
def Cku.judgeAll (c : Cku) (present : ClockSource → Bool) : Cku :=
  externalSources.foldl (fun d x =>
    d.putRec x (if c.unjudged then (c.record x).swept else (c.record x).atPeriodEnd c.rate (present x)))
    { c with unjudged := false }

/-- The end of a check period (R24 to R26, R35 to R37). -/
def Cku.periodEnd (c : Cku) (present : ClockSource → Bool) : Cku × Option ClockReason :=
  let d := c.judgeAll present
  match d.mode with
  | .auto => d.periodAuto
  | .fixed => d.periodFixed (c.record c.fixedSource).standing

/-! ## Other clock events -/

/-- Rising edges are counted for a present source, up to 255 (R22, R24, log 28). -/
def Cku.countEdges (c : Cku) (x : ClockSource) (n : Nat) : Cku :=
  let r := c.record x
  c.putRec x { r with edges := min 255 (r.edges + n) }

/-- A lock reported while switching to an external target (R29). -/
def Cku.lock (c : Cku) : Cku × Option ClockReason :=
  if c.clock = .switching ∧ c.source ≠ .internal then
    ({ c with clock := .locked, lockTimer := none, fallback := .none }, some .lockAcquired)
  else (c, none)

/-- An unlock reported while LOCKED (R33). -/
def Cku.unlock (c : Cku) : Cku × Option ClockReason :=
  if c.clock = .locked then
    ((c.putRec c.source { c.record c.source with unlock := true }).startSwitch c.source, some .unlock)
  else (c, none)

/-- The lock-timeout penalty on the target (R31, R32). -/
def SourceRec.penalised (r : SourceRec) : SourceRec :=
  let q := min 255 (r.quality + 64)
  let st := r.standing.reevaluated q
  { r with quality := q, standing := st, revert := if st = .good then r.revert else 0 }

/-- The lock timer's expiry (R31). -/
def Cku.lockTimeout (c : Cku) : Cku × Option ClockReason :=
  if c.clock = .switching ∧ c.source ≠ .internal ∧ c.lockTimer.isSome then
    ({ c.putRec c.source (c.record c.source).penalised with lockTimer := none }).select .lockTimeout true
  else (c, none)

/-- The settle timer's expiry (R30). -/
def Cku.settleTimeout (c : Cku) : Cku × Option ClockReason :=
  if c.clock = .switching ∧ c.source = .internal ∧ c.settleTimer.isSome then
    ({ c with clock := .free, settleTimer := none }, some .settled)
  else (c, none)

/-- The holdover timer's expiry (R39). -/
def Cku.holdoverTimeout (c : Cku) : Cku × Option ClockReason :=
  if c.clock = .holdover ∧ c.holdoverTimer.isSome then
    ({ c.startSwitch .internal with fallback := .holdoverExpired }, some .holdoverExpired)
  else (c, none)

/-- A source that has stopped being present (R23). -/
def SourceRec.lost (r : SourceRec) : SourceRec :=
  { r with standing := .absent, quality := 255, revert := 0, unlock := false, edges := 0 }

/-- The clock when a source stops being present: selection in AUTO when it was the clock source, in FIXED when it is the
fixed source (R23, R35, R37). -/
def Cku.lose (c : Cku) (x : ClockSource) : Cku × Option ClockReason :=
  let d := c.putRec x (c.record x).lost
  match d.mode with
  | .auto => if d.source = x then d.selectAuto .sourceLost false else (d, none)
  | .fixed => if d.fixedSource = x then d.selectFixed .sourceLost false else (d, none)

/-- An external source at a change of rate (R41). -/
def SourceRec.disqualified (r : SourceRec) : SourceRec :=
  if r.standing = .absent then { r with revert := 0, edges := 0, unlock := false }
  else { r with standing := .unusable, quality := 128, revert := 0, edges := 0, unlock := false }

/-- Every external source disqualified. -/
def Cku.disqualifyAll (c : Cku) : Cku :=
  externalSources.foldl (fun d x => d.putRec x (c.record x).disqualified) c

/-- The fallback reason after selection with reason RATE_CHANGE (R37, R41). -/
def Cku.rateFallback (c : Cku) : Fallback :=
  match c.mode with
  | .auto => .none
  | .fixed =>
    if c.fixedSource = .internal then .none
    else if c.fallback = .holdoverExpired then .holdoverExpired
    else .sourceUnusable

/-- A change of the studio rate (R41): always a fresh switch to INTERNAL. The period marked unjudged is the one in progress, or
the first one when none has begun yet (DESIGN CHOICE, log 55). -/
def Cku.changeRate (c : Cku) (r : Rate) : Cku :=
  { (c.disqualifyAll.startSwitch .internal) with rate := r, unjudged := true, fallback := c.rateFallback }

/-- The list as stored: INTERNAL is appended when it is missing (R27). -/
def storedList (xs : List ClockSource) : List ClockSource :=
  if xs.contains .internal then xs else xs ++ [.internal]

/-- New settings, then selection under the new mode with reason SETTINGS (R40). -/
def Cku.setSources (c : Cku) (mode : ClockMode) (fixedSource : ClockSource) (revert : Bool)
    (xs : List ClockSource) : Cku × Option ClockReason :=
  { c with priority := storedList xs, mode := mode, fixedSource := fixedSource, revert := revert }.select .settings false

/-- The milliseconds left of the timer of the clock state (R42). -/
def Cku.timerLeft (c : Cku) : Nat :=
  match c.clock with
  | .switching => (c.lockTimer.getD 0) + (c.settleTimer.getD 0)
  | .holdover => c.holdoverTimer.getD 0
  | _ => 0

/-- One millisecond of the internal reference on the running timers (log 7). -/
def Cku.countDown (c : Cku) : Cku :=
  { c with
    lockTimer := c.lockTimer.map (· - 1)
    settleTimer := c.settleTimer.map (· - 1)
    holdoverTimer := c.holdoverTimer.map (· - 1) }

end Sys2Proof.Machine
end

