-- ==== Sys2Proof/Machine/PortUnit.lean ====
section
/-! DEFINITION. The Port Unit's own operations (04): the states and their conditions, the retime buffers, what the route
engine reads and writes, rate change. Each takes one port's record. -/

namespace Sys2Proof.Machine

/-- The start condition (R76), from the clock state and the state of the port's own source. -/
def Port.startOk (p : Port) (clock : ClockState) (own : Standing) : Bool :=
  match p.mode with
  | .drive => clock == .free || clock == .locked
  | .follow => own == .good || own == .degraded

/-- The hold condition (R76). -/
def Port.holdDue (p : Port) (clock : ClockState) (own : Standing) : Bool :=
  match p.mode with
  | .drive => clock == .switching
  | .follow => own == .unusable || own == .absent

/-- An all-zero frame of the port's slot count. -/
def Port.zero (p : Port) : Frame := List.replicate p.slots 0

/-- The PORT_STATE notice of an event (R80). -/
def Port.stateNotice (p : Port) (i : Nat) (previous : PortState) (reason : PortReason) : NoticeBody :=
  .portState i previous p.state reason p.mode p.slots

/-- Leaving SETTLING or RUNNING empties the retime buffers (R86). -/
def Port.emptied (p : Port) : Port := { p with inBuf := [], outBuf := [] }

/-- Entry to STARTING (R77). A link frame under way runs to its end (DESIGN CHOICE, log 56). -/
def Port.enterStarting (p : Port) (clock : ClockState) (own : Standing) : Port :=
  { p.emptied with
    state := .starting
    settle := 0
    resetTimer := if p.startOk clock own then some 1 else none }

/-- Entry to SETTLING (R78, R86). -/
def Port.enterSettling (p : Port) : Port :=
  let buf := if p.mode = .follow then List.replicate 4 p.zero else []
  { p with
    state := .settling, settle := 256, resetTimer := none
    inBuf := buf, outBuf := buf
    lastIn := if p.mode = .follow then p.zero else p.lastIn
    lastOut := if p.mode = .follow then p.zero else p.lastOut }

/-- Entry to RUNNING (R78); the DRIVE frames completed before were discarded (R75, log 39). -/
def Port.enterRunning (p : Port) : Port := { p with state := .running, settle := 0, driveIn := none }

/-- Entry to HELD (R79). A link frame under way runs to its end (DESIGN CHOICE, log 56). -/
def Port.enterHeld (p : Port) : Port := { p.emptied with state := .held, settle := 0 }

/-- Entry to OFF or CONFLICT (R83, R90): nothing is sent on the link, and a frame under way is cut, in FOLLOW mode too (DESIGN
CHOICE, log 56). -/
def Port.enterStopped (p : Port) (st : PortState) : Port :=
  { p.emptied with state := st, resetTimer := none, settle := 0, line := none }

/-- The clock or the own source's state has changed (R77, R79): the record and the reason when its state changes. -/
def Port.react (p : Port) (clock : ClockState) (own : Standing) : Port × Option PortReason :=
  match p.state with
  | .starting =>
    if p.startOk clock own then
      (if p.resetTimer.isSome then p else { p with resetTimer := some 1 }, none)
    else ({ p with resetTimer := none }, none)
  | .settling | .running => if p.holdDue clock own then (p.enterHeld, some .clockLost) else (p, none)
  | .held => if p.startOk clock own then (p.enterSettling, some .clockBack) else (p, none)
  | .off | .conflict => (p, none)

/-- A change of the studio rate (R90): the record and the reason when the rule reaches the port. -/
def Port.changeRate (p : Port) (rate : Rate) (clock : ClockState) (own : Standing) : Port × Option PortReason :=
  match p.state with
  | .off | .conflict => (p, none)
  | _ =>
    if p.slots ≤ rate.maxSlots then (p.enterStarting clock own, some .rateChange)
    else (p.enterStopped .conflict, some .rateChange)

/-- The reset timer's expiry (R77). -/
def Port.resetDone (p : Port) : Port × Option PortReason :=
  if p.state = .starting ∧ p.resetTimer.isSome then (p.enterSettling, some .resetDone) else (p, none)

/-- The settle count reaches 0 (R78). -/
def Port.settleEnd (p : Port) : Port × Option PortReason :=
  if p.state = .settling then (p.enterRunning, some .settled) else (p, none)

/-- One studio frame at the settle count (R78). -/
def Port.settleFrame (p : Port) : Port × Option PortReason :=
  if p.state = .settling then
    if p.settle ≤ 1 then p.settleEnd else ({ p with settle := p.settle - 1 }, none)
  else (p, none)

/-- Whether the retime buffers move: a FOLLOW port in SETTLING or RUNNING (R86). -/
def Port.retimes (p : Port) : Bool := p.mode == .follow && (p.state == .settling || p.state == .running)

/-- A frame at the newest end of a retime buffer of 8; the oldest goes when it is full (R87). -/
def retimePush (buf : List Frame) (f : Frame) : List Frame × Bool :=
  if 8 ≤ buf.length then (buf.drop 1 ++ [f], true) else (buf ++ [f], false)

/-- One over-slip more, saturating, when `b`. -/
def Port.addOver (p : Port) (b : Bool) : Port := if b then { p with overSlips := saturate16 (p.overSlips + 1) } else p

/-- A port frame completes on the input line (R74, R87). In DRIVE mode it becomes the input frame most recently completed
while the port is RUNNING, and is discarded in every other state (R75, R88). -/
def Port.inputFrame (p : Port) (f : Frame) : Port :=
  if p.retimes then
    let (buf, slip) := retimePush p.inBuf f
    { p with inBuf := buf }.addOver slip
  else if p.mode = .drive ∧ p.state = .running then { p with driveIn := some f }
  else p

/-- The slots of a frame as sent: all zero while the mute flag is set (R75, R84, R88). -/
def Port.sentSlots (p : Port) (f : Frame) : List Slot :=
  if p.mute then p.zero.map slotOfSample else f.map slotOfSample

/-- A port frame begins on the output line of a FOLLOW port (R75, R87): SETTLING and RUNNING take the oldest output retime
frame, STARTING and HELD send zeros, OFF and CONFLICT nothing. A DRIVE link's frames begin at the studio frame. -/
def Port.outputFrame (p : Port) : Port :=
  if p.mode = .drive then p
  else if p.retimes then
    match p.outBuf with
    | f :: rest => { p with outBuf := rest, lastOut := f, line := some (p.sentSlots f) }
    | [] => { p with underSlips := saturate16 (p.underSlips + 1), line := some (p.sentSlots p.lastOut) }
  else if p.state = .off ∨ p.state = .conflict then { p with line := none }
  else { p with line := some (p.zero.map slotOfSample) }

/-- What a DRIVE port has for the route engine at a studio frame: the input frame most recently completed (R88); before one
has completed in RUNNING, a free value for each slot (log 39). -/
def Port.driveFrame (p : Port) (i : Nat) (counter : Stamp) : Frame :=
  p.driveIn.getD ((List.range p.slots).map (fun k => (Config.unheardSample counter.toNat i k).toInt))

/-- The samples that the route engine reads of a frame: those of the slots below the slot count while the port is RUNNING,
none otherwise (R88). -/
def Port.handedFrame (p : Port) (f : Frame) : Frame := if p.state = .running then f.take p.slots else []

/-- The route engine reads port `i` at a studio frame (R87, R88): the record, and the samples read. -/
def Port.readFrame (p : Port) (i : Nat) (counter : Stamp) : Port × Frame :=
  if p.retimes then
    match p.inBuf with
    | f :: rest => ({ p with inBuf := rest, lastIn := f }, p.handedFrame f)
    | [] => ({ p with underSlips := saturate16 (p.underSlips + 1) }, p.handedFrame p.lastIn)
  else (p, p.handedFrame (p.driveFrame i counter))

/-- The values of a port's slots as the output frame of its slot count. -/
def Port.frameOfValues (p : Port) (values : Frame) : Frame := (List.range p.slots).map (fun s => values.getD s 0)

/-- The route engine writes the port at a studio frame (R74, R86, R88). A DRIVE link first begins the frame written at the
studio frame before; zeros stand where the writes are discarded. -/
def Port.writeFrame (p : Port) (values : Frame) : Port :=
  let f := if p.state = .running then p.frameOfValues values else p.zero
  match p.mode with
  | .follow =>
    if p.retimes then
      let (buf, slip) := retimePush p.outBuf f
      { p with outBuf := buf }.addOver slip
    else p
  | .drive =>
    match p.state with
    | .off | .conflict => { p with line := none }
    | .running => { p with line := some (p.sentSlots (p.frameOfValues p.driveOut)), driveOut := f }
    | _ => { p with line := some (p.zero.map slotOfSample), driveOut := f }

/-- The overload line as the route engine receives it (R89). -/
def Port.handsOverload (p : Port) : Bool := p.state == .running && p.overload

end Sys2Proof.Machine
end

