-- ==== Sys2Proof/Machine/StreamUnit.lean ====
section
/-! DEFINITION. The Stream Unit's own operations (03): the playback buffer with its arrival list, the capture buffer and
its packets, the measurement ring and the rate report, recentring, rate change and link reset. -/

namespace Sys2Proof.Machine

/-- The low 32 bits of the studio frame counter (R44). -/
def lowStamp (c : Stamp) : Word32 := c.setWidth 32

/-! ## Playback -/

/-- The target fill: half the depth. -/
def Playback.target (p : Playback) : Nat := p.depth / 2

/-- The frame that repeats and silence are made of: zero on every effective channel. -/
def zeroFrame (n : Nat) : Frame := List.replicate n 0

/-- The oldest frame leaves, given up by the unlisted frames or by the oldest entry (R56, Removal). -/
def Playback.giveUpOldest (p : Playback) : Playback :=
  let p := { p with buffer := p.buffer.drop 1 }
  if 0 < p.unlisted then { p with unlisted := p.unlisted - 1 }
  else
    match p.arrivals with
    | [] => p
    | a :: rest => { p with arrivals := if a.count ≤ 1 then rest else { a with count := a.count - 1 } :: rest }

/-- The `n` oldest frames leave one at a time. -/
def Playback.giveUp : Nat → Playback → Playback
  | 0, p => p
  | n + 1, p => Playback.giveUp n p.giveUpOldest

/-- An entry for a packet at the newest end; a full list first drops its oldest entry (R56, Arrival). -/
def Playback.addArrival (p : Playback) (counter : Stamp) (n : Nat) : Playback :=
  match p.arrivals with
  | a :: rest =>
    if 64 ≤ p.arrivals.length then { p with arrivals := rest ++ [⟨counter, n⟩], unlisted := p.unlisted + a.count }
    else { p with arrivals := p.arrivals ++ [⟨counter, n⟩] }
  | [] => { p with arrivals := [⟨counter, n⟩] }

/-- The STREAM_SLIP of the playback stream (R53). -/
def Playback.slipNotice (p : Playback) (counter : Stamp) : NoticeBody :=
  .streamSlip .playback p.underruns p.overruns (lowStamp counter)

/-- The STREAM_STATE of the playback stream, no adjustment (R52). -/
def Playback.stateNotice (p : Playback) (previous : StreamState) (reason : StreamReason) : NoticeBody :=
  .streamState .playback previous p.state reason false false p.effective p.depth

/-- Room for `n` frames is made by removing the oldest, each an overrun slip (R55 step 1). -/
def Playback.makeRoom (p : Playback) (n : Nat) : Playback :=
  let excess := p.buffer.length + n - p.depth
  let q := p.giveUp excess
  { q with overruns := saturate16 (q.overruns + excess) }

/-- A checked packet of frames is appended (R55); the notices it raises. -/
def Playback.append (p : Playback) (counter : Stamp) (frames : List Frame) : Playback × List NoticeBody :=
  let slips := decide (p.depth < p.buffer.length + frames.length)
  let q := p.makeRoom frames.length
  let q := { q with buffer := q.buffer ++ frames }.addArrival counter frames.length
  let primed := decide (q.state = .priming) && decide (q.target ≤ q.buffer.length)
  let r := if primed then { q with state := .running } else q
  (r, (if slips then [r.slipNotice counter] else []) ++ (if primed then [r.stateNotice .priming .primed] else []))

/-- A playback packet (R54): discarded in IDLE, checked against the effective channel count and the family's max frames
per packet, then appended or counted as malformed. -/
def Playback.packet (p : Playback) (rate : Rate) (counter : Stamp) (bytes : List Byte) : Playback × List NoticeBody :=
  if p.state = .idle then (p, [])
  else
    let unit := 4 * p.effective
    let n := bytes.length / unit
    if bytes.length % unit ≠ 0 ∨ rate.maxFrames < n then ({ p with malformed := saturate16 (p.malformed + 1) }, [])
    else if n = 0 then (p, [])
    else p.append counter (framesOf p.effective n (samplesOf bytes))

/-- The arrival list's part of a draw (R56, Draw). -/
def Playback.account (p : Playback) (counter : Stamp) : Playback :=
  if 0 < p.unlisted then { p with unlisted := p.unlisted - 1 }
  else
    match p.arrivals with
    | [] => p
    | a :: rest =>
      let residence := min 4294967295 (counter - a.stamp).toNat
      { p with
        arrivals := rest
        unlisted := a.count - 1
        lastResidence := residence
        maxResidence := max p.maxResidence residence }

/-- The draw of one studio frame (R57 to R59): the record, the frame handed to the route engine, the notices. -/
def Playback.draw (p : Playback) (counter : Stamp) : Playback × Option Frame × List NoticeBody :=
  if p.state ≠ .running then (p, none, [])
  else
    match p.buffer with
    | f :: rest => ({ p.account counter with buffer := rest, lastFrame := f, repeatRun := 0 }, some f, [])
    | [] =>
      let q := { p with underruns := saturate16 (p.underruns + 1), repeatRun := p.repeatRun + 1 }
      if 16 ≤ q.repeatRun then
        let r := { q with state := .priming, repeatRun := 0 }
        (r, some p.lastFrame, [r.slipNotice counter, r.stateNotice .running .starved])
      else (q, some p.lastFrame, [q.slipNotice counter])

/-- Recentring when the clock comes back to a steady state (R67). -/
def Playback.recentre (p : Playback) : Playback :=
  if p.state ≠ .running then p
  else
    let t := p.target
    let fill := p.buffer.length
    if 2 * fill < t then
      { p with
        buffer := List.replicate (t - fill) (zeroFrame p.effective) ++ p.buffer
        unlisted := p.unlisted + (t - fill)
        recentres := saturate16 (p.recentres + 1) }
    else if 3 * t < 2 * fill then
      { p.giveUp (fill - t) with recentres := saturate16 (p.recentres + 1) }
    else p

/-- The buffer and the arrival list emptied (R50, R56). -/
def Playback.emptied (p : Playback) : Playback := { p with buffer := [], arrivals := [], unlisted := 0 }

/-- Emptied as at a rate change, a link reset and suspend (R68, R70). -/
def Playback.cleared (p : Playback) : Playback :=
  { p.emptied with repeatRun := 0, lastFrame := zeroFrame p.effective }

/-- STREAM_START on the playback stream (R49). -/
def Playback.start (p : Playback) : Playback :=
  { p.cleared with
    state := .priming, underruns := 0, overruns := 0, malformed := 0, recentres := 0
    lastResidence := 0, maxResidence := 0 }

/-- The playback stream at a change of rate (R68), with its notice. -/
def Playback.changeRate (p : Playback) (rate : Rate) : Playback × NoticeBody :=
  let eff := min p.configured rate.maxChannels
  let dep := max p.depth rate.minDepth
  let q := { ({ p with effective := eff, depth := dep }).cleared with
             state := if p.state = .running then .priming else p.state }
  (q, .streamState .playback p.state q.state .rateChange (decide (eff ≠ p.effective)) (decide (dep ≠ p.depth)) eff dep)

/-! ## Capture -/

/-- The STREAM_STATE of the capture stream, no adjustment (R52). -/
def Capture.stateNotice (c : Capture) (previous : StreamState) (reason : StreamReason) : NoticeBody :=
  .streamState .capture previous c.state reason false false c.effective c.depth

/-- One studio frame at the capture buffer (R60); `counter` is the value after the frame's advance. While IDLE no frame
is appended and the head stamp is that of the next studio frame to come (R61). -/
def Capture.frame (c : Capture) (counter : Stamp) (values : Frame) : Capture × List NoticeBody :=
  if c.state ≠ .running then ({ c with headStamp := counter + 1 }, [])
  else if c.depth ≤ c.buffer.length then
    let d := { c with
      buffer := c.buffer.drop 1 ++ [values.take c.effective]
      overruns := saturate16 (c.overruns + 1), slipFlag := true, headStamp := c.headStamp + 1 }
    (d, [.streamSlip .capture d.underruns d.overruns (lowStamp counter)])
  else ({ c with buffer := c.buffer ++ [values.take c.effective] }, [])

/-- The bytes of a capture packet: stamp, frame count, flags, frames (R203). -/
def capturePacket (stamp : Stamp) (slip unsteady : Bool) (frames : List Frame) : List Byte :=
  leBytes 6 stamp.toNat ++ [BitVec.ofNat 8 frames.length,
    BitVec.ofNat 8 ((if slip then 1 else 0) + (if unsteady then 2 else 0))] ++
    (frames.map (fun f => (f.map containerOf).flatten)).flatten

/-- A capture packet is built (R61, R62): the record and the packet's bytes. -/
def Capture.build (c : Capture) (rate : Rate) (clock : ClockState) : Capture × List Byte :=
  let n := min c.buffer.length rate.maxFrames
  ({ c with
     buffer := c.buffer.drop n
     headStamp := c.headStamp + BitVec.ofNat 48 n
     slipFlag := false
     unsteady := c.unsteady && !(clock == .free || clock == .locked) },
   capturePacket c.headStamp c.slipFlag c.unsteady (c.buffer.take n))

/-- STREAM_START on the capture stream (R49). -/
def Capture.start (c : Capture) (counter : Stamp) (clock : ClockState) : Capture :=
  { c with
    state := .running, buffer := [], headStamp := counter + 1, underruns := 0, overruns := 0, slipFlag := false
    unsteady := clock == .switching || clock == .holdover }

/-- The buffer emptied; the head stamp is that of the next studio frame (R61). -/
def Capture.emptied (c : Capture) (counter : Stamp) : Capture := { c with buffer := [], headStamp := counter + 1 }

/-- The capture stream at a change of rate (R68), with its notice. -/
def Capture.changeRate (c : Capture) (counter : Stamp) (rate : Rate) : Capture × NoticeBody :=
  let eff := min c.configured rate.maxChannels
  let dep := max c.depth rate.minDepth
  let d := { c.emptied counter with
             effective := eff, depth := dep, slipFlag := c.slipFlag || decide (c.state = .running) }
  (d, .streamState .capture c.state d.state .rateChange (decide (eff ≠ c.effective)) (decide (dep ≠ c.depth)) eff dep)

/-! ## Both streams -/

/-- Whether a stream is not IDLE (R22, LINK's presence). -/
def Stu.active (u : Stu) : Bool := u.playback.state != .idle || u.capture.state != .idle

/-- Both streams go to IDLE and are emptied, the ring too (R70, R71). The clock-unsteady latch is clear after it in every clock
state: that R70 goes before the words of R62 on a clock that is SWITCHING or HOLDOVER now is the model's choice (DESIGN CHOICE, log 50). -/
def Stu.linkReset (u : Stu) (counter : Stamp) : Stu :=
  { u with
    playback := { u.playback.cleared with state := .idle }
    capture := { u.capture.emptied counter with state := .idle, slipFlag := false, unsteady := false }
    ring := [] }

/-- The STREAM_STATE notices of an entry to SUSPENDED, the playback stream's first (R71). -/
def Stu.suspendNotices (u : Stu) : List NoticeBody :=
  (if u.playback.state = .idle then [] else [{ u.playback with state := .idle }.stateNotice u.playback.state .suspended]) ++
  (if u.capture.state = .idle then [] else [{ u.capture with state := .idle }.stateNotice u.capture.state .suspended])

/-- A change of the studio rate (R68): both streams, the ring, the last rate report. -/
def Stu.changeRate (u : Stu) (counter : Stamp) (rate : Rate) : Stu × List NoticeBody :=
  let (p, a) := u.playback.changeRate rate
  let (c, b) := u.capture.changeRate counter rate
  ({ playback := p, capture := c, ring := [], lastReport := rate.nominal }, [a, b])

/-- What the STU does at an event of the clock: `raised` when the event changed the clock (R43), from the state before to
the state after (R62, R67, log 17). -/
def Stu.clockEvent (u : Stu) (before after : ClockState) (raised : Bool) : Stu :=
  let u := if raised && (after == .switching || after == .holdover)
    then { u with capture := { u.capture with unsteady := true } } else u
  if (before == .switching || before == .holdover) && (after == .locked || after == .free)
  then { u with playback := u.playback.recentre } else u

/-! ## The rate report -/

/-- The fill error, clamped to -8..+8, 0 while playback is not RUNNING (R65). -/
def Playback.fillError (p : Playback) : Int :=
  if p.state = .running then max (-8) (min 8 ((p.target : Int) - (p.buffer.length : Int))) else 0

/-- A value clamped to the bounds of R63. -/
def clampReport (rate : Rate) (v : Int) : Nat :=
  let n : Int := rate.nominal
  (max (n - n / 64) (min (n + n / 64) v)).toNat

/-- The base of the report at a service-interval start (R64). -/
def Stu.reportBase (u : Stu) (counter : Stamp) (rate : Rate) : Int :=
  match u.ring with
  | oldest :: _ => if 128 ≤ u.ring.length then ((counter - oldest).toNat * 512 : Nat) else rate.nominal
  | [] => rate.nominal

/-- A service-interval start (R64 to R66). -/
def Stu.interval (u : Stu) (counter : Stamp) (rate : Rate) : Stu :=
  { u with
    ring := (if 128 ≤ u.ring.length then u.ring.drop 1 else u.ring) ++ [counter]
    lastReport := clampReport rate (u.reportBase counter rate + u.playback.fillError * 1024) }

end Sys2Proof.Machine
end

