-- ==== Sys2Proof/Machine/Flags.lean ====
section
/-! DEFINITION. The lines and conditions that follow from the state: lamp lines (R19), the presence of sources (R22), the
synthesiser's behaviour (R21), port lines (R75), motor terminals (R196), whether a time has passed (R130). -/

namespace Sys2Proof.Machine

/-- Whether a lamp condition holds (R19). -/
def State.lampLit (s : State) : LampCondition → Bool
  | .off => false
  | .clockGood => s.cku.clock == .free || s.cku.clock == .locked
  | .clockAlarm => s.cku.clock == .switching || s.cku.clock == .holdover
  | .anyClip => s.rme.slots.any (fun x => x.clip)
  | .streamActive => s.stu.playback.state == .running || s.stu.capture.state == .running
  | .surfaceAlarm => s.sbc.bus == .fault || s.mtb.entries.any (fun e => e.state == .suspect || e.state == .silent)
  | .faderAlarm => s.fsv.channels.any (fun f => f.state == .fault || f.state == .stalled)

/-- The LAMP_A line (R19). -/
def State.lampA (s : State) : Bool := s.lampLit s.msu.lampA

/-- The LAMP_B line (R19). -/
def State.lampB (s : State) : Bool := s.lampLit s.msu.lampB

/-- A port's record. -/
def State.port (s : State) (i : Nat) : Port := s.ptu.getD i (Port.powerOn false)

/-- Whether a source is present (R22). -/
def State.present (s : State) : ClockSource → Bool
  | .internal => true
  | .wordclock => true
  | .link => s.lif.link == .configured && s.stu.active
  | .port p => (s.port p.val).mode == .follow

/-- What the synthesiser does (R21). -/
inductive Synthesis where
  | nominal (rate : Rate)
  | following (source : ClockSource)
  | acquiring (target : ClockSource)
  | frozen
deriving DecidableEq, Repr

/-- The synthesiser's behaviour in each clock state (R21). -/
def Cku.synthesis (c : Cku) : Synthesis :=
  match c.clock with
  | .free => .nominal c.rate
  | .locked => .following c.source
  | .switching => .acquiring c.source
  | .holdover => .frozen

/-- The reset line is asserted (R75). -/
def Port.resetLine (p : Port) : Bool := p.state == .off || p.state == .starting || p.state == .conflict

/-- The mute line is asserted (R75). -/
def Port.muteLine (p : Port) : Bool := p.state != .running || p.mute

/-- The part drives the link's clocks (R75). -/
def Port.drivesClocks (p : Port) : Bool := p.mode == .drive && p.state != .off && p.state != .conflict

/-- A motor terminal (R196): switched high for a number of 255ths of each PWM cycle, held low, or released. -/
inductive Terminal where
  | switched (duty : Nat)
  | low
  | released
deriving DecidableEq, Repr

/-- Terminals A and B of a channel (R196), by the rest mode in force (R193). -/
def Fader.terminals (f : Fader) : Terminal × Terminal :=
  let rest := match f.restInForce with
    | .brake => (Terminal.low, Terminal.low)
    | .coast => (Terminal.released, Terminal.released)
  match f.state with
  | .moving =>
    if 0 < f.duty then (.switched f.duty.natAbs, .low)
    else if f.duty < 0 then (.low, .switched f.duty.natAbs)
    else rest
  | .idle => if f.touch then (.released, .released) else rest
  | .stalled => rest
  | .disabled | .fault | .held => (.released, .released)

/-- A time has passed at a count (R130). -/
def hasPassed (count time : Word32) : Bool := decide ((count - time).toNat < 2147483648)

/-- The poll period in milliseconds (R149). -/
def Sbc.period (b : Sbc) : Nat := 2 ^ b.periodCode

/-- The expiry that a good reply gives: the count plus the lifetime × 500 ms (R142). -/
def Sbc.newExpiry (b : Sbc) : Word32 := b.millis + BitVec.ofNat 32 (b.lifetime * 500)

end Sys2Proof.Machine
end

