-- ==== Sys2Proof/Machine/FaderServo.lean ====
section
/-! DEFINITION. The Fader Servo's operations on one channel (10, sections 10.5): entries to its states, targets, the drive
of a servo period, the supply input, settings. -/

namespace Sys2Proof.Machine

/-- A channel's record. -/
def Fsv.channel (v : Fsv) (i : Nat) : Fader := v.channels.getD i Fader.powerOn

/-- The distance of a channel from a target. -/
def Fader.distance (f : Fader) : Nat := ((f.target : Int) - (f.position : Int)).natAbs

/-- Entry to IDLE, STALLED or FAULT sets the duty to 0 and clears both runs (R195). -/
def Fader.rested (f : Fader) (st : FaderState) : Fader := { f with state := st, duty := 0, overRun := 0, openRun := 0 }

/-- Entry to MOVING clears the runs and the motion timer (R195). -/
def Fader.started (f : Fader) : Fader := { f with state := .moving, motion := 0, overRun := 0, openRun := 0 }

/-- Entry to HELD: duty 0, target kept (R198). -/
def Fader.heldBack (f : Fader) : Fader := { f with state := .held, duty := 0 }

/-- Whether a channel takes a target: neither DISABLED nor touched (R197). -/
def Fader.takesTarget (f : Fader) : Bool := f.state != .disabled && !f.touch

/-- A target taken by a channel (R197): the channel, and the reason when its state changes. The deadband is the one
in force, which the last servo period read (R193). -/
def Fader.aimed (f : Fader) (t : Nat) : Fader × Option FaderReason :=
  let g := { f with target := t }
  match f.state with
  | .idle => if f.deadbandInForce < g.distance then (g.started, some .move) else (g, none)
  | .stalled => if f.deadbandInForce < g.distance then (g.started, some .move) else (g.rested .idle, some .arrived)
  | .moving => ({ g with motion := 0 }, none)
  | .disabled | .fault | .held => (g, none)

/-- The duty for an error: trunc(Kp × e / 8), clamped to the max duty, raised to the min duty with the sign of the error
(R195 step 5). -/
def Fader.dutyFor (f : Fader) (e : Int) : Int :=
  let d := max (-(f.maxDuty : Int)) (min (f.maxDuty : Int) (Int.tdiv ((f.kp : Int) * e) 8))
  if d.natAbs < f.minDuty then (if e < 0 then -(f.minDuty : Int) else (f.minDuty : Int)) else d

/-- The settings stored come into force, at the start of a servo period (R193, log 42). The others are read in a servo period
alone. -/
def Fader.settled (f : Fader) : Fader := { f with deadbandInForce := f.deadband, restInForce := f.rest }

/-- A MOVING, untouched channel acts on its sample (R195), with the settings just read. The drive just ended is the duty that stands at the sample: which duty
it is when the duty changed since the previous servo period is not said, and the model's choice (DESIGN CHOICE, log 49). -/
def Fader.drive (f : Fader) (current : Nat) : Fader × Option FaderReason :=
  let over_ := if f.duty ≠ 0 ∧ f.limit < current then f.overRun + 1 else 0
  let open_ := if 32 ≤ f.duty.natAbs ∧ current < 4 then f.openRun + 1 else 0
  let e : Int := (f.target : Int) - (f.position : Int)
  if 3 ≤ over_ then ({ f with fault := .overcurrent }.rested .fault, some .overcurrent)
  else if 20 ≤ open_ then ({ f with fault := .openLoad }.rested .fault, some .openLoad)
  else if e.natAbs ≤ f.deadband then (f.rested .idle, some .arrived)
  else if 800 ≤ f.motion + 1 then ({ f with motion := 800 }.rested .stalled, some .stalled)
  else ({ f with overRun := over_, openRun := open_, motion := f.motion + 1, duty := f.dutyFor e }, none)

/-- The motion timer reaches 800 periods (R195 step 4). -/
def Fader.stall (f : Fader) : Fader × Option FaderReason :=
  if f.state = .moving then ({ f with motion := 800 }.rested .stalled, some .stalled) else (f, none)

/-- The supply input goes low (R198). -/
def Fader.supplyLow (f : Fader) : Fader × Option FaderReason :=
  match f.state with
  | .idle | .moving | .stalled => (f.heldBack, some .supplyLow)
  | .disabled | .fault | .held => (f, none)

/-- The supply input returns high (R198), by the deadband in force (R193). -/
def Fader.supplyBack (f : Fader) : Fader × Option FaderReason :=
  if f.state = .held then
    if f.touch then (f.rested .idle, some .supplyBack)
    else if f.deadbandInForce < f.distance then (f.started, some .supplyBack)
    else (f.rested .idle, some .supplyBack)
  else (f, none)

/-- FADER_CLEAR on a channel (R199). -/
def Fader.clearFault (f : Fader) (supplyGood : Bool) : Fader × Option FaderReason :=
  if f.state = .fault then
    let g := { f with fault := .none, target := f.position }.rested .idle
    (if supplyGood then g else g.heldBack, some .cleared)
  else (f, none)

/-- A channel's settings. -/
def Fader.settings (f : Fader) : FaderSettings :=
  ⟨f.enable, f.kp, f.deadband, f.minDuty, f.maxDuty, f.rest, f.limit⟩

/-- The settings stored; the next servo period reads them, and until then those in force stand (R193, log 42). -/
def Fader.withSettings (f : Fader) (x : FaderSettings) : Fader :=
  { f with enable := x.enable, kp := x.kp, deadband := x.deadband, minDuty := x.minDuty, maxDuty := x.maxDuty
           rest := x.rest, limit := x.limit }

/-- Enabling and disabling (R193): the channel with its new settings, and the reason when its state changes. -/
def Fader.configured (f : Fader) (x : FaderSettings) (supplyGood : Bool) : Fader × Option FaderReason :=
  let g := f.withSettings x
  if x.enable ∧ f.state = .disabled then
    let h := { g with target := f.position, reported := f.position, motion := 0, fault := .none
                      touch := f.touchSensor }.rested .idle
    (if supplyGood then h else h.heldBack, some .enabled)
  else if x.enable = false ∧ f.state ≠ .disabled then
    ({ g with state := .disabled, duty := 0, touch := false }, some .disabled)
  else (g, none)

/-- The FADER_STATE notice of an event (R201). -/
def Fader.stateNotice (f : Fader) (i : Nat) (previous : FaderState) (reason : FaderReason) : NoticeBody :=
  .faderState i previous f.state reason f.position f.target f.fault

/-- A channel changed by an operation, with its notice when the operation gives a reason (R201). -/
def changeFader (i : Nat) (op : Fader → Fader × Option FaderReason) (s : State) : State :=
  let f := s.fsv.channel i
  let (g, reason) := op f
  let s := s.withFsv { s.fsv with channels := s.fsv.channels.set i g }
  match reason with
  | some r => notify (g.stateNotice i f.state r) s
  | none => s

/-- Every channel changed by an operation, channel 0 first: R198 gives no order to the notices of one change of the supply
input, and channel 0 first is the model's choice (log 43). -/
def changeAllFaders (op : Fader → Fader × Option FaderReason) (s : State) : State :=
  (List.range 8).foldl (fun s i => changeFader i op s) s

end Sys2Proof.Machine
end

