-- ==== Sys2Proof/Machine/RouteEngine.lean ====
section
/-! DEFINITION. The Route and Mix Engine's own operations (05, 06): target coefficients and ramps, lanes, the evaluation
of a studio frame, meter slots. -/

namespace Sys2Proof.Machine

/-! ## Coefficients and ramps -/

/-- The target coefficient of the stored values (R95 step 2). -/
def GainRec.targetCoeff (r : GainRec) : Nat := if r.mute then 0 else r.gain.coeff

/-- The coefficient a record is heading for (R95 step 3). -/
def GainRec.heading (r : GainRec) : Nat :=
  match r.ramp with
  | some m => m.target
  | none => r.coeff

/-- A ramp from K_cur to a target, or the step that length 0 makes of it (R95, R110). -/
def GainRec.rampTo (r : GainRec) (target length : Nat) : GainRec :=
  if length = 0 then { r with coeff := target, ramp := none }
  else { r with ramp := some ⟨r.coeff, target, length, 0⟩ }

/-- The set-target rule's part in the record (R95 steps 1 to 3): new gain setting, new mute, or both. -/
def GainRec.setTarget (r : GainRec) (gain : Option Gain) (mute : Option Bool) (length : Nat) : GainRec :=
  let q := { r with gain := gain.getD r.gain, mute := mute.getD r.mute }
  if q.targetCoeff = q.heading then q else q.rampTo q.targetCoeff length

/-- The value of a ramp at a step: start + trunc((target - start) × n / L) (R111). -/
def Ramp.value (m : Ramp) (n : Nat) : Nat :=
  ((m.start : Int) + Int.tdiv (((m.target : Int) - (m.start : Int)) * (n : Int)) (m.length : Int)).toNat

/-- One step of the ramp of a record (R111); true when the ramp ended. -/
def GainRec.stepRamp (r : GainRec) : GainRec × Bool :=
  match r.ramp with
  | none => (r, false)
  | some m =>
    if m.length ≤ m.step + 1 then ({ r with coeff := m.target, ramp := none }, true)
    else ({ r with coeff := m.value (m.step + 1), ramp := some { m with step := m.step + 1 } }, false)

/-- The ramp of a record finishes (R111 at its last step, R119). -/
def GainRec.finishRamp (r : GainRec) : GainRec :=
  match r.ramp with
  | none => r
  | some m => { r with coeff := m.target, ramp := none }

/-! ## Lanes and entries -/

/-- Whether an entry stands in the lane of a source and destination (05, Lanes). -/
def Route.inLane (r : Route) (source dest : Point) : Bool :=
  r.dest == dest && (match dest with
    | .busIn _ => r.source == source
    | _ => true)

/-- A route entry by id. -/
def Rme.route (m : Rme) (id : Nat) : Route := m.routes.getD id Route.freeEntry

/-- A route entry replaced. -/
def Rme.putRoute (m : Rme) (id : Nat) (r : Route) : Rme := { m with routes := m.routes.set id r }

/-- A bus record by number. -/
def Rme.bus (m : Rme) (b : Nat) : GainRec := m.buses.getD b GainRec.busPowerOn

/-- A bus record replaced. -/
def Rme.putBus (m : Rme) (b : Nat) (r : GainRec) : Rme := { m with buses := m.buses.set b r }

/-- The id of the lane's route in a state (R93). -/
def Rme.laneRoute (m : Rme) (source dest : Point) (st : RouteState) : Option Nat :=
  m.routes.findIdx? (fun r => r.state == st && r.inLane source dest)

/-- The lowest FREE id (R98). -/
def Rme.lowestFree (m : Rme) : Option Nat := m.routes.findIdx? (fun r => r.state == .free)

/-- A route from BUS b to BUSIN c with c ≤ b (R94). -/
def badOrder (source dest : Point) : Bool :=
  match source, dest with
  | .bus b, .busIn c => decide (c ≤ b)
  | _, _ => false

/-- The entry becomes FREE; the notice of R101. -/
def Rme.freeRoute (m : Rme) (id : Nat) (reason : ReleaseReason) : Rme × List NoticeBody :=
  (m.putRoute id Route.freeEntry, [.routeReleased id (m.route id).source (m.route id).dest reason])

/-- The lane's RELEASING route, if any, is freed at once (R99 step 1, R100). -/
def Rme.cutReleasing (m : Rme) (source dest : Point) : Rme × List NoticeBody :=
  match m.laneRoute source dest .releasing with
  | some id => m.freeRoute id .cut
  | none => (m, [])

/-- An ACTIVE route becomes RELEASING: its holder is cleared and it fades from K_cur to 0, or is freed at once when the
ramp length is 0 (R99 step 2, R100, R102). -/
def Rme.demote (m : Rme) (id : Nat) : Rme × List NoticeBody :=
  if m.rampLength = 0 then m.freeRoute id .cut
  else
    let r := m.route id
    (m.putRoute id { r with state := .releasing, level := { r.level with holder := none }.rampTo 0 m.rampLength }, [])

/-- A new ACTIVE route in an entry, from K_cur 0 by the set-target rule (R98). -/
def Rme.placeRoute (m : Rme) (id : Nat) (source dest : Point) (gain : Gain) (mute invert : Bool) : Rme :=
  m.putRoute id ⟨.active, source, dest, invert,
    (⟨gain, mute, 0, none, none⟩ : GainRec).setTarget none none m.rampLength⟩

/-! ## The evaluation of a studio frame -/

/-- The 24-bit range (00, Samples). -/
def saturateSample (v : Int) : Int := max (-8388608) (min 8388607 v)

/-- Whether a value lies outside the 24-bit range. -/
def outsideSample (v : Int) : Bool := decide (v < -8388608) || decide (8388607 < v)

/-- Division by 2^20, rounded, one half toward plus infinity (R115). -/
def scaled (v : Int) : Int := (v + 524288) / 1048576

/-- A route's contribution for a source value (R115). -/
def Route.contribution (r : Route) (s : Int) : Int :=
  scaled (s * (if r.invert then -(r.level.coeff : Int) else (r.level.coeff : Int)))

/-- What the engine read in stage 1: the playback frame's samples and each port's frame, none where nothing was
handed over (R114). -/
structure Inputs where
  play : Frame
  ports : List Frame

/-- The value of a source, from the inputs and the bus outputs computed so far (R114, R116). -/
def Inputs.value (i : Inputs) (outs : List Int) : Point → Int
  | .play c => i.play.getD c 0
  | .pin p s => (i.ports.getD p []).getD s 0
  | .bus b => outs.getD b 0
  | _ => 0

/-- The exact sum of the contributions into a destination (R116, R117). -/
def sumInto (routes : List Route) (i : Inputs) (outs : List Int) (dest : Point) : Int :=
  (routes.filter (fun r => r.state != .free && r.dest == dest)).foldl
    (fun acc r => acc + r.contribution (i.value outs r.source)) 0

/-- The values of one studio frame: bus inputs (exact), bus outputs before and after saturation, direct destinations
before and after saturation (R116, R117). -/
structure FrameValues where
  inputs : Inputs
  busIns : List Int
  busRaw : List Int
  busOuts : List Int

/-- One bus evaluated after those before it (R116). -/
def evalBus (m : Rme) (v : FrameValues) (b : Nat) : FrameValues :=
  let sum := sumInto m.routes v.inputs v.busOuts (.busIn b)
  let raw := scaled (sum * ((m.bus b).coeff : Int))
  { v with busIns := v.busIns ++ [sum], busRaw := v.busRaw ++ [raw], busOuts := v.busOuts ++ [saturateSample raw] }

/-- Stages 1 and 2: the inputs, then buses 0 to 7 in ascending order (R113). -/
def Rme.evaluate (m : Rme) (i : Inputs) : FrameValues :=
  (List.range 8).foldl (evalBus m) ⟨i, [], [], []⟩

/-- The sum into a direct destination before saturation (R117). -/
def Rme.directSum (m : Rme) (v : FrameValues) (dest : Point) : Int := sumInto m.routes v.inputs v.busOuts dest

/-- A REC frame of the values REC 0 to 31 (R117). -/
def Rme.recFrame (m : Rme) (v : FrameValues) : Frame :=
  (List.range 32).map (fun c => saturateSample (m.directSum v (.recCh c)))

/-- The POUT values p.0 to p.15 of a port (R117). -/
def Rme.poutFrame (m : Rme) (v : FrameValues) (p : Nat) : Frame :=
  (List.range 16).map (fun s => saturateSample (m.directSum v (.pout p s)))

/-! ## Meters -/

/-- The value of a watched point at this frame, and whether a clip is marked for it (R121). -/
def Rme.measured (m : Rme) (v : FrameValues) : Point → Int × Bool
  | .play c => (v.inputs.value v.busOuts (.play c), false)
  | .pin p s => (v.inputs.value v.busOuts (.pin p s), m.overload.getD p false)
  | .bus b => (v.busOuts.getD b 0, outsideSample (v.busRaw.getD b 0))
  | .busIn b => (saturateSample (v.busIns.getD b 0), outsideSample (v.busIns.getD b 0))
  | .recCh c => (saturateSample (m.directSum v (.recCh c)), outsideSample (m.directSum v (.recCh c)))
  | .pout p s => (saturateSample (m.directSum v (.pout p s)), outsideSample (m.directSum v (.pout p s)))

/-- One measurement of a slot (R121). -/
def MeterSlot.measure (x : MeterSlot) (value : Int) (marked : Bool) : MeterSlot :=
  { x with
    peak := max x.peak value.natAbs
    clip := x.clip || decide (8388607 ≤ value.natAbs) || marked }

/-- Stage 6 for every assigned slot (R121). -/
def Rme.measureSlots (m : Rme) (v : FrameValues) : List MeterSlot :=
  m.slots.map (fun x =>
    match x.point with
    | none => x
    | some p => x.measure (m.measured v p).1 (m.measured v p).2)

/-- A slot at the end of a meter period (R123). -/
def MeterSlot.periodEnd (holdTime : Nat) (x : MeterSlot) : MeterSlot :=
  if x.point.isNone then x
  else
    let age := min 255 (x.age + 1)
    if x.hold < x.peak then { x with code := meterCode x.peak, hold := x.peak, age := 0, peak := 0 }
    else if 1 ≤ holdTime ∧ holdTime ≤ age then { x with code := meterCode x.peak, hold := x.peak, age := 0, peak := 0 }
    else { x with code := meterCode x.peak, age := age, peak := 0 }

/-- The entries of a METER_REPORT: assigned and subscribed slots in ascending slot order (R124). -/
def reportEntries (slots : List MeterSlot) : List MeterEntry :=
  (numbered 0 slots).filterMap (fun (n, x) =>
    if x.point.isSome && x.subscribed then some ⟨n, x.code, meterCode x.hold, x.clip⟩ else none)

/-- The code of the assigned slot at a display position, 255 where no slot has it (R125). -/
def displayCode (slots : List MeterSlot) (address position : Nat) : Byte :=
  match slots.find? (fun x => x.point.isSome && x.display == some (address, position)) with
  | some x => BitVec.ofNat 8 x.code
  | none => 255

/-- Whether an assigned slot has a display position at an address (R125). -/
def displaysAt (slots : List MeterSlot) (address : Nat) : Bool :=
  slots.any (fun x => x.point.isSome && (x.display.map Prod.fst) == some address)

/-- The METER frame for an address (R125). -/
def meterFrame (slots : List MeterSlot) (address : Nat) : BusFrame :=
  ⟨address, .meter, (List.range 16).map (displayCode slots address)⟩

/-- An unassigned slot; its subscription is kept (R126). -/
def MeterSlot.unassigned (x : MeterSlot) : MeterSlot := { MeterSlot.powerOn with subscribed := x.subscribed }

/-- A slot assigned to a point (R126). -/
def MeterSlot.assigned (x : MeterSlot) (p : Point) (display : Option (Nat × Nat)) : MeterSlot :=
  if x.point = some p then { x with display := display }
  else { x with point := some p, display := display, peak := 0, hold := 0, age := 0, code := 61, clip := false }

/-- What METER_READ with CLEAR does to a slot (R128). -/
def MeterSlot.cleared (x : MeterSlot) : MeterSlot := { x with clip := false, hold := 0, age := 0 }

/-! ## Change of rate -/

/-- A route entry at a change of rate (R119). -/
def Route.atRateChange (r : Route) : Route :=
  if r.state = .releasing then Route.freeEntry else { r with level := r.level.finishRamp }

/-- The RME at a change of rate (R119): ramps finish, fades end, the meter period restarts. -/
def Rme.changeRate (m : Rme) : Rme × List NoticeBody :=
  ({ m with
     routes := m.routes.map Route.atRateChange
     buses := m.buses.map GainRec.finishRamp
     slots := m.slots.map (fun x => { x with peak := 0 })
     frameCount := 0 },
   (numbered 0 m.routes).filterMap (fun (id, r) =>
     if r.state = .releasing then some (.routeReleased id r.source r.dest .faded) else none))

/-- Stage 5 for one route: its ramp takes one step; a RELEASING route whose ramp ends becomes FREE (R111, R118). -/
def Route.stepped (r : Route) : Route :=
  match r.level.stepRamp with
  | (l, ended) => if r.state = .releasing ∧ ended then Route.freeEntry else { r with level := l }

/-- Whether stage 5 frees a route (R118). -/
def Route.fadesOut (r : Route) : Bool := r.state == .releasing && r.level.stepRamp.2

/-- Stage 5: every ramp takes one step, and routes whose fades end are freed (R111, R118). -/
def Rme.stepRamps (m : Rme) : Rme × List NoticeBody :=
  ({ m with routes := m.routes.map Route.stepped, buses := m.buses.map (fun b => b.stepRamp.1) },
   (numbered 0 m.routes).filterMap (fun (id, r) =>
     if r.fadesOut then some (.routeReleased id r.source r.dest .faded) else none))

end Sys2Proof.Machine
end

