-- ==== Sys2Proof/Machine/SurfaceOutput.lean ====
section
/-! DEFINITION. The Surface Output's operations (09): block counts, coalescing, admission and drops, the end of host
frames, the outcome of a transaction, purge and abort. -/

namespace Sys2Proof.Machine

/-- The pool blocks of a frame: ceil((payload bytes + 4) / 16) (R172). -/
def QFrame.blocks (f : QFrame) : Nat := (f.frame.payload.length + 19) / 16

/-- The blocks of a run of frames. -/
def blocksOf (fs : List QFrame) : Nat := (fs.map QFrame.blocks).sum

/-- A queue by name. -/
def Sou.queue (o : Sou) : QueueId → List QFrame
  | .urgent => o.urgent
  | .normal => o.normal
  | .meter => o.meter

/-- A queue replaced. -/
def Sou.putQueue (o : Sou) (q : QueueId) (fs : List QFrame) : Sou :=
  match q with
  | .urgent => { o with urgent := fs }
  | .normal => { o with normal := fs }
  | .meter => { o with meter := fs }

/-- The capacities of the queues (09, section 9.1). -/
def queueCapacity : QueueId → Nat
  | .urgent => 8
  | .normal => 32
  | .meter => 16

/-- The pool blocks in use (R173). -/
def Sou.used (o : Sou) : Nat := blocksOf o.urgent + blocksOf o.normal + blocksOf o.meter

/-- The free pool blocks of 64 (R173). -/
def Sou.freeBlocks (o : Sou) : Nat := 64 - o.used

/-- The blocks of the frames of a queue that may be dropped: those not in flight (R175 step 3). -/
def droppable (fs : List QFrame) : Nat := blocksOf (fs.filter (fun f => !f.inFlight))

/-- Frames not in flight are dropped, oldest first, until `need` blocks are free: what stays, what goes, and the blocks
then free (R175 step 3). -/
def dropUntil (need : Nat) : Nat → List QFrame → List QFrame × List QFrame × Nat
  | free, [] => ([], [], free)
  | free, f :: rest =>
    if need ≤ free then (f :: rest, [], free)
    else if f.inFlight then
      let (kept, gone, fr) := dropUntil need free rest
      (f :: kept, gone, fr)
    else
      let (kept, gone, fr) := dropUntil need (free + f.blocks) rest
      (kept, f :: gone, fr)

/-- How the SOU takes a new frame that does not coalesce (R175). -/
inductive Admission where
  | appended (after : Sou) (dropped : List QFrame)
  | queueFull
  | noRoom

/-- The admission of a new frame (R175). -/
def Sou.take (o : Sou) (q : QueueId) (f : QFrame) : Admission :=
  if queueCapacity q ≤ (o.queue q).length then .queueFull
  else
    let spare := droppable o.meter + (if q = .meter then 0 else droppable o.normal)
    if o.freeBlocks + spare < f.blocks then .noRoom
    else
      let (meter, goneM, free) := dropUntil f.blocks o.freeBlocks o.meter
      let (normal, goneN, _) := if q = .meter then (o.normal, [], free) else dropUntil f.blocks free o.normal
      let o := { o with meter := meter, normal := normal }
      .appended (o.putQueue q (o.queue q ++ [f])) (goneM ++ goneN)

/-- A new frame's fields on entry (R172). -/
def newFrame (origin : FrameOrigin) (frame : BusFrame) (retries : Nat) (notify : Bool) (tag : Option Byte) : QFrame :=
  ⟨origin, frame, retries, 0, none, 0, notify, tag, false, false, none⟩

/-- The retries left of a new internal frame (R172). -/
def FrameOrigin.newRetries : FrameOrigin → Nat
  | .feedback => 1
  | .removal => 1
  | .meter => 0
  | .host => 0

/-- Whether a new frame merges with a queued one: METER by address, FEEDBACK by address and control number (R174). -/
def QFrame.coalesces (new queued : QFrame) : Bool :=
  match new.origin, queued.origin with
  | .meter, .meter => new.frame.address == queued.frame.address
  | .feedback, .feedback =>
    new.frame.address == queued.frame.address && new.frame.payload.head? == queued.frame.payload.head?
  | _, _ => false

/-- A queued frame takes a new payload in place; one in flight is marked renewed (R174). -/
def QFrame.renew (queued new : QFrame) : QFrame :=
  { queued with frame := { queued.frame with payload := new.frame.payload }, renewed := queued.renewed || queued.inFlight }

/-- The end of a HOST frame: a history record and, with notify, SURFACE_DONE (R181, R182). Internal frames leave no
record. -/
def endFrame (f : QFrame) (result : FrameResult) (s : State) : State :=
  if f.origin = .host then
    let rec_ : HistoryRecord := ⟨f.tag, f.frame.address, f.frame.kind, result, f.attempts, s.sbc.millis⟩
    let old := if 16 ≤ s.sou.history.length then s.sou.history.drop 1 else s.sou.history
    let s := s.withSou { s.sou with history := old ++ [rec_] }
    if f.notify then notify (.surfaceDone rec_) s else s
  else s

/-- Several frames end one after another. -/
def endFrames (result : FrameResult) : List QFrame → State → State
  | [], s => s
  | f :: rest, s => endFrames result rest (endFrame f result s)

/-- An internal frame is handed to the SOU: it coalesces, is admitted, or is discarded (R174, R175). -/
def handFrame (q : QueueId) (f : QFrame) (s : State) : State :=
  if (s.sou.queue q).any (f.coalesces ·) then
    s.withSou (s.sou.putQueue q (replaceFirst (f.coalesces ·) (·.renew f) (s.sou.queue q)))
  else
    match s.sou.take q f with
    | .appended after dropped => endFrames .dropped dropped (s.withSou after)
    | .queueFull | .noRoom => s

/-- What becomes of a frame at the end of its transaction (R178). -/
inductive Fate where
  | ends (result : FrameResult)
  | stays (frame : QFrame)

/-- The results of a transaction (R134 to R136). -/
inductive TxnResult where
  | sent
  | noReply
  | corrupt
  | reply (kind : ReplyKind) (payload : List Byte)
deriving DecidableEq, Repr

/-- The fate of a frame by the result, without marks (R178). -/
def QFrame.fate (f : QFrame) : TxnResult → Fate
  | .sent => .ends .sent
  | .reply .ack _ => .ends .delivered
  | .reply .nak _ => .ends .refused
  | .reply .wait _ =>
    if 5 ≤ f.waits + 1 then .ends .moduleBusy else .stays { f with waits := f.waits + 1, delay := some 500 }
  | .noReply => if 0 < f.retries then .stays { f with retries := f.retries - 1, delay := none } else .ends .noReply
  | _ => if 0 < f.retries then .stays { f with retries := f.retries - 1, delay := none } else .ends .corrupt

/-- A renewed frame after its transaction: as new, with its new payload (R174). -/
def QFrame.asNew (f : QFrame) (result : TxnResult) : QFrame :=
  { f with
    retries := f.origin.newRetries, waits := 0, attempts := 0, renewed := false
    delay := match result with
      | .reply .wait _ => some 500
      | _ => none }

/-- The result that an end mark names. -/
def EndMark.result : EndMark → FrameResult
  | .purged => .purged
  | .aborted => .aborted

/-- The fate of a frame with its marks (R174, R178). -/
def QFrame.decided (f : QFrame) (result : TxnResult) : Fate :=
  let f := { f with inFlight := false }
  match f.mark with
  | some m =>
    match f.fate result with
    | .ends r => .ends r
    | .stays _ => .ends m.result
  | none => if f.renewed then .stays (f.asNew result) else f.fate result

/-- The Surface Output's part in a transaction's end (R138 step 4, R178). -/
def frameOutcome (q : QueueId) (result : TxnResult) (s : State) : State :=
  match s.sou.queue q with
  | [] => s
  | f :: rest =>
    match f.decided result with
    | .ends r => endFrame { f with inFlight := false } r (s.withSou (s.sou.putQueue q rest))
    | .stays g => s.withSou (s.sou.putQueue q (g :: rest))

/-- Frames of a queue that a test names leave it unless in flight, when they are given an end mark (R179, R180): the
queue after, and those that left, oldest first. -/
def withdraw (named : QFrame → Bool) (mark : EndMark) : List QFrame → List QFrame × List QFrame
  | [] => ([], [])
  | f :: rest =>
    let (kept, gone) := withdraw named mark rest
    if named f then
      if f.inFlight then ({ f with mark := some (f.mark.getD mark) } :: kept, gone) else (kept, f :: gone)
    else (f :: kept, gone)

/-- The frames to an address are purged, URGENT, NORMAL, METER, each from oldest to newest (R179). -/
def purge (address : Nat) (s : State) : State :=
  let named := fun (f : QFrame) => f.frame.address == address
  let (u, goneU) := withdraw named .purged s.sou.urgent
  let (n, goneN) := withdraw named .purged s.sou.normal
  let (m, goneM) := withdraw named .purged s.sou.meter
  endFrames .purged (goneU ++ goneN ++ goneM) (s.withSou { s.sou with urgent := u, normal := n, meter := m })

/-- The head frame of a queue, when the queue offers it (R177). -/
def offered : List QFrame → Option QFrame
  | [] => none
  | f :: _ => if f.delay.isNone && !f.inFlight then some f else none

/-- The head frame picked: in flight, one attempt more (R177). -/
def pickHead : List QFrame → List QFrame
  | [] => []
  | f :: rest => { f with inFlight := true, attempts := f.attempts + 1 } :: rest

/-- The head frame's delay passes (R177). -/
def undelayHead : List QFrame → List QFrame
  | [] => []
  | f :: rest => { f with delay := none } :: rest

end Sys2Proof.Machine
end

