-- ==== Sys2Proof/Machine/Feedback.lean ====
section
/-! DEFINITION. Where the route table meets the surfaces: the set-target rule with its feedback (R95, R191), holders
(R188), orphaning and reattachment (R192), events at the bindings (R187 to R190) and at the filters (R168). -/

namespace Sys2Proof.Machine

/-- A record with a gain: a route entry or a bus. -/
inductive LevelRef where
  | route (id : Nat)
  | bus (b : Nat)
deriving DecidableEq, Repr

/-- The record a target names. -/
def Target.ref : Target → LevelRef
  | .routeGain id | .routeMute id => .route id
  | .busGain b | .busMute b => .bus b

/-- A record. -/
def Rme.level (m : Rme) : LevelRef → GainRec
  | .route id => (m.route id).level
  | .bus b => m.bus b

/-- A record replaced. -/
def Rme.putLevel (m : Rme) (x : LevelRef) (l : GainRec) : Rme :=
  match x with
  | .route id => m.putRoute id { m.route id with level := l }
  | .bus b => m.putBus b l

/-- The entry at a module address. -/
def Mtb.entry (t : Mtb) (address : Nat) : Option Entry := t.entries.find? (fun e => e.address == address)

/-- Touch capability, read from the entry as it stands (R188). -/
def State.touchCapable (s : State) (c : Control) : Bool :=
  match c.origin with
  | .bank => true
  | .remote a => ((s.mtb.entry a).map (fun e => e.touch)).getD false

/-! ## Feedback -/

/-- A servo target handed to a fader channel; one that does not take it drops it (R191, R197). -/
def aimFader (i t : Nat) (s : State) : State :=
  if (s.fsv.channel i).takesTarget then changeFader i (fun f => f.aimed t) s else s

/-- A FEEDBACK frame with a control number and a value (R191, R172). -/
def feedbackFrame (address number value : Nat) : QFrame :=
  newFrame .feedback ⟨address, .setControl, BitVec.ofNat 8 number :: leBytes 2 value⟩ 1 false none

/-- The value of feedback by the binding's mode: for the local bank, and for a module (R191). -/
def feedbackValue (mode : BindMode) (local_ : Bool) (l : GainRec) : Nat :=
  match mode with
  | .toggle => if local_ then (if l.mute then 0 else 1023) else (if l.mute then 1 else 0)
  | _ => inversePosition l.gain

/-- One feedback to a binding for its target's present value (R191). -/
def sendFeedback (b : Binding) (s : State) : State :=
  let l := s.rme.level b.target.ref
  match b.control.origin with
  | .bank => aimFader b.control.number (feedbackValue b.mode true l) s
  | .remote a =>
    if b.mode = .absolute ∧ s.touchCapable b.control = false then s
    else handFrame .normal (feedbackFrame a b.control.number (feedbackValue b.mode false l)) s

/-- Whether a change of a record's gain or mute reaches a binding (R191). -/
def Binding.hears (b : Binding) (x : LevelRef) (gainChanged muteChanged : Bool) : Bool :=
  b.state == .active && b.feedback && b.target.ref == x && (if b.target.isGain then gainChanged else muteChanged)

/-- Feedback for a change, in ascending index order, to every binding but the one that caused it (R191).
The FADER_STATE and SURFACE_DONE notices that it leads to enter the queue in that order too, though R10 leaves it open between
the two blocks (DESIGN CHOICE, log 54). -/
def feedbackAll (x : LevelRef) (gainChanged muteChanged : Bool) (cause : Option Nat) (s : State) : State :=
  (numbered 0 s.bdt).foldl (fun s (i, b) =>
    if b.hears x gainChanged muteChanged && cause != some i then sendFeedback b s else s) s

/-- The set-target rule (R95), from the host (no cause) or from a binding. -/
def setTarget (x : LevelRef) (gain : Option Gain) (mute : Option Bool) (cause : Option Nat) (s : State) : State :=
  let old := s.rme.level x
  let new := old.setTarget gain mute s.rme.rampLength
  let s := s.withRme (s.rme.putLevel x new)
  feedbackAll x (decide (new.gain ≠ old.gain)) (decide (new.mute ≠ old.mute)) cause s

/-! ## Holders, orphans -/

/-- A record's holder set. -/
def setHolder (x : LevelRef) (h : Option Control) (s : State) : State :=
  s.withRme (s.rme.putLevel x { s.rme.level x with holder := h })

/-- The holder of a binding's target is set to none when it is the binding's control (R186). -/
def releaseHold (b : Binding) (s : State) : State :=
  if (s.rme.level b.target.ref).holder = some b.control then setHolder b.target.ref none s else s

/-- A record's holder cleared when a test names it. -/
def GainRec.unheld (l : GainRec) (test : Control → Bool) : GainRec :=
  if (l.holder.map test).getD false then { l with holder := none } else l

/-- Every holder that a test names is set to none (R158, R193). -/
def releaseHolders (test : Control → Bool) (s : State) : State :=
  s.withRme { s.rme with
    routes := s.rme.routes.map (fun r => { r with level := r.level.unheld test })
    buses := s.rme.buses.map (fun l => l.unheld test) }

/-- The bindings of a route that has left ACTIVE are orphaned with cause ROUTE, replacing a cause of MODULE; the RME has
cleared the route's holder (R102, R192). -/
def orphanRoute (id : Nat) (s : State) : State :=
  s.withBdt (s.bdt.map (fun b =>
    if b.state ≠ .empty ∧ b.target.ref = .route id then { b with state := .orphaned, cause := .lostRoute } else b))

/-- The ACTIVE bindings of a removed module are orphaned with cause MODULE, and their holds are cleared (R153 step 5,
R192). -/
def orphanModule (address : Nat) (s : State) : State :=
  let leaves := fun (b : Binding) => b.state == .active && b.control.origin == .remote address
  let s := s.bdt.foldl (fun s b => if leaves b then releaseHold b s else s) s
  s.withBdt (s.bdt.map (fun b => if leaves b then { b with state := .orphaned, cause := .lostModule } else b))

/-- Whether a binding is reattached by a module confirmed at an address with a serial (R192). -/
def Binding.reattaches (b : Binding) (address : Nat) (serial : Serial) : Bool :=
  b.state == .orphaned && b.cause == .lostModule && b.control.origin == .remote address && b.serial == some serial

/-- Reattachment: the bindings become ACTIVE, and each with feedback on is sent one feedback, in ascending index order
(R192). -/
def reattach (address : Nat) (serial : Serial) (s : State) : State :=
  let back := s.bdt.filter (fun b => b.reattaches address serial)
  let s := s.withBdt (s.bdt.map (fun b =>
    if b.reattaches address serial then { b with state := .active, cause := .none } else b))
  back.foldl (fun s b => if b.feedback then sendFeedback b s else s) s

/-! ## Events at the bindings -/

/-- The new gain setting of an encoder turn (R189). -/
def encoderGain (g : Gain) (d : Int) (step : Nat) : Gain :=
  match g with
  | .off => if 0 < d then .tenths (-1200) else .off
  | .tenths t => if t = -1200 ∧ d < 0 then .off else .tenths (max (-1200) (min 120 (t + d * (step : Int))))

/-- An event on an ACTIVE ABSOLUTE binding: the hold rule (R187, R188). -/
def absoluteEvent (i : Nat) (b : Binding) (e : SurfaceEvent) (s : State) : State :=
  let x := b.target.ref
  let h := (s.rme.level x).holder
  match e.kind, s.touchCapable b.control with
  | .touch, true =>
    if e.value = 1 then (if h = none then setHolder x (some b.control) s else s)
    else if h = some b.control then setHolder x none s
    else s
  | .fader, true => if h = some b.control then setTarget x (some (taper e.value.toNat)) none (some i) s else s
  | .fader, false => if h = none then setTarget x (some (taper e.value.toNat)) none (some i) s else s
  | _, _ => s

/-- An event on an ACTIVE RELATIVE binding (R189). -/
def relativeEvent (i : Nat) (b : Binding) (e : SurfaceEvent) (s : State) : State :=
  let l := s.rme.level b.target.ref
  if e.kind = .encoder ∧ l.holder = none then
    setTarget b.target.ref (some (encoderGain l.gain e.value b.step)) none (some i) s
  else s

/-- An event on an ACTIVE TOGGLE binding (R190). -/
def toggleEvent (i : Nat) (b : Binding) (e : SurfaceEvent) (s : State) : State :=
  if e.kind = .button ∧ e.value = 1 then
    setTarget b.target.ref none (some (!(s.rme.level b.target.ref).mute)) (some i) s
  else s

/-- An event at one binding. -/
def boundEvent (i : Nat) (b : Binding) (e : SurfaceEvent) (s : State) : State :=
  match b.mode with
  | .absolute => absoluteEvent i b e s
  | .relative => relativeEvent i b e s
  | .toggle => toggleEvent i b e s

/-- An event at the Binding Table: it acts on the binding of its control when that is ACTIVE (10, section 10.2). -/
def bindingEvent (e : SurfaceEvent) (s : State) : State :=
  match (numbered 0 s.bdt).find? (fun (_, b) => b.state != .empty && b.control == e.control) with
  | some (i, b) => if b.state = .active then boundEvent i b e s else s
  | none => s

/-! ## Events at the filters -/

/-- Whether a filter matches an event (R168). -/
def Filter.matchesEvent (f : Filter) (e : SurfaceEvent) : Bool :=
  f.enable && (f.origin == none || f.origin == some e.control.origin) && decide (f.low ≤ e.control.number) &&
    decide (e.control.number ≤ f.high) && f.kinds.getLsbD e.kind.code

/-- The number and the action that decide an event: the first filter that matches, or 255 and the default (R168). -/
def Evf.decision (v : Evf) (e : SurfaceEvent) : Nat × FilterAction :=
  match (numbered 0 v.filters).find? (fun (_, f) => f.matchesEvent e) with
  | some (n, f) => (n, f.action)
  | none => (255, v.default)

/-- An event at the Event Filter (R168). -/
def filterEvent (e : SurfaceEvent) (s : State) : State :=
  let (n, action) := s.evf.decision e
  if action = .discard then s else notify (.event n action e) s

/-- The delivery of an event: first the Binding Table, then the Event Filter (R166). -/
def deliverEvent (e : SurfaceEvent) (s : State) : State := filterEvent e (bindingEvent e s)

end Sys2Proof.Machine
end

