-- ==== Sys2Proof/Machine/ModuleTable.lean ====
section
/-! DEFINITION. The Module Table's operations (08, sections 8.1, 8.2, 8.6; 07, section 7.6): entries, judgement by transaction
results, removal, the events of a REPORT. -/

namespace Sys2Proof.Machine

/-! ## Entries -/

/-- The MODULE_STATE notice for an entry as it stands (R161). -/
def Entry.stateNotice (e : Entry) (previous state : Option ModuleState) (reason : ModuleReason)
    (detail : ModuleDetail) : NoticeBody :=
  .moduleState ⟨e.address, e.serial, previous, state, reason, detail, e.quality⟩

/-- The MODULE_STATE notice of a refusal (R161). -/
def refusedNotice (serial : Serial) (detail : ModuleDetail) : NoticeBody :=
  .moduleState ⟨0, serial, none, none, .refused, detail, 0⟩

/-- An entry put in its place by address; one with the same address is replaced (R152). -/
def insertEntry (e : Entry) : List Entry → List Entry
  | [] => [e]
  | x :: rest =>
    if x.address < e.address then x :: insertEntry e rest
    else if x.address = e.address then e :: rest
    else e :: x :: rest

/-- An entry stored. -/
def putEntry (e : Entry) (s : State) : State := s.withMtb { s.mtb with entries := insertEntry e s.mtb.entries }

/-- Every expiry moved forward from this moment (R147, R149). -/
def refreshExpiries (s : State) : State :=
  s.withMtb { s.mtb with entries := s.mtb.entries.map (fun e => { e with expiry := s.sbc.newExpiry }) }

/-! ## Removal -/

/-- The RELEASE frame for an address (R153 step 6, R172). -/
def releaseFrame (address : Nat) : QFrame := newFrame .removal ⟨address, .release, []⟩ 1 false none

/-- An entry leaves the table (R153). -/
def removeModule (address : Nat) (detail : ModuleDetail) (s : State) : State :=
  match s.mtb.entry address with
  | none => s
  | some e =>
    let s := s.withMtb { s.mtb with entries := s.mtb.entries.filter (fun x => x.address != address) }
    let s := notify (e.stateNotice (some e.state) none .lost detail) s
    let s := s.withSbc { s.sbc with roundList := s.sbc.roundList.filter (fun a => a != address) }
    let s := orphanModule address (purge address s)
    if detail = .noConfirm then s else handFrame .urgent (releaseFrame address) s

/-- Several entries leave the table, in the order given. -/
def removeModules (detail : ModuleDetail) : List Nat → State → State
  | [], s => s
  | a :: rest, s => removeModules detail rest (removeModule a detail s)

/-- The SILENT entries whose expiry has passed, in ascending address order (R154). -/
def State.expired (s : State) : List Nat :=
  (s.mtb.entries.filter (fun e => e.state == .silent && hasPassed s.sbc.millis e.expiry)).map (fun e => e.address)

/-! ## Judgement -/

/-- The state after a change of the count (R143). -/
def ModuleState.reevaluated (before : ModuleState) (q : Nat) : ModuleState :=
  match before with
  | .online => if 128 ≤ q then .silent else if 96 ≤ q then .suspect else .online
  | .suspect => if 128 ≤ q then .silent else if q < 64 then .online else .suspect
  | .silent => if q < 64 then .online else .silent
  | .joining => .joining

/-- The reason that names a new state (R143). -/
def ModuleState.reason : ModuleState → ModuleReason
  | .suspect => .suspect
  | .silent => .silent
  | .online | .joining => .online

/-- An entry with a new count, its state re-evaluated (R143). -/
def Entry.recount (e : Entry) (q : Nat) : Entry := { e with quality := q, state := e.state.reevaluated q }

/-- An entry judged by a transaction's result (R142). -/
def Entry.judged (e : Entry) (r : TxnResult) (newExpiry : Word32) : Entry :=
  match r with
  | .reply .report _ | .reply .empty _ | .reply .ack _ | .reply .nak _ =>
    { e.recount (e.quality - 1) with expiry := newExpiry }
  | .noReply | .corrupt => e.recount (min 255 (e.quality + 8))
  | .sent | .reply .wait _ | .reply .answer _ | .reply .confirm _ => e

/-- A transaction's result handed to the entry at an address (R138 step 2, R142, R143). -/
def judgeModule (address : Nat) (r : TxnResult) (s : State) : State :=
  match s.mtb.entry address with
  | none => s
  | some e =>
    if e.state = .joining then s
    else
      let f := e.judged r s.sbc.newExpiry
      let s := putEntry f s
      if f.state = e.state then s else notify (f.stateNotice (some e.state) (some f.state) f.state.reason .none) s

/-! ## The events of a REPORT -/

/-- A discarded event is counted (R165). -/
def discardEvent (s : State) : State := s.withMtb { s.mtb with discarded := saturate16 (s.mtb.discarded + 1) }

/-- The event that four bytes stand for, when it passes checks 2 to 4 of R165. -/
def eventOf (address : Nat) (stamp : Word32) (controls : Nat) (control kind low high : Byte) : Option SurfaceEvent :=
  if control.toNat < controls then
    match eventKindOf kind with
    | some k =>
      if k.inRange (k.valueOf (half low high)) then
        some ⟨⟨.remote address, control.toNat⟩, k, k.valueOf (half low high), stamp⟩
      else none
    | none => none
  else none

/-- One event of a REPORT: checked, then delivered or discarded (R165, R166). -/
def takeEvent (address : Nat) (stamp : Word32) (control kind low high : Byte) (s : State) : State :=
  match s.mtb.entry address with
  | some e =>
    if e.state = .joining then discardEvent s
    else
      match eventOf address stamp e.controls control kind low high with
      | some ev => deliverEvent ev s
      | none => discardEvent s
  | none => discardEvent s

/-- The events of a REPORT, in the order they stand in it (R138 step 3, R165). -/
def takeEvents (address : Nat) (stamp : Word32) : List Byte → State → State
  | control :: kind :: low :: high :: rest, s =>
    takeEvents address stamp rest (takeEvent address stamp control kind low high s)
  | _, s => s

end Sys2Proof.Machine
end

