-- ==== Sys2Proof/Machine/Discovery.lean ====
section
/-! DEFINITION. The discovery search (08, section 8.3): its stack of prefixes, the CALL and assign steps, and their
results. -/

namespace Sys2Proof.Machine

/-! ## Prefixes and the search -/

/-- A serial begins with a prefix (08, section 8.3). -/
def Stem.begins (p : Stem) (x : Serial) : Bool := (x ^^^ p.value) >>> (48 - p.length) == 0

/-- The prefix one bit longer, with the next bit given (08, section 8.3). -/
def Stem.longer (p : Stem) (bit : Bool) : Stem :=
  ⟨p.length + 1, if bit then p.value ||| ((1 : Serial) <<< (47 - p.length)) else p.value⟩

/-- The search at its start: the empty prefix alone (R155). -/
def Search.started : Search := ⟨true, [⟨0, 0⟩], none, none, false⟩

/-- The end of a search with nothing left to do (R155). -/
def Search.settled (x : Search) : Search :=
  if x.step.isNone && x.answer.isNone && x.stack.isEmpty then Search.idle else x

/-- The step in flight is over; a search told to end becomes IDLE (R155, R160). -/
def Search.stepOver (x : Search) : Search :=
  if x.ending then Search.idle else { x with step := none }.settled

/-- The bus goes OFF: stack and pending answer are dropped, a step in flight runs to its end (R149, R160). -/
def Search.cut (x : Search) : Search :=
  if x.step.isSome then { x with stack := [], answer := none, ending := true } else Search.idle

/-- The search replaced. -/
def setSearch (x : Search) (s : State) : State := s.withSbc { s.sbc with search := x }

/-- A search starts (R155). -/
def startSearch (s : State) : State := setSearch Search.started s

/-! ## The CALL step -/

/-- A collision: the prefix is split, the 0 half on top; at full length the serial is reported and the prefix abandoned
(R156). -/
def collide (p : Stem) (s : State) : State :=
  let x := s.sbc.search
  if p.length < 48 then
    setSearch { x with stack := p.longer false :: p.longer true :: x.stack }.stepOver s
  else notify (refusedNotice p.value .duplicateSerial) (setSearch x.stepOver s)

/-- The result of a CALL (R156, R157). -/
def callResult (p : Stem) (r : TxnResult) (s : State) : State :=
  match r with
  | .noReply => setSearch s.sbc.search.stepOver s
  | .reply .answer payload =>
    match answerOf payload with
    | some a => if p.begins a.serial then setSearch { s.sbc.search with answer := some a }.stepOver s else collide p s
    | none => collide p s
  | _ => collide p s

/-! ## The assign step -/

/-- An address is free: no entry holds it and no RELEASE to it waits or is in flight (R158). -/
def State.addressFree (s : State) (a : Nat) : Bool :=
  (s.mtb.entry a).isNone && !s.sou.urgent.any (fun f => f.frame.kind == .release && f.frame.address == a)

/-- The lowest free address of 1 to 30 (R158). -/
def State.lowestAddress (s : State) : Option Nat := ((List.range 30).map (· + 1)).find? s.addressFree

/-- How far an expiry lies from the surface millisecond count, negative when earlier (R130). -/
def Entry.due (e : Entry) (millis : Word32) : Int := (e.expiry - millis).toInt

/-- The earlier of two SILENT entries, the first on a tie. -/
def earlier (millis : Word32) (best : Option Entry) (e : Entry) : Option Entry :=
  match best with
  | none => some e
  | some b => if e.due millis < b.due millis then some e else some b

/-- The SILENT entry whose expiry lies earliest, the lowest address on a tie (R158 case 3). -/
def State.evictable (s : State) : Option Entry :=
  (s.mtb.entries.filter (fun e => e.state == .silent)).foldl (earlier s.sbc.millis) none

/-- The ASSIGN frame (R132, 11 section 11.4). -/
def assignFrame (serial : Serial) (address : Nat) : BusFrame :=
  ⟨31, .assign, serialBytes serial ++ [BitVec.ofNat 8 address]⟩

/-- The step in flight taken by the search, which holds no pending answer any more. -/
def holdStep (x : SearchStep) (s : State) : State :=
  setSearch { s.sbc.search with step := some x, answer := none } s

/-- Case 1: an entry rejoins at its own address (R158). -/
def rejoin (a : Answer) (e : Entry) (s : State) : State × BusFrame :=
  let s := putEntry { e with kind := a.kind, controls := a.controls, touch := a.touch, meters := a.meters
                             state := .joining, quality := 0 } s
  let s := if a.touch then s else releaseHolders (fun c => c.origin == .remote e.address) s
  (holdStep (.assign e.address a.serial (some e.state)) s, assignFrame a.serial e.address)

/-- Case 4: the module is refused (R158). -/
def refuseModule (a : Answer) (s : State) : State × BusFrame :=
  (notify (refusedNotice a.serial .tableFull) (holdStep (.refuse a.serial) s), ⟨31, .refuse, serialBytes a.serial⟩)

/-- Case 2: a new entry at the lowest free address; a free address always exists (R158). -/
def joinNew (a : Answer) (s : State) : State × BusFrame :=
  match s.lowestAddress with
  | none => refuseModule a s
  | some address =>
    let s := (putEntry ⟨address, a.serial, a.kind, a.controls, a.touch, a.meters, .joining, 0,
      Config.joiningExpiry s.fresh⟩ s).withFresh (s.fresh + 1)
    (holdStep (.assign address a.serial none) s, assignFrame a.serial address)

/-- The assign step picked: the pending answer's fate (R158). -/
def assignStep (a : Answer) (s : State) : State × BusFrame :=
  match s.mtb.entries.find? (fun e => e.serial == a.serial) with
  | some e => rejoin a e s
  | none =>
    if s.mtb.entries.length < 16 then joinNew a s
    else
      match s.evictable with
      | some e => joinNew a (removeModule e.address .evicted s)
      | none => refuseModule a s

/-- The entry that an ASSIGN named, if it still exists and is still JOINING (R159). -/
def State.joiningEntry (s : State) (address : Nat) (serial : Serial) : Option Entry :=
  (s.mtb.entry address).filter (fun e => e.state == .joining && e.serial == serial)

/-- CONFIRM: the JOINING entry becomes ONLINE, and its bindings are reattached (R159, R192). -/
def confirmModule (e : Entry) (rejoinedFrom : Option ModuleState) (s : State) : State :=
  let f := { e with state := .online, expiry := s.sbc.newExpiry }
  let reason := if rejoinedFrom.isSome then ModuleReason.rejoined else .joined
  reattach f.address f.serial (notify (f.stateNotice rejoinedFrom (some .online) reason .none) (putEntry f s))

/-- The result of an ASSIGN (R159). -/
def assignResult (address : Nat) (serial : Serial) (rejoinedFrom : Option ModuleState) (r : TxnResult) (s : State) :
    State :=
  let s := setSearch s.sbc.search.stepOver s
  match s.joiningEntry address serial with
  | none => s
  | some e =>
    match r with
    | .reply .confirm _ => confirmModule e rejoinedFrom s
    | _ => removeModule address .noConfirm s

/-- The result of the discovery step in flight (R156, R158, R159). -/
def stepResult (r : TxnResult) (s : State) : State :=
  match s.sbc.search.step with
  | some (.call p) => callResult p r s
  | some (.assign address serial rejoinedFrom) => assignResult address serial rejoinedFrom r s
  | some (.refuse _) => setSearch s.sbc.search.stepOver s
  | none => s

end Sys2Proof.Machine
end

