-- ==== Sys2Proof/Machine/Scheduler.lean ====
section
/-! DEFINITION. Transactions and the scheduler (07, sections 7.3, 7.4): what is offered and picked, how a reply is checked,
how a transaction ends, and the return of the bus to RUNNING. -/

namespace Sys2Proof.Machine

/-! ## The pick -/

/-- A transaction starts: its frame is recorded and sent whole (R134). A frame that a RESET cut short is off the line by then
(log 47). -/
def startTxn (f : BusFrame) (o : Owner) (s : State) : State :=
  s.withSbc { s.sbc with txn := some ⟨f, o, .sending⟩, free := false, cutShort := none }

/-- The frame that the part is sending (R134). -/
def Sbc.sendingFrame (b : Sbc) : Option BusFrame := (b.txn.filter (fun t => t.phase == .sending)).map (fun t => t.frame)

/-- The head frame of a queue is picked (R177). -/
def sendQueued (q : QueueId) (f : QFrame) (s : State) : State :=
  startTxn f.frame (.output q) (s.withSou (s.sou.putQueue q (pickHead (s.sou.queue q))))

/-- What the scheduler would pick (R139, R151). -/
inductive Offer where
  | startUp
  | queued (q : QueueId) (f : QFrame)
  | poll (address : Nat)
  | assignStep (a : Answer)
  | callStep (p : Stem)
deriving DecidableEq, Repr

/-- The search's offer: nothing while a step is in flight, the assign step before a CALL (R155). -/
def Search.offer (x : Search) : Option Offer :=
  if x.running && x.step.isNone then
    match x.answer with
    | some a => some (.assignStep a)
    | none => x.stack.head?.map .callStep
  else none

/-- The first of the offers in the scheduler's order (R139); the start-up RELEASE is ahead of all (R151). -/
def State.offer (s : State) : Option Offer :=
  if s.sbc.startUp then some .startUp
  else
    ((offered s.sou.urgent).map (.queued .urgent)).or
    ((s.sbc.roundList.head?.map .poll).or
    (s.sbc.search.offer.or
    (((offered s.sou.normal).map (.queued .normal)).or
    ((offered s.sou.meter).map (.queued .meter)))))

/-- A pick of what was offered (R139, R141, R151, R156, R158). -/
def takeOffer (o : Offer) (s : State) : State :=
  match o with
  | .startUp => startTxn ⟨0, .release, []⟩ .controller (s.withSbc { s.sbc with startUp := false })
  | .queued q f => sendQueued q f s
  | .poll a => startTxn ⟨a, .poll, []⟩ .round (s.withSbc { s.sbc with roundList := s.sbc.roundList.drop 1 })
  | .assignStep a =>
    let (t, f) := assignStep a s
    startTxn f .search t
  | .callStep p =>
    startTxn ⟨31, .call, p.bytes⟩ .search
      (setSearch { s.sbc.search with step := some (.call p), stack := s.sbc.search.stack.drop 1 } s)

/-- The scheduler may pick: the bus is RUNNING and free, and initialisation is complete (R139, log 10). -/
def State.mayPick (s : State) : Bool :=
  s.phase == .running && s.sbc.bus == .running && s.sbc.free && s.sbc.txn.isNone

/-- The scheduler (R139), run at every event that may bring an offer (log 18). -/
def schedule (s : State) : State :=
  if s.mayPick then
    match s.offer with
    | some o => takeOffer o s
    | none => s
  else s

/-! ## The end of a transaction -/

/-- The address that a reply must carry (R132). -/
def BusFrame.replyAddress (f : BusFrame) : Nat :=
  match f.kind with
  | .call => 31
  | .assign => (f.payload.getD 6 0).toNat
  | _ => f.address

/-- The reply kinds accepted for a frame (R132). -/
def BusFrame.accepts (f : BusFrame) (k : ReplyKind) : Bool :=
  match f.kind with
  | .poll => k == .report || k == .empty
  | .call => k == .answer
  | .assign => k == .confirm
  | .refuse => false
  | .release | .write | .setControl | .meter => k == .ack || k == .nak || k == .wait

/-- A frame to which no reply is accepted (R132). -/
def BusFrame.unanswered (f : BusFrame) : Bool := f.address == 0 || f.kind == .refuse

/-- The result that a reply's characters give; none while they are fewer than length + 4 (R136). -/
def replyResult (f : BusFrame) : List Byte → Option TxnResult
  | address :: kind :: length :: rest =>
    let n := length.toNat
    if 32 < n then some .corrupt
    else if rest.length ≤ n then none
    else
      let payload := rest.take n
      if crc8 (address :: kind :: length :: payload) ≠ rest.getD n 0 then some .corrupt
      else if address.toNat ≠ f.replyAddress then some .corrupt
      else
        match replyKindOf kind with
        | some k => if f.accepts k && k.lengthOk n then some (.reply k payload) else some .corrupt
        | none => some .corrupt
  | _ => none

/-- R138 step 1. -/
def countResult (r : TxnResult) (b : Sbc) : Sbc :=
  match r with
  | .noReply => { b with noReplies := saturate16 (b.noReplies + 1) }
  | .corrupt => { b with corrupts := saturate16 (b.corrupts + 1) }
  | _ => b

/-- R138 step 2 applies: sent to an address 1 to 30 other than by a discovery step. -/
def Txn.judges (t : Txn) : Bool := decide (1 ≤ t.frame.address) && decide (t.frame.address ≤ 30) && t.owner != .search

/-- R138 step 4. -/
def toOwner (o : Owner) (r : TxnResult) (s : State) : State :=
  match o with
  | .round | .controller => s
  | .search => stepResult r s
  | .output q => frameOutcome q r s

/-- The events of a reply (R138 step 3). -/
def reportEvents (address : Nat) (r : TxnResult) (s : State) : State :=
  match r with
  | .reply .report payload => takeEvents address (lowStamp s.cku.counter) payload s
  | _ => s

/-- The transaction in flight ends with a result, handed on in the order of R138. -/
def endTxn (t : Txn) (r : TxnResult) (s : State) : State :=
  let s := s.withSbc { countResult r s.sbc with txn := none, free := false }
  let s := if t.judges then judgeModule t.frame.address r s else s
  toOwner t.owner r (reportEvents t.frame.address r s)

/-- The phase of the transaction in flight, if any. -/
def State.txnPhase (s : State) : Option TxnPhase := s.sbc.txn.map (fun t => t.phase)

/-- The transaction in flight ends with a result when it is in one of the phases given. -/
def endTxnIn (phases : List TxnPhase) (r : TxnResult) (s : State) : State :=
  match s.sbc.txn with
  | some t => if phases.contains t.phase then endTxn t r s else s
  | none => s

/-- The transaction in flight enters a phase. -/
def enterPhase (p : TxnPhase) (s : State) : State :=
  s.withSbc { s.sbc with txn := s.sbc.txn.map (fun t => { t with phase := p }) }

/-! ## Bus states -/

/-- A change of the bus state with its notice (R148). -/
def setBus (st : BusState) (reason : BusReason) (s : State) : State :=
  let t := s.withSbc { s.sbc with bus := st }
  notify (.busState s.sbc.bus st reason t.sbc.stucks) t

/-- The bus returns to RUNNING after clearing: expiries move forward, the bus is free, the scheduler picks (R145 to
R147). BUS_STATE comes before the notices of the pick (DESIGN CHOICE, log 54). -/
def busCleared (s : State) : State :=
  let s := s.withSbc { s.sbc with attempt := 0, faultTimer := none, faultAttempt := false, stuckTimer := false
                                  free := true }
  schedule (setBus .running .cleared (refreshExpiries s))

end Sys2Proof.Machine
end

