-- ==== Sys2Proof/Machine/Bindings.lean ====
section
/-! DEFINITION. The meanings of the Binding Table's commands (10, section 10.1). -/

namespace Sys2Proof.Machine

/-- A binding by index. -/
def State.binding (s : State) (i : Nat) : Binding := s.bdt.getD i Binding.emptyEntry

/-- The fields of BIND_SET with its step clamped; none when one is out of range (R8, R185). -/
def bindingOf (origin control targetKind targetIndex mode step feedback : Byte) : Option Binding :=
  match controlOf origin control, targetOf targetKind targetIndex, bindModeOf mode, flagOf feedback with
  | some c, some t, some m, some f =>
    if m.suits t then some ⟨.active, .none, c, none, t, m, clampTo 1 60 step.toNat, f⟩ else none
  | _, _, _, _ => none

/-- Another binding than this index, not EMPTY, has the control (R185). -/
def State.controlTaken (s : State) (i : Nat) (c : Control) : Bool :=
  (numbered 0 s.bdt).any (fun (n, b) => n != i && b.state != .empty && b.control == c)

/-- The serial of the entry at a control's address, none for LOCAL (R185). -/
def State.serialOf (s : State) (c : Control) : Option Serial :=
  match c.origin with
  | .bank => none
  | .remote a => (s.mtb.entry a).map (fun e => e.serial)

/-- The module of a control is missing: no entry holds its address (R185). -/
def State.moduleMissing (s : State) (c : Control) : Bool :=
  match c.origin with
  | .bank => false
  | .remote a => (s.mtb.entry a).isNone

/-- The route of a target is not ACTIVE (R185). -/
def State.routeMissing (s : State) (t : Target) : Bool :=
  match t.ref with
  | .route id => (s.rme.route id).state != .active
  | .bus _ => false

/-- A binding stored in place of the one at the index, whose hold is released first; feedback when it is on (R185). -/
def storeBinding (i : Nat) (b : Binding) (s : State) : State :=
  let s := if (s.binding i).state = .empty then s else releaseHold (s.binding i) s
  let s := s.withBdt (s.bdt.set i b)
  if b.feedback then sendFeedback b s else s

/-- What the BDT makes of BIND_SET (R185). -/
def handleBindSet (index origin control targetKind targetIndex mode step feedback : Byte) (s : State) : Handled :=
  match indexBelow 32 index, bindingOf origin control targetKind targetIndex mode step feedback with
  | some i, some b =>
    if s.controlTaken i b.control then refuse s .inUse
    else if s.moduleMissing b.control then refuse s .notFound
    else if s.routeMissing b.target then refuse s .notFound
    else
      let b := { b with serial := s.serialOf b.control }
      ⟨schedule (storeBinding i b s), adjustedIf (b.step != step.toNat), some (.binding b)⟩
  | _, _ => refuse s .outOfRange

/-- BIND_SET (R185). -/
def execBindSet (tag index origin control targetKind targetIndex mode step feedback : Byte) (s : State) : Outcome :=
  takeRow 0x50 tag (handleBindSet index origin control targetKind targetIndex mode step feedback) s

/-- What the BDT makes of BIND_CLEAR (R186). -/
def handleBindClear (index : Byte) (s : State) : Handled :=
  match indexBelow 32 index with
  | none => refuse s .outOfRange
  | some i =>
    if (s.binding i).state = .empty then refuse s .notFound
    else
      let t := releaseHold (s.binding i) s
      accept (t.withBdt (t.bdt.set i Binding.emptyEntry)) none

/-- BIND_CLEAR (R186). -/
def execBindClear (tag index : Byte) (s : State) : Outcome := takeRow 0x51 tag (handleBindClear index) s

/-- Whether a binding's control is the holder of its target (R186). -/
def State.holds (s : State) (b : Binding) : Bool :=
  b.state != .empty && (s.rme.level b.target.ref).holder == some b.control

/-- What the BDT makes of BIND_LIST (R186). -/
def handleBindList (s : State) : Handled := accept s (some (.bindings (s.bdt.map (fun b => (b, s.holds b)))))

/-- BIND_LIST (R186). -/
def execBindList (tag : Byte) (s : State) : Outcome := takeRow 0x52 tag handleBindList s

end Sys2Proof.Machine
end

