-- ==== Sys2Proof/Machine/Fanout.lean ====
section
/-! DEFINITION. What one event hands to several blocks: clock events to streams and ports (R45), the presence of sources
(R23), a change of rate (R41), a link reset (R2, R17) and suspend (R18, R71). -/

namespace Sys2Proof.Machine

/-! ## Ports -/

/-- The ports replaced; the route engine holds each overload line as the ports then hand it over (R89). -/
def withPorts (ps : List Port) (s : State) : State :=
  (s.withPtu ps).withRme { s.rme with overload := ps.map Port.handsOverload }

/-- The standing of a port's own source. -/
def ownStanding (c : Cku) (i : Nat) : Standing := (c.sources.getD (3 + i) SourceRec.absentRec).standing

/-- Every port changed by an operation, and the PORT_STATE notices of the ports that it gives a reason (R80), in ascending
port order: R90 gives that order at a change of rate, and at a clock event and a studio frame it is the model's choice
(log 44). -/
def portsBy (op : Nat → Port → Port × Option PortReason) (ps : List Port) : List Port × List NoticeBody :=
  ((numbered 0 ps).map (fun (i, p) => (op i p).1),
   (numbered 0 ps).filterMap (fun (i, p) => (op i p).2.map ((op i p).1.stateNotice i p.state)))

/-- One port changed by an operation, with its PORT_STATE notice when the operation gives a reason (R80). -/
def changePort (i : Nat) (op : Port → Port × Option PortReason) (s : State) : State :=
  let p := s.port i
  let (q, reason) := op p
  let s := withPorts (s.ptu.set i q) s
  match reason with
  | some r => notify (q.stateNotice i p.state r) s
  | none => s

/-! ## Clock events -/

/-- A port at a clock event: it reacts when the clock state or its own source's state has changed (R76). -/
def portAtClock (before after : Cku) (i : Nat) (p : Port) : Port × Option PortReason :=
  if before.clock = after.clock ∧ ownStanding before i = ownStanding after i then (p, none)
  else p.react after.clock (ownStanding after i)

/-- The Clock Unit changes at an event; the Stream Unit and the Port Unit react at it (R45, R62, R67, R76). `stu` and
`ptu` are notices that those blocks raise at the same event for a reason of their own; that those of the Port Unit, the
CONFIGURED notice of R81, come before its notices of the clock event is the model's choice (log 45). -/
def clockChange (after : Cku) (reason : Option ClockReason) (stu ptu : List NoticeBody) (s : State) : State :=
  let ports := portsBy (portAtClock s.cku after) s.ptu
  notifyMerged (sourceNotices s.cku after ++ clockNotice after reason) stu (ptu ++ ports.2) []
    (withPorts ports.1
      ((s.withCku after).withStu (s.stu.clockEvent s.cku.clock after.clock reason.isSome)))

/-- A clock event: nothing happens when it changes nothing. -/
def clockEvent (r : Cku × Option ClockReason) (s : State) : State :=
  if r.1 = s.cku ∧ r.2 = none then s else clockChange r.1 r.2 [] [] s

/-- A change of the studio rate at the Clock, Stream, Port, and Route and Mix units (R41, R45, R68, R90, R119). -/
def changeRate (r : Rate) (s : State) : State :=
  let c := s.cku.changeRate r
  let (u, stuNotices) := s.stu.changeRate s.cku.counter r
  let ports := portsBy (fun i p => p.changeRate r c.clock (ownStanding c i)) s.ptu
  let (m, rmeNotices) := s.rme.changeRate
  notifyMerged (sourceNotices s.cku c ++ clockNotice c (some .rateChange)) stuNotices ports.2 rmeNotices
    (withPorts ports.1
      (((s.withCku c).withStu (u.clockEvent s.cku.clock c.clock true)).withRme m))

/-! ## Presence -/

/-- A source that was present before an event and is not after it stops being present (R23); `stu` and `ptu` are the
notices of the event itself. -/
def losePresence (x : ClockSource) (was : Bool) (stu ptu : List NoticeBody) (s : State) : State :=
  if was && !s.present x then clockChange (s.cku.lose x).1 (s.cku.lose x).2 stu ptu s
  else notifyAll (stu ++ ptu) s

/-! ## Edges of the sources -/

/-- Edges of a source are counted while it is external and present, once check periods run (R22, R46, log 10). -/
def countEdges (x : ClockSource) (n : Nat) (s : State) : State :=
  if s.phase = .running ∧ x ≠ .internal ∧ s.present x then s.withCku (s.cku.countEdges x n) else s

/-- The link reference at the start of a service interval: rate/8000 edges on average, the part of an edge left over carried to
the next interval (R22). -/
def LinkReference.interval (x : LinkReference) (rate : Rate) : LinkReference :=
  ⟨(x.fraction + rate.hertz) / 8000, (x.fraction + rate.hertz) % 8000⟩

/-- The link reference gives an edge at a SOURCE_EDGE row for LINK while the interval in progress has one still to come, and
none otherwise, so it stops when microframes stop (R22, log 51). -/
def referenceEdge (s : State) : State :=
  let r := s.lif.reference
  if 0 < r.due then countEdges .link 1 (s.withLif { s.lif with reference := { r with due := r.due - 1 } }) else s

/-- A service interval starts: the edges of the last one that no row has brought are counted now, and those of this one are
still to come (R22, log 51). -/
def referenceInterval (s : State) : State :=
  let t := countEdges .link s.lif.reference.due s
  t.withLif { t.lif with reference := t.lif.reference.interval t.cku.rate }

/-! ## The link -/

/-- The link state replaced. -/
def setLink (l : LinkState) (s : State) : State := s.withLif { s.lif with link := l }

/-- The answer on the computer port. -/
def answerLink (a : LinkAnswer) (s : State) : State := s.withLif { s.lif with answer := a }

/-- The LIF and the MSU empty their records (R17). -/
def emptyRecords (s : State) : State :=
  (s.withLif { s.lif with transmit := none }).withMsu
    { s.msu with commands := [], replies := [], notices := [], gap := false }

/-- A link reset that leaves the link in a state (R2, R17, R46, R70). -/
def linkReset (l : LinkState) (s : State) : State :=
  let was := s.present .link
  let t := (setLink l s).withStu (s.stu.linkReset s.cku.counter)
  if Config.emptiesFirst s.fresh then losePresence .link was [] [] (emptyRecords t)
  else emptyRecords (losePresence .link was [] [] t)

/-- The link leaves a state with a link reset when that state is CONFIGURED or remembers it (R1, R2). -/
def leaveLink (l : LinkState) (s : State) : State :=
  match s.lif.link with
  | .configured | .suspended true => linkReset l s
  | .detached | .attached | .suspended false => setLink l s

/-- Entry to SUSPENDED (R1, R18, R71). -/
def suspendLink (fromConfigured : Bool) (s : State) : State :=
  losePresence .link (s.present .link) s.stu.suspendNotices []
    ((setLink (.suspended fromConfigured) s).withStu (s.stu.linkReset s.cku.counter))

end Sys2Proof.Machine
end

