-- ==== Sys2Proof/Machine/Clock.lean ====
section
/-! DEFINITION. The meanings of the Clock Unit's rows (02). -/

namespace Sys2Proof.Machine

/-! ## Commands -/

/-- What the CKU makes of CLOCK_SET_RATE (R41). -/
def handleClockSetRate (rate : Byte) (s : State) : Handled :=
  match rateOf rate with
  | none => refuse s .outOfRange
  | some r => accept (if r = s.cku.rate then s else changeRate r s) (some (.rate r))

/-- CLOCK_SET_RATE (R41). -/
def execClockSetRate (tag rate : Byte) (s : State) : Outcome := takeRow 0x10 tag (handleClockSetRate rate) s

/-- The settings and the clock that CLOCK_SET_SOURCES reports (R40). -/
def Cku.sourcesResult (c : Cku) : Result := .sources c.priority c.mode c.fixedSource c.revert c.clock c.source

/-- What the CKU makes of CLOCK_SET_SOURCES (R40). -/
def handleClockSetSources (mode fixed revert : Byte) (list : List Byte) (s : State) : Handled :=
  match clockModeOf mode, sourceOf fixed, flagOf revert, sourcesOf list with
  | some m, some x, some r, some xs =>
    if xs.Nodup then
      let t := clockEvent (s.cku.setSources m x r xs) s
      accept t (some t.cku.sourcesResult)
    else refuse s .inUse
  | _, _, _, _ => refuse s .outOfRange

/-- CLOCK_SET_SOURCES (R40); a list of no length that a record can have is a wrong payload size (R7). -/
def execClockSetSources (tag mode fixed revert : Byte) (list : List Byte) (s : State) : Outcome :=
  takeRow 0x11 tag
    (fun s => if 1 ≤ list.length ∧ list.length ≤ 7 then handleClockSetSources mode fixed revert list s
      else refuse s .badLength) s

/-- A source record as reported (R42). -/
def SourceRec.report (r : SourceRec) : SourceReport := ⟨r.standing, r.quality, r.revert, r.lastEdges⟩

/-- What the CKU makes of CLOCK_STATUS (R42). -/
def handleClockStatus (s : State) : Handled :=
  let c := s.cku
  accept s (some (.clock c.rate c.clock c.source c.fallback c.mode c.fixedSource c.revert c.priority c.timerLeft
    c.counter (c.sources.map SourceRec.report)))

/-- CLOCK_STATUS (R42). -/
def execClockStatus (tag : Byte) (s : State) : Outcome := takeRow 0x12 tag handleClockStatus s

/-! ## Events -/

/-- CHECK_PERIOD_END (R24 to R26, R35 to R37); check periods begin when initialisation ends (R46). -/
def execCheckPeriodEnd (s : State) : Outcome :=
  .next (if s.phase = .running then clockEvent (s.cku.periodEnd s.present) s else s)

/-- SYNTHESISER_LOCK (R29). -/
def execSynthesiserLock (s : State) : Outcome := .next (clockEvent s.cku.lock s)

/-- SYNTHESISER_UNLOCK (R33). -/
def execSynthesiserUnlock (s : State) : Outcome := .next (clockEvent s.cku.unlock s)

/-- LOCK_TIMER_EXPIRY (R31, R32). -/
def execLockTimerExpiry (s : State) : Outcome := .next (clockEvent s.cku.lockTimeout s)

/-- SETTLE_TIMER_EXPIRY (R30). -/
def execSettleTimerExpiry (s : State) : Outcome := .next (clockEvent s.cku.settleTimeout s)

/-- HOLDOVER_TIMER_EXPIRY (R39). -/
def execHoldoverTimerExpiry (s : State) : Outcome := .next (clockEvent s.cku.holdoverTimeout s)

/-- SOURCE_EDGE: counted for a present external source; LINK's edges are those that the link reference gives (R22). -/
def execSourceEdge (source : ClockSource) (s : State) : Outcome :=
  .next (
    match source with
    | .link => referenceEdge s
    | .internal | .wordclock | .port _ => countEdges source 1 s)

end Sys2Proof.Machine
end

