-- ==== Sys2Proof/Machine/ConverterPort.lean ====
section
/-! DEFINITION. The meanings of the Port Unit's rows (04). -/

namespace Sys2Proof.Machine

/-! ## Commands -/

/-- A port's own source. -/
def portSource (i : Nat) : ClockSource := .port (Fin.ofNat 4 i)

/-- A port configured (R81): a port in CONFLICT restarts, and a port that leaves FOLLOW mode loses its source (R23).
The slip counts are kept, as R81 says, also when a FOLLOW port that has slipped becomes a DRIVE port, whose counts R86 says
stay 0 (DESIGN CHOICE, log 53). -/
def configurePort (i : Nat) (mode : PortMode) (slots : Nat) (s : State) : State :=
  let p := s.port i
  let q := { p with mode := mode, slots := slots }
  let lost := p.mode = .follow ∧ mode = .drive
  let clock := if lost then s.cku.lose (portSource i) else (s.cku, none)
  let r := if p.state = .conflict then q.enterStarting clock.1.clock (ownStanding clock.1 i) else q
  let notices := if p.state = .conflict then [r.stateNotice i .conflict .configured] else []
  let s := withPorts (s.ptu.set i r) s
  if lost then clockChange clock.1 clock.2 [] notices s else notifyAll notices s

/-- What the PTU makes of PORT_CONFIG (R81). -/
def handlePortConfig (port mode slots : Byte) (s : State) : Handled :=
  match indexBelow 4 port, portModeOf mode, slotsOf slots with
  | some i, some m, some n =>
    if (s.port i).state ≠ .off ∧ (s.port i).state ≠ .conflict then refuse s .wrongState
    else if s.cku.rate.maxSlots < n then refuse s .outOfRange
    else accept (configurePort i m n s) (some (.portConfig m n))
  | _, _, _ => refuse s .outOfRange

/-- PORT_CONFIG (R81). -/
def execPortConfig (tag port mode slots : Byte) (s : State) : Outcome :=
  takeRow 0x20 tag (handlePortConfig port mode slots) s

/-- A port started (R82). -/
def Port.started (p : Port) (clock : ClockState) (own : Standing) : Port × Option PortReason :=
  ({ p with underSlips := 0, overSlips := 0 }.enterStarting clock own, some .started)

/-- What the PTU makes of PORT_START (R82). -/
def handlePortStart (port : Byte) (s : State) : Handled :=
  match indexBelow 4 port with
  | none => refuse s .outOfRange
  | some i =>
    if (s.port i).state ≠ .off then refuse s .wrongState
    else if s.cku.rate.maxSlots < (s.port i).slots then refuse s .outOfRange
    else accept (changePort i (fun p => p.started s.cku.clock (ownStanding s.cku i)) s) none

/-- PORT_START (R82). -/
def execPortStart (tag port : Byte) (s : State) : Outcome := takeRow 0x21 tag (handlePortStart port) s

/-- What the PTU makes of PORT_STOP (R83). -/
def handlePortStop (port : Byte) (s : State) : Handled :=
  match indexBelow 4 port with
  | none => refuse s .outOfRange
  | some i =>
    if (s.port i).state = .off then accept s none
    else accept (changePort i (fun p => (p.enterStopped .off, some .stopped)) s) none

/-- PORT_STOP (R83). -/
def execPortStop (tag port : Byte) (s : State) : Outcome := takeRow 0x22 tag (handlePortStop port) s

/-- What the PTU makes of PORT_MUTE (R84). -/
def handlePortMute (port mute : Byte) (s : State) : Handled :=
  match indexBelow 4 port, flagOf mute with
  | some i, some b => accept (changePort i (fun p => ({ p with mute := b }, none)) s) (some (.portMute b))
  | _, _ => refuse s .outOfRange

/-- PORT_MUTE (R84). -/
def execPortMute (tag port mute : Byte) (s : State) : Outcome := takeRow 0x23 tag (handlePortMute port mute) s

/-- What PORT_STATUS reports (R85). -/
def Port.status (p : Port) : Result :=
  .port p.mode p.slots p.mute p.state p.resetLine p.muteLine p.overload (p.resetTimer.getD 0) p.settle
    (if p.mode = .drive then 0 else p.inBuf.length) (if p.mode = .drive then 0 else p.outBuf.length)
    p.underSlips p.overSlips

/-- What the PTU makes of PORT_STATUS (R85). -/
def handlePortStatus (port : Byte) (s : State) : Handled :=
  match indexBelow 4 port with
  | none => refuse s .outOfRange
  | some i => accept s (some (s.port i).status)

/-- PORT_STATUS (R85). -/
def execPortStatus (tag port : Byte) (s : State) : Outcome := takeRow 0x24 tag (handlePortStatus port) s

/-! ## Events -/

/-- PORT_RESET_TIMER_EXPIRY (R77). -/
def execPortResetTimerExpiry (port : Fin 4) (s : State) : Outcome := .next (changePort port.val Port.resetDone s)

/-- PORT_SETTLE_COUNT_END (R78). -/
def execPortSettleCountEnd (port : Fin 4) (s : State) : Outcome := .next (changePort port.val Port.settleEnd s)

/-- PORT_INPUT_FRAME_COMPLETE (R74, R87, R88). -/
def execPortInputFrameComplete (port : Fin 4) (slots : List Slot) (s : State) : Outcome :=
  .next (changePort port.val (fun p => (p.inputFrame (p.frameOfValues (slots.map sampleOfSlot)), none)) s)

/-- PORT_OUTPUT_FRAME_BEGIN (R75, R87). -/
def execPortOutputFrameBegin (port : Fin 4) (s : State) : Outcome :=
  .next (changePort port.val (fun p => (p.outputFrame, none)) s)

/-- OVERLOAD_LINE_CHANGE (R89). -/
def execOverloadLineChange (port : Fin 4) (level : Bool) (s : State) : Outcome :=
  .next (changePort port.val (fun p => ({ p with overload := level }, none)) s)

end Sys2Proof.Machine
end

