-- ==== Sys2Proof/Machine/Faders.lean ====
section
/-! DEFINITION. The meanings of the Fader Servo's rows (10, section 10.5). -/

namespace Sys2Proof.Machine

/-! ## Commands -/

/-- The settings of FADER_CONFIG as clamped; none when enable or rest mode is out of range (R8, R193). -/
def faderSettingsOf (enable kp deadband minDuty maxDuty rest limit : Byte) : Option FaderSettings :=
  match flagOf enable, restOf rest with
  | some e, some r =>
    let high := clampTo 1 255 maxDuty.toNat
    some ⟨e, clampTo 1 64 kp.toNat, clampTo 1 32 deadband.toNat, min minDuty.toNat high, high, r,
      clampTo 1 255 limit.toNat⟩
  | _, _ => none

/-- Whether a setting of FADER_CONFIG was clamped (R8, R193). -/
def FaderSettings.clamped (x : FaderSettings) (kp deadband minDuty maxDuty limit : Byte) : Bool :=
  x.kp != kp.toNat || x.deadband != deadband.toNat || x.minDuty != minDuty.toNat || x.maxDuty != maxDuty.toNat ||
    x.limit != limit.toNat

/-- A channel takes its settings; a channel disabled gives up its hold (R188, R193). -/
def configureFader (i : Nat) (x : FaderSettings) (s : State) : State :=
  let off := x.enable = false ∧ (s.fsv.channel i).state ≠ .disabled
  let t := changeFader i (fun f => f.configured x s.fsv.supplyGood) s
  if off then releaseHolders (fun c => c == ⟨.bank, i⟩) t else t

/-- What the FSV makes of FADER_CONFIG (R193). -/
def handleFaderConfig (channel enable kp deadband minDuty maxDuty rest limit : Byte) (s : State) : Handled :=
  match indexBelow 8 channel, faderSettingsOf enable kp deadband minDuty maxDuty rest limit with
  | some i, some x =>
    ⟨configureFader i x s, adjustedIf (x.clamped kp deadband minDuty maxDuty limit), some (.faderSettings x)⟩
  | _, _ => refuse s .outOfRange

/-- FADER_CONFIG (R193). -/
def execFaderConfig (tag channel enable kp deadband minDuty maxDuty rest limit : Byte) (s : State) : Outcome :=
  takeRow 0x53 tag (handleFaderConfig channel enable kp deadband minDuty maxDuty rest limit) s

/-- What the FSV makes of FADER_MOVE (R197). -/
def handleFaderMove (channel : Byte) (position : Half) (s : State) : Handled :=
  match indexBelow 8 channel with
  | none => refuse s .outOfRange
  | some i =>
    let t := min 1023 position.toNat
    if (s.fsv.channel i).state = .disabled then refuse s .wrongState
    else if (s.fsv.channel i).touch then refuse s .heldBySurface
    else ⟨aimFader i t s, adjustedIf (t != position.toNat), some (.faderPosition t)⟩

/-- FADER_MOVE (R197). -/
def execFaderMove (tag channel : Byte) (position : Half) (s : State) : Outcome :=
  takeRow 0x54 tag (handleFaderMove channel position) s

/-- What the FSV makes of FADER_CLEAR (R199). -/
def handleFaderClear (channel : Byte) (s : State) : Handled :=
  match indexBelow 8 channel with
  | none => refuse s .outOfRange
  | some i =>
    let t := changeFader i (fun f => f.clearFault s.fsv.supplyGood) s
    accept t (some (.faderStanding (t.fsv.channel i).state))

/-- FADER_CLEAR (R199). -/
def execFaderClear (tag channel : Byte) (s : State) : Outcome := takeRow 0x55 tag (handleFaderClear channel) s

/-- What FADER_STATUS reports (R200). -/
def Fader.status (f : Fader) (supplyGood : Bool) : Result :=
  .fader f.settings f.state f.touch f.target f.position f.reported f.duty f.motion f.overRun f.openRun f.fault supplyGood

/-- What the FSV makes of FADER_STATUS (R200). -/
def handleFaderStatus (channel : Byte) (s : State) : Handled :=
  match indexBelow 8 channel with
  | none => refuse s .outOfRange
  | some i => accept s (some ((s.fsv.channel i).status s.fsv.supplyGood))

/-- FADER_STATUS (R200). -/
def execFaderStatus (tag channel : Byte) (s : State) : Outcome := takeRow 0x56 tag (handleFaderStatus channel) s

/-! ## The servo period -/

/-- A channel takes its sample (R194). -/
def Fader.sampled (f : Fader) (x : FaderSample) : Fader := { f with position := x.position, touchSensor := x.touch }

/-- Every channel reads its settings and takes its sample; a channel without one keeps the last (R193, R194, log 16). -/
def sampleAll (samples : List FaderSample) (s : State) : State :=
  s.withFsv { s.fsv with channels := (numbered 0 s.fsv.channels).map (fun (i, f) =>
    match samples[i]? with
    | some x => f.settled.sampled x
    | none => f.settled) }

/-- Touch set on a channel: a moving or stalled channel lets go (R194). -/
def Fader.touched (f : Fader) : Fader × Option FaderReason :=
  let g := { f with touch := true }
  match f.state with
  | .moving | .stalled => (g.rested .idle, some .touched)
  | .idle | .fault | .held | .disabled => (g, none)

/-- A local event of a channel (R165, R194). -/
def localEvent (i : Nat) (kind : EventKind) (value : Nat) (s : State) : SurfaceEvent :=
  ⟨⟨.bank, i⟩, kind, value, lowStamp s.cku.counter⟩

/-- A FADER event of a channel: the last reported position becomes the position (R194). -/
def emitPosition (i : Nat) (s : State) : State :=
  let p := (s.fsv.channel i).position
  deliverEvent (localEvent i .fader p s) (changeFader i (fun f => ({ f with reported := p }, none)) s)

/-- A FADER event when the position differs from the last reported one by at least `n` (R194). -/
def emitMoved (i n : Nat) (s : State) : State :=
  let f := s.fsv.channel i
  if n ≤ ((f.position : Int) - (f.reported : Int)).natAbs then emitPosition i s else s

/-- Touch on one channel (R194). -/
def touchStep (i : Nat) (s : State) : State :=
  let f := s.fsv.channel i
  if f.state = .disabled then s
  else if f.touchSensor && !f.touch then
    let s := changeFader i Fader.touched s
    emitMoved i 2 (deliverEvent (localEvent i .touch 1 s) s)
  else if f.touchSensor then emitMoved i 2 s
  else if f.touch then
    let s := changeFader i (fun f => ({ f with touch := false }, none)) (emitMoved i 1 s)
    changeFader i (fun f => ({ f with target := f.position }, none)) (deliverEvent (localEvent i .touch 0 s) s)
  else s

/-- A channel acts on its sample when it is MOVING and untouched (R195). -/
def driveStep (samples : List FaderSample) (i : Nat) (s : State) : State :=
  match samples[i]? with
  | none => s
  | some x =>
    changeFader i (fun f => if f.state = .moving ∧ f.touch = false then f.drive x.current else (f, none)) s

/-- SERVO_PERIOD (R194, R195): samples, then touch and its events, channel 0 first, then the drive (log 16). -/
def execServoPeriod (samples : List FaderSample) (s : State) : Outcome :=
  let s := sampleAll samples s
  let s := (List.range 8).foldl (fun s i => touchStep i s) s
  let s := (List.range 8).foldl (fun s i => driveStep samples i s) s
  .next (schedule s)

/-- MOTION_TIMER_EXPIRY (R195 step 4). -/
def execMotionTimerExpiry (channel : Fin 8) (s : State) : Outcome := .next (changeFader channel.val Fader.stall s)

/-- The supply input at a level. -/
def setSupply (good : Bool) (s : State) : State := s.withFsv { s.fsv with supplyGood := good }

/-- SUPPLY_LOW (R198). -/
def execSupplyLow (s : State) : Outcome :=
  .next (if s.fsv.supplyGood then changeAllFaders Fader.supplyLow (setSupply false s) else s)

/-- SUPPLY_BACK (R198). -/
def execSupplyBack (s : State) : Outcome :=
  .next (if s.fsv.supplyGood then s else changeAllFaders Fader.supplyBack (setSupply true s))

end Sys2Proof.Machine
end

