-- ==== Sys2Proof/Machine/Link.lean ====
section
/-! DEFINITION. The meanings of the power, link and control-pipe rows and of the MSU's own commands (01). -/

namespace Sys2Proof.Machine

/-! ## Power and reset -/

/-- The whole part at power-on, with the input pins as they stand (R14, log 24). -/
def poweredOn (s : State) : State :=
  { State.reset with
    ptu := s.ptu.map (fun p => Port.powerOn p.overload)
    sbc := Sbc.powerOn s.sbc.lineBreak
    fsv := Fsv.powerOn s.fsv.supplyGood
    fresh := s.fresh
    pending := s.pending }

/-- The Surface Bus Controller after a RESET: its power-on state, with the frame that was being sent, which stops at the next
character boundary (R134, R151, log 47). -/
def Sbc.afterReset (b : Sbc) : Sbc := { Sbc.powerOn b.lineBreak with cutShort := b.sendingFrame.or b.cutShort }

/-- Every block other than the LIF at power-on during a RESET; replies, start cause, the samples of the faders and the frame
cut short are kept (R13, R15, R151, R193). -/
def resetBlocks (s : State) : State :=
  { poweredOn s with
    phase := .resetting
    lif := s.lif
    sbc := s.sbc.afterReset
    fsv := s.fsv.afterReset
    msu := { Msu.powerOn with replies := s.msu.replies, cause := s.msu.cause } }

/-- Initialisation, or a reset, is complete: READY is queued, the start-up RELEASE waits, and a line in break starts
the stuck timer (R14, R15, R151). -/
def sessionOpens (cause : StartCause) (s : State) : State :=
  let s := (s.withPhase .running).withMsu { s.msu with cause := cause }
  let s := s.withSbc { s.sbc with startUp := true, stuckTimer := s.sbc.lineBreak && s.sbc.bus == .running }
  schedule (notify (.ready cause) s)

/-- POWER_ON (R14). -/
def execPowerOn (s : State) : Outcome := .next (poweredOn s)

/-- INITIALISATION_COMPLETE (R14, R151). -/
def execInitialisationComplete (s : State) : Outcome :=
  .next (if s.phase = .powerUp then sessionOpens .powerOn s else s)

/-- RESET_COMPLETE (R15, R151). -/
def execResetComplete (s : State) : Outcome :=
  .next (if s.phase = .resetting then sessionOpens .resetCommand s else s)

/-- What the MSU makes of RESET (R15). -/
def handleReset (s : State) : Handled := accept (resetBlocks s) none

/-- RESET (R15). -/
def execReset (tag : Byte) (s : State) : Outcome := takeRow 0x02 tag handleReset s

/-! ## Link events (R1) -/

/-- BUS_POWER_CONNECTION (R1). -/
def execBusPowerConnection (s : State) : Outcome :=
  .next (if s.lif.link = .detached then setLink .attached s else s)

/-- BUS_RESET (R1, R2). -/
def execBusReset (s : State) : Outcome :=
  .next (if s.lif.link = .detached then s else leaveLink .attached s)

/-- The link answers set-up requests in ATTACHED and CONFIGURED (R1). -/
def State.answersSetup (s : State) : Bool := s.lif.link == .attached || s.lif.link == .configured

/-- SELECT_CONFIGURATION (R1). -/
def execSelectConfiguration (value : Byte) (s : State) : Outcome :=
  .next (
    if s.answersSetup then
      match value.toNat with
      | 0 => answerLink .accepted (leaveLink .attached s)
      | 1 => answerLink .accepted (setLink .configured s)
      | _ => answerLink .stall s
    else s)

/-- SETUP_REQUEST: answered from the fixed descriptor set; no state of another block changes (R1, log 12). -/
def execSetupRequest (_request : SetupRequest) (s : State) : Outcome :=
  .next (if s.answersSetup then answerLink .accepted s else s)

/-- BUS_IDLE_SUSPEND (R1, R18, R71). -/
def execBusIdleSuspend (s : State) : Outcome :=
  .next (
    match s.lif.link with
    | .attached => suspendLink false s
    | .configured => suspendLink true s
    | .detached | .suspended _ => s)

/-- RESUME_SIGNALLING (R1, R18). -/
def execResumeSignalling (s : State) : Outcome :=
  .next (
    match s.lif.link with
    | .suspended true => setLink .configured s
    | .suspended false => setLink .attached s
    | .detached | .attached | .configured => s)

/-- DISCONNECTION (R1, R2). -/
def execDisconnection (s : State) : Outcome := .next (leaveLink .detached s)

/-! ## Control pipes -/

/-- CONTROL_OUT_PACKET (R3, R5). -/
def execControlOutPacket (bytes : List Byte) (s : State) : Outcome :=
  .next (
    if s.lif.link = .configured then
      if s.phase = .resetting ∨ 4 ≤ s.msu.commands.length then answerLink .notReady s
      else answerLink .accepted (s.withMsu { s.msu with commands := s.msu.commands ++ [bytes] })
    else s)

/-- A record placed in the transmit buffer and sent (R9). -/
def transmit (r : Record) (s : State) : State :=
  s.withLif { s.lif with transmit := some r, answer := .record r }

/-- CONTROL_IN_REQUEST (R3, R9). -/
def execControlInRequest (s : State) : Outcome :=
  .next (
    if s.lif.link = .configured then
      match s.lif.transmit, s.msu.replies, s.msu.notices with
      | some r, _, _ => answerLink (.record r) s
      | none, r :: rest, _ => transmit (.reply r) (s.withMsu { s.msu with replies := rest })
      | none, [], n :: rest => transmit (.notice n) (s.withMsu { s.msu with notices := rest })
      | none, [], [] => answerLink .notReady s
    else s)

/-- CONTROL_IN_ACKNOWLEDGE (R9). -/
def execControlInAcknowledge (s : State) : Outcome :=
  .next (if s.lif.link = .configured then s.withLif { s.lif with transmit := none } else s)

/-! ## The MSU's commands -/

/-- What the MSU makes of IDENTIFY (R13). -/
def handleIdentify (s : State) : Handled :=
  accept s (some (.identity 4820 1 s.msu.cause s.cku.counter s.msu.mask s.msu.lampA s.msu.lampB
    s.msu.notices.length s.msu.gap))

/-- IDENTIFY (R13). -/
def execIdentify (tag : Byte) (s : State) : Outcome := takeRow 0x01 tag handleIdentify s

/-- What the MSU makes of NOTICE_MASK (R12, R202). -/
def handleNoticeMask (mask : Half) (s : State) : Handled :=
  if 8192 ≤ mask.toNat then refuse s .outOfRange
  else
    let applied := mask &&& 0xFFFE
    ⟨s.withMsu { s.msu with mask := applied }, adjustedIf (mask.getLsbD 0), some (.mask applied)⟩

/-- NOTICE_MASK (R12). -/
def execNoticeMask (tag : Byte) (mask : Half) (s : State) : Outcome := takeRow 0x03 tag (handleNoticeMask mask) s

/-- What the MSU makes of LAMP_SET (R20). -/
def handleLampSet (lampA lampB : Byte) (s : State) : Handled :=
  match lampOf lampA, lampOf lampB with
  | some a, some b => accept (s.withMsu { s.msu with lampA := a, lampB := b }) none
  | _, _ => refuse s .outOfRange

/-- LAMP_SET (R20). -/
def execLampSet (tag lampA lampB : Byte) (s : State) : Outcome := takeRow 0x04 tag (handleLampSet lampA lampB) s

end Sys2Proof.Machine
end

