-- ==== Sys2Proof/Machine/Mixer.lean ====
section
/-! DEFINITION. The meanings of the studio frame, the end of a ramp, the meter period and the meter commands (06). -/

namespace Sys2Proof.Machine

/-! ## The meter period -/

/-- The slots at the end of a meter period; the frame count returns to 0 (R123). -/
def Rme.periodEnd (m : Rme) : Rme := { m with slots := m.slots.map (MeterSlot.periodEnd m.holdTime), frameCount := 0 }

/-- The METER_REPORT of a period end, when a slot is assigned and subscribed (R124). -/
def Rme.reportNotices (m : Rme) (counter : Stamp) : List NoticeBody :=
  match reportEntries m.slots with
  | [] => []
  | entries => [.meterReport (lowStamp counter) entries]

/-- The addresses that get a METER frame, in ascending order (R125). -/
def State.meterAddresses (s : State) : List Nat :=
  (s.mtb.entries.filter (fun e =>
    (e.state == .online || e.state == .suspect) && displaysAt s.rme.slots e.address)).map (fun e => e.address)

/-- The METER frames of a period end handed to the Surface Output (R125, R172). -/
def handMeterFrames (s : State) : State :=
  s.meterAddresses.foldl
    (fun t a => handFrame .meter (newFrame .meter (meterFrame s.rme.slots a) 0 false none) t) s

/-- METER_PERIOD_END: the meter period in progress ends (R123 to R125). A period that has just ended at a studio frame
does not end a second time (log 4). -/
def execMeterPeriodEnd (s : State) : Outcome :=
  .next (
    if s.rme.frameCount = 0 then s
    else
      let m := s.rme.periodEnd
      schedule (handMeterFrames (notifyAll (m.reportNotices s.cku.counter) (s.withRme m))))

/-! ## The studio frame -/

/-- The engine after stages 5 and 6: ramps stepped, slots measured from the values of the frame, the frame counted
(R111, R118, R121, R123). -/
def Rme.afterFrame (m : Rme) (v : FrameValues) : Rme :=
  { m.stepRamps.1 with slots := m.measureSlots v, frameCount := m.frameCount + 1 }

/-- A studio frame without its publication (R44, R57, R60, R78, R87, R113): the counter advances, sources are read, buses
and destinations evaluated, results delivered, ramps stepped, meters measured, settle counts stepped. -/
def studioFrame (s : State) : State :=
  let counter := s.cku.counter + 1
  let (playback, play, playNotices) := s.stu.playback.draw counter
  let reads := (numbered 0 s.ptu).map (fun (i, p) => p.readFrame i counter)
  let v := s.rme.evaluate ⟨play.getD [], reads.map Prod.snd⟩
  let (capture, captureNotices) := s.stu.capture.frame counter (s.rme.recFrame v)
  let written := (numbered 0 (reads.map Prod.fst)).map (fun (i, p) => p.writeFrame (s.rme.poutFrame v i))
  let ports := portsBy (fun _ p => p.settleFrame) written
  let m := s.rme.afterFrame v
  let ends := decide (1024 ≤ m.frameCount)
  let m := if ends then m.periodEnd else m
  let t := withPorts ports.1
    (((s.withCku { s.cku with counter := counter }).withStu
      { s.stu with playback := playback, capture := capture }).withRme m)
  let t := notifyMerged [] (playNotices ++ captureNotices) ports.2
    (s.rme.stepRamps.2 ++ if ends then m.reportNotices counter else []) t
  if ends then handMeterFrames t else t

/-- EVALUATE_STUDIO_FRAME (R113). -/
def execEvaluateStudioFrame (s : State) : Outcome := .next (schedule (studioFrame s))

/-- A ramp reaches its last step: the coefficient is the target, and a RELEASING route is freed (R111, R118). -/
def finishRoute (id : Nat) (s : State) : State :=
  let r := s.rme.route id
  if r.level.ramp.isNone then s
  else if r.state = .releasing then
    let (m, notices) := s.rme.freeRoute id .faded
    notifyAll notices (s.withRme m)
  else s.withRme (s.rme.putRoute id { r with level := r.level.finishRamp })

/-- RAMP_END (R111, R118). -/
def execRampEnd (record : RampRef) (s : State) : Outcome :=
  .next (
    match record with
    | .route id => finishRoute id.val s
    | .bus b => s.withRme (s.rme.putBus b.val (s.rme.bus b.val).finishRamp))

/-! ## Meter commands -/

/-- A slot's record. -/
def Rme.slot (m : Rme) (i : Nat) : MeterSlot := m.slots.getD i MeterSlot.powerOn

/-- The fields of METER_ASSIGN: none when one is out of range; else the point when assign is set, and the display
position when display is set (R126). -/
def meterFieldsOf (flags : Byte) (point : PointCode) (address position : Byte) :
    Option (Option Point × Option (Nat × Nat)) :=
  match twoFlagsOf flags with
  | some (true, true) =>
    match pointOf point, addressOf address, indexBelow 16 position with
    | some p, some a, some n => some (some p, some (a, n))
    | _, _, _ => none
  | some (true, false) => (pointOf point).map (fun p => (some p, none))
  | some (false, false) => some (none, none)
  | _ => none

/-- Another slot has the display position (R126). -/
def Rme.displayTaken (m : Rme) (i : Nat) (d : Nat × Nat) : Bool :=
  (numbered 0 m.slots).any (fun (n, x) => n != i && x.display == some d)

/-- A slot after METER_ASSIGN (R126). -/
def MeterSlot.reassigned (x : MeterSlot) (point : Option Point) (display : Option (Nat × Nat)) : MeterSlot :=
  match point with
  | none => x.unassigned
  | some p => x.assigned p display

/-- What the RME makes of METER_ASSIGN (R126). -/
def handleMeterAssign (slot flags : Byte) (point : PointCode) (address position : Byte) (s : State) : Handled :=
  match indexBelow 64 slot, meterFieldsOf flags point address position with
  | some i, some (p, d) =>
    if (d.map (s.rme.displayTaken i)).getD false then refuse s .inUse
    else
      let x := (s.rme.slot i).reassigned p d
      accept (s.withRme { s.rme with slots := s.rme.slots.set i x }) (some (.meterPoint x.point x.display))
  | _, _ => refuse s .outOfRange

/-- METER_ASSIGN (R126). -/
def execMeterAssign (tag slot flags : Byte) (point : PointCode) (address position : Byte) (s : State) : Outcome :=
  takeRow 0x30 tag (handleMeterAssign slot flags point address position) s

/-- What the RME makes of METER_SUBSCRIBE (R127). -/
def handleMeterSubscribe (set : BitVec 64) (holdTime : Byte) (s : State) : Handled :=
  accept
    (s.withRme { s.rme with
      slots := (numbered 0 s.rme.slots).map (fun (n, x) => { x with subscribed := set.getLsbD n })
      holdTime := holdTime.toNat })
    (some (.subscriptions set holdTime.toNat))

/-- METER_SUBSCRIBE (R127). -/
def execMeterSubscribe (tag : Byte) (set : BitVec 64) (holdTime : Byte) (s : State) : Outcome :=
  takeRow 0x32 tag (handleMeterSubscribe set holdTime) s

/-- A slot as METER_READ reports it (R128). -/
def MeterSlot.report (n : Nat) (x : MeterSlot) : SlotReport :=
  ⟨n, x.point, x.display, x.code, meterCode x.hold, x.clip, x.subscribed⟩

/-- A slot is among those read. -/
def inRange (first count n : Nat) : Bool := decide (first ≤ n) && decide (n < first + count)

/-- What the RME makes of METER_READ (R128). -/
def handleMeterRead (first count clear : Byte) (s : State) : Handled :=
  let f := first.toNat
  let c := count.toNat
  match flagOf clear with
  | none => refuse s .outOfRange
  | some b =>
    if 63 < f ∨ c < 1 ∨ 64 < f + c then refuse s .outOfRange
    else
      let entries := (numbered 0 s.rme.slots).filterMap (fun (n, x) =>
        if inRange f c n then some (x.report n) else none)
      let slots := (numbered 0 s.rme.slots).map (fun (n, x) => if b && inRange f c n then x.cleared else x)
      accept (s.withRme { s.rme with slots := slots }) (some (.meters entries))

/-- METER_READ (R128). -/
def execMeterRead (tag first count clear : Byte) (s : State) : Outcome :=
  takeRow 0x31 tag (handleMeterRead first count clear) s

end Sys2Proof.Machine
end

