-- ==== Sys2Proof/Machine/Modules.lean ====
section
/-! DEFINITION. The meanings of the module and event filter commands (08). -/

namespace Sys2Proof.Machine

/-- What the MTB makes of DISCOVER (R155, R162); the stack fill is that of the search at its start (log 36). -/
def handleDiscover (s : State) : Handled :=
  if s.sbc.bus = .off then refuse s .wrongState
  else if s.sbc.search.running then accept s (some (.discovery false s.sbc.search.stack.length))
  else accept (schedule (startSearch s)) (some (.discovery true 1))

/-- DISCOVER (R162). -/
def execDiscover (tag : Byte) (s : State) : Outcome := takeRow 0x40 tag handleDiscover s

/-- What the MTB makes of MODULE_LIST (R163). -/
def handleModuleList (s : State) : Handled :=
  accept s (some (.modules s.mtb.entries.length s.mtb.discarded s.mtb.entries))

/-- MODULE_LIST (R163). -/
def execModuleList (tag : Byte) (s : State) : Outcome := takeRow 0x41 tag handleModuleList s

/-- The listed addresses that hold entries, each once, in ascending order (R164). -/
def State.forgettable (s : State) (addresses : List Nat) : List Nat :=
  (s.mtb.entries.map (fun e => e.address)).filter (fun a => addresses.contains a)

/-- What the MTB makes of MODULE_FORGET (R164). -/
def handleModuleForget (addresses : List Byte) (s : State) : Handled :=
  match addressesOf addresses with
  | none => refuse s .outOfRange
  | some xs =>
    let gone := s.forgettable xs
    if queueCapacity .urgent - s.sou.urgent.length < gone.length then refuse s .queueFull
    else accept (schedule (removeModules .forgotten gone s)) (some (.forgotten gone))

/-- MODULE_FORGET (R164); a list of no length that a record can have is a wrong payload size (R7). -/
def execModuleForget (tag : Byte) (addresses : List Byte) (s : State) : Outcome :=
  takeRow 0x42 tag
    (fun s => if 1 ≤ addresses.length ∧ addresses.length ≤ 30 then handleModuleForget addresses s
      else refuse s .badLength) s

/-- The fields of a filter 0 to 15; none when one is out of range (R169). -/
def filterOf (enable origin low high kinds action : Byte) : Option Filter :=
  match flagOf enable, filterOriginOf origin, indexBelow 64 low, indexBelow 64 high, kindSetOf kinds, actionOf action with
  | some e, some o, some l, some h, some k, some a => if l ≤ h then some ⟨e, o, l, h, k, a⟩ else none
  | _, _, _, _, _, _ => none

/-- What the EVF makes of FILTER_SET (R169). -/
def handleFilterSet (number enable origin low high kinds action : Byte) (s : State) : Handled :=
  if number.toNat = 255 then
    match defaultActionOf action with
    | none => refuse s .outOfRange
    | some a => accept (s.withEvf { s.evf with default := a }) (some (.defaultAction a))
  else
    match indexBelow 16 number, filterOf enable origin low high kinds action with
    | some n, some f => accept (s.withEvf { s.evf with filters := s.evf.filters.set n f }) (some (.filter n f))
    | _, _ => refuse s .outOfRange

/-- FILTER_SET (R169). -/
def execFilterSet (tag number enable origin low high kinds action : Byte) (s : State) : Outcome :=
  takeRow 0x43 tag (handleFilterSet number enable origin low high kinds action) s

/-- What the EVF makes of FILTER_LIST (R170). -/
def handleFilterList (s : State) : Handled := accept s (some (.filters s.evf.default s.evf.filters))

/-- FILTER_LIST (R170). -/
def execFilterList (tag : Byte) (s : State) : Outcome := takeRow 0x44 tag handleFilterList s

end Sys2Proof.Machine
end

