-- ==== Sys2Proof/Machine/Output.lean ====
section
/-! DEFINITION. The meanings of the Surface Output's rows (09). -/

namespace Sys2Proof.Machine

/-- The fields of SURFACE_SEND as the frame they make; none when one is out of range (R176). -/
def hostFrameOf (tag address kind priority retries notify : Byte) (data : List Byte) : Option (QueueId × QFrame) :=
  match indexBelow 31 address, sendKindOf kind, priorityOf priority, indexBelow 4 retries, flagOf notify with
  | some a, some k, some q, some r, some n =>
    if sendDataOk k data then some (q, newFrame .host ⟨a, k, data⟩ r n (some tag)) else none
  | _, _, _, _, _ => none

/-- What the SOU makes of SURFACE_SEND (R175, R176). -/
def handleSurfaceSend (tag address kind priority retries notify : Byte) (data : List Byte) (s : State) : Handled :=
  match hostFrameOf tag address kind priority retries notify data with
  | none => refuse s .outOfRange
  | some (q, f) =>
    if f.frame.address ≠ 0 ∧ (s.mtb.entry f.frame.address).isNone then refuse s .notFound
    else
      match s.sou.take q f with
      | .queueFull => refuse s .queueFull
      | .noRoom => refuse s .noRoom
      | .appended after dropped =>
        accept (schedule (endFrames .dropped dropped (s.withSou after)))
          (some (.queued q ((after.queue q).length - 1) f.blocks dropped.length))

/-- SURFACE_SEND (R176); data of no length that a record can have is a wrong payload size (R7). -/
def execSurfaceSend (tag address kind priority retries notify : Byte) (data : List Byte) (s : State) : Outcome :=
  takeRow 0x48 tag
    (fun s => if data.length ≤ 32 then handleSurfaceSend tag address kind priority retries notify data s
      else refuse s .badLength) s

/-- FRAME_DELAY_EXPIRY: the delay of a queue's head frame passes (R177, R178). -/
def execFrameDelayExpiry (queue : QueueId) (s : State) : Outcome :=
  .next (schedule (s.withSou (s.sou.putQueue queue (undelayHead (s.sou.queue queue)))))

/-- Whether SURFACE_ABORT names a frame: a HOST frame, with the tag unless the selector is ALL (R180). -/
def QFrame.named (all : Bool) (tag : Byte) (f : QFrame) : Bool := f.origin == .host && (all || f.tag == some tag)

/-- The frames named leave their queues as ABORTED, or are marked (R180): the state and the number removed. -/
def abortFrames (named : QFrame → Bool) (s : State) : State × Nat :=
  let (u, goneU) := withdraw named .aborted s.sou.urgent
  let (n, goneN) := withdraw named .aborted s.sou.normal
  let (m, goneM) := withdraw named .aborted s.sou.meter
  let gone := goneU ++ goneN ++ goneM
  (endFrames .aborted gone (s.withSou { s.sou with urgent := u, normal := n, meter := m }), gone.length)

/-- A frame of any queue passes a test. -/
def Sou.any (o : Sou) (test : QFrame → Bool) : Bool := (o.urgent ++ o.normal ++ o.meter).any test

/-- What the SOU makes of SURFACE_ABORT (R180). -/
def handleSurfaceAbort (selector named : Byte) (s : State) : Handled :=
  match flagOf selector with
  | none => refuse s .outOfRange
  | some all =>
    let (t, removed) := abortFrames (QFrame.named all named) s
    accept (schedule t) (some (.aborted removed (s.sou.any (fun f => f.named all named && f.inFlight))))

/-- SURFACE_ABORT (R180). -/
def execSurfaceAbort (tag selector named : Byte) (s : State) : Outcome :=
  takeRow 0x49 tag (handleSurfaceAbort selector named) s

/-- The frame in flight, with its queue, address and tag (R183). -/
def Sou.inFlight (o : Sou) : Option (QueueId × Nat × Option Byte) :=
  ([QueueId.urgent, .normal, .meter].filterMap (fun q =>
    ((o.queue q).find? (fun f => f.inFlight)).map (fun f => (q, f.frame.address, f.tag)))).head?

/-- What the SOU makes of SURFACE_HISTORY (R183). -/
def handleSurfaceHistory (count : Byte) (s : State) : Handled :=
  let n := count.toNat
  if n < 1 ∨ 16 < n then refuse s .outOfRange
  else
    let o := s.sou
    accept (s.withSou { o with history := o.history.drop n })
      (some (.history (o.history.take n) [o.urgent.length, o.normal.length, o.meter.length]
        [blocksOf o.urgent, blocksOf o.normal, blocksOf o.meter] o.freeBlocks o.inFlight))

/-- SURFACE_HISTORY (R183). -/
def execSurfaceHistory (tag count : Byte) (s : State) : Outcome := takeRow 0x4A tag (handleSurfaceHistory count) s

end Sys2Proof.Machine
end

