-- ==== Sys2Proof/Machine/RouteTable.lean ====
section
/-! DEFINITION. The meanings of the commands on routes and buses (05). -/

namespace Sys2Proof.Machine

/-! ## Adding and removing -/

/-- Entries that ROUTE_ADD with REPLACE would itself free at once count as free (R97). -/
def Rme.roomFor (m : Rme) (source dest : Point) (replace : Bool) : Bool :=
  m.lowestFree.isSome ||
    (replace && (m.laneRoute source dest .active).isSome &&
      ((m.laneRoute source dest .releasing).isSome || m.rampLength == 0))

/-- The lane's ACTIVE route leaves ACTIVE: a RELEASING route in the lane is cut, the route is demoted, its bindings are
orphaned (R99 steps 1 and 2, R100, R102). -/
def leaveActive (id : Nat) (s : State) : State :=
  let r := s.rme.route id
  let (m, cut) := s.rme.cutReleasing r.source r.dest
  let (m, gone) := m.demote id
  notifyAll (cut ++ gone) (orphanRoute id (s.withRme m))

/-- The lane cleared for a new route when REPLACE names an ACTIVE one (R99). -/
def clearLane (source dest : Point) (s : State) : State :=
  match s.rme.laneRoute source dest .active with
  | some id => leaveActive id s
  | none => s

/-- A new route in the lowest FREE entry (R98, R99 step 3): the state and the id. -/
def addRoute (source dest : Point) (gain : Gain) (mute invert : Bool) (s : State) : State × Nat :=
  let t := clearLane source dest s
  let id := t.rme.lowestFree.getD 0
  (t.withRme (t.rme.placeRoute id source dest gain mute invert), id)

/-- What the RME makes of ROUTE_ADD (R97 to R99). -/
def handleRouteAdd (source destination : PointCode) (gain : Half) (flags : Byte) (s : State) : Handled :=
  match sourcePointOf source, destPointOf destination, gainOf gain, routeFlagsOf flags with
  | some src, some dst, some g, some (mute, invert, replace) =>
    if badOrder src dst then refuse s .badOrder
    else if (s.rme.laneRoute src dst .active).isSome ∧ replace = false then refuse s .inUse
    else if s.rme.roomFor src dst replace = false then refuse s .noRoom
    else
      let (t, id) := addRoute src dst g.clamped mute invert s
      ⟨t, adjustedIf (g.clamped != g), some (.routeAdded id g.clamped)⟩
  | _, _, _, _ => refuse s .outOfRange

/-- ROUTE_ADD (R97). -/
def execRouteAdd (tag : Byte) (source destination : PointCode) (gain : Half) (flags : Byte) (s : State) : Outcome :=
  takeRow 0x28 tag (handleRouteAdd source destination gain flags) s

/-- What the RME makes of ROUTE_REMOVE (R100). -/
def handleRouteRemove (id : Byte) (s : State) : Handled :=
  match indexBelow 128 id with
  | none => refuse s .outOfRange
  | some n =>
    match (s.rme.route n).state with
    | .free => refuse s .notFound
    | .releasing => accept s none
    | .active => accept (leaveActive n s) none

/-- ROUTE_REMOVE (R100). -/
def execRouteRemove (tag id : Byte) (s : State) : Outcome := takeRow 0x29 tag (handleRouteRemove id) s

/-! ## Gain and mute -/

/-- What the RME makes of ROUTE_SET_GAIN (R103). -/
def handleRouteSetGain (id : Byte) (gain : Half) (s : State) : Handled :=
  match indexBelow 128 id, gainOf gain with
  | some n, some g =>
    match (s.rme.route n).state with
    | .free => refuse s .notFound
    | .releasing => refuse s .wrongState
    | .active =>
      if (s.rme.route n).level.holder.isSome then refuse s .heldBySurface
      else
        let t := setTarget (.route n) (some g.clamped) none none s
        ⟨schedule t, adjustedIf (g.clamped != g), some (.routeGain n g.clamped (t.rme.route n).level.targetCoeff)⟩
  | _, _ => refuse s .outOfRange

/-- ROUTE_SET_GAIN (R103). -/
def execRouteSetGain (tag id : Byte) (gain : Half) (s : State) : Outcome :=
  takeRow 0x2A tag (handleRouteSetGain id gain) s

/-- What the RME makes of ROUTE_SET_MUTE (R104). -/
def handleRouteSetMute (id mute : Byte) (s : State) : Handled :=
  match indexBelow 128 id, flagOf mute with
  | some n, some b =>
    match (s.rme.route n).state with
    | .free => refuse s .notFound
    | .releasing => refuse s .wrongState
    | .active => accept (schedule (setTarget (.route n) none (some b) none s)) (some (.routeMute n b))
  | _, _ => refuse s .outOfRange

/-- ROUTE_SET_MUTE (R104). -/
def execRouteSetMute (tag id mute : Byte) (s : State) : Outcome := takeRow 0x2B tag (handleRouteSetMute id mute) s

/-- The values of BUS_SET whose apply flags are set; none when one is out of range (R106, R202). -/
def busValuesOf (applyGain applyMute : Bool) (gain : Half) (mute : Byte) : Option (Option Gain × Option Bool) :=
  match (if applyGain then (gainOf gain).map some else some none), (if applyMute then (flagOf mute).map some else some none) with
  | some g, some m => some (g, m)
  | _, _ => none

/-- What the RME makes of BUS_SET (R106). -/
def handleBusSet (bus flags : Byte) (gain : Half) (mute : Byte) (s : State) : Handled :=
  match indexBelow 8 bus, twoFlagsOf flags with
  | some b, some (applyGain, applyMute) =>
    match busValuesOf applyGain applyMute gain mute with
    | none => refuse s .outOfRange
    | some (g, m) =>
      if applyGain ∧ (s.rme.bus b).holder.isSome then refuse s .heldBySurface
      else
        let t := setTarget (.bus b) (g.map Gain.clamped) m none s
        let l := t.rme.bus b
        ⟨schedule t, adjustedIf (g.map Gain.clamped != g), some (.bus b l.gain l.mute l.targetCoeff)⟩
  | _, _ => refuse s .outOfRange

/-- BUS_SET (R106). -/
def execBusSet (tag bus flags : Byte) (gain : Half) (mute : Byte) (s : State) : Outcome :=
  takeRow 0x2D tag (handleBusSet bus flags gain mute) s

/-- What the RME makes of RAMP_SET (R107). -/
def handleRampSet (length : Half) (s : State) : Handled :=
  match rampLengthOf length with
  | none => refuse s .outOfRange
  | some n => accept (s.withRme { s.rme with rampLength := n }) (some (.rampLength n))

/-- RAMP_SET (R107). -/
def execRampSet (tag : Byte) (length : Half) (s : State) : Outcome := takeRow 0x2E tag (handleRampSet length) s

/-! ## Reading the table -/

/-- A record as reported (R108), `absent` being the ramp target that it reports while its ramp is absent. -/
def GainRec.report (absent : Nat) (r : GainRec) : LevelReport :=
  match r.ramp with
  | some m => ⟨r.gain, r.mute, r.coeff, m.target, m.length - m.step, r.holder⟩
  | none => ⟨r.gain, r.mute, r.coeff, absent, 0, r.holder⟩

/-- An entry as reported (R108). DESIGN CHOICE: the rule does not give the ramp target of an entry whose ramp is absent, and the
model leaves it free (log 46). -/
def Route.report (id : Nat) (r : Route) : RouteReport :=
  ⟨id, r.state, r.source, r.dest, r.invert, r.level.report (Config.absentTarget id r.level.coeff)⟩

/-- A bus record as reported: ramp target and steps remaining are 0 when the ramp is absent (R108, log 46). -/
def busReport (r : GainRec) : LevelReport := r.report 0

/-- The non-FREE entries from an id on, in ascending order (R108). -/
def Rme.listed (m : Rme) (start : Nat) : List RouteReport :=
  (numbered 0 m.routes).filterMap (fun (id, r) =>
    if decide (start ≤ id) && r.state != .free then some (r.report id) else none)

/-- The id at which the next page starts: beyond the last id listed and not beyond the next non-FREE one, 128 when there
is none (R108, log 35). -/
def nextPage (listed : List RouteReport) : Nat :=
  match listed[15]?, listed[16]? with
  | some last, some next => last.id + 1 + Config.nextPage last.id next.id % (next.id - last.id)
  | _, _ => 128

/-- What the RME makes of ROUTE_LIST (R108). -/
def handleRouteList (start : Byte) (s : State) : Handled :=
  match indexBelow 128 start with
  | none => refuse s .outOfRange
  | some n =>
    let all := s.rme.listed n
    accept s (some (.routes s.rme.rampLength (s.rme.buses.map busReport) (min 16 all.length) (nextPage all)
      (all.take 16)))

/-- ROUTE_LIST (R108). -/
def execRouteList (tag start : Byte) (s : State) : Outcome := takeRow 0x2C tag (handleRouteList start) s

end Sys2Proof.Machine
end

