-- ==== Sys2Proof/Machine/Stream.lean ====
section
/-! DEFINITION. The meanings of the Stream Unit's rows (03). -/

namespace Sys2Proof.Machine

/-- A stream's state. -/
def Stu.state (u : Stu) : StreamId → StreamState
  | .playback => u.playback.state
  | .capture => u.capture.state

/-! ## Commands -/

/-- A stream's configuration stored (R48). -/
def Stu.configured (u : Stu) (id : StreamId) (channels depth : Nat) : Stu :=
  match id with
  | .playback => { u with playback := { u.playback with configured := channels, effective := channels, depth := depth } }
  | .capture => { u with capture := { u.capture with configured := channels, effective := channels, depth := depth } }

/-- What the STU makes of STREAM_CONFIG (R48). -/
def handleStreamConfig (selector channels : Byte) (depth : Half) (s : State) : Handled :=
  match streamOf selector, depthOf depth with
  | some id, some d =>
    let n := channels.toNat
    if n < 1 ∨ 32 < n then refuse s .outOfRange
    else if s.stu.state id ≠ .idle then refuse s .wrongState
    else if s.cku.rate.maxChannels < n ∨ d < s.cku.rate.minDepth then refuse s .outOfRange
    else accept (s.withStu (s.stu.configured id n d)) (some (.streamConfig id n n d))
  | _, _ => refuse s .outOfRange

/-- STREAM_CONFIG (R48). -/
def execStreamConfig (tag selector channels : Byte) (depth : Half) (s : State) : Outcome :=
  takeRow 0x18 tag (handleStreamConfig selector channels depth) s

/-- A stream started (R49), with its STREAM_STATE notice. -/
def startStream (id : StreamId) (s : State) : State :=
  match id with
  | .playback =>
    let p := s.stu.playback.start
    notify (p.stateNotice s.stu.playback.state .started) (s.withStu { s.stu with playback := p })
  | .capture =>
    let c := s.stu.capture.start s.cku.counter s.cku.clock
    notify (c.stateNotice s.stu.capture.state .started) (s.withStu { s.stu with capture := c })

/-- What the STU makes of STREAM_START (R49). -/
def handleStreamStart (selector : Byte) (s : State) : Handled :=
  match streamOf selector with
  | none => refuse s .outOfRange
  | some id =>
    if s.stu.state id ≠ .idle ∨ s.lif.link ≠ .configured then refuse s .wrongState
    else accept (startStream id s) none

/-- STREAM_START (R49). -/
def execStreamStart (tag selector : Byte) (s : State) : Outcome := takeRow 0x19 tag (handleStreamStart selector) s

/-- A stream stopped (R50): the unit, and its STREAM_STATE notice. -/
def Stu.stopped (u : Stu) (counter : Stamp) : StreamId → Stu × NoticeBody
  | .playback =>
    let p := { u.playback.emptied with state := .idle }
    ({ u with playback := p }, p.stateNotice u.playback.state .stopped)
  | .capture =>
    let c := { u.capture.emptied counter with state := .idle }
    ({ u with capture := c }, c.stateNotice u.capture.state .stopped)

/-- What the STU makes of STREAM_STOP (R50, R23). -/
def handleStreamStop (selector : Byte) (s : State) : Handled :=
  match streamOf selector with
  | none => refuse s .outOfRange
  | some id =>
    if s.stu.state id = .idle then accept s none
    else
      let (u, notice) := s.stu.stopped s.cku.counter id
      accept (losePresence .link (s.present .link) [notice] [] (s.withStu u)) none

/-- STREAM_STOP (R50). -/
def execStreamStop (tag selector : Byte) (s : State) : Outcome := takeRow 0x1A tag (handleStreamStop selector) s

/-- What STREAM_STATUS reports of a stream (R51). -/
def Stu.status (u : Stu) : StreamId → Result
  | .playback =>
    let p := u.playback
    .stream p.state p.configured p.effective p.depth p.target p.buffer.length p.underruns p.overruns p.malformed
      p.recentres p.repeatRun p.lastResidence p.maxResidence p.arrivals.length p.unlisted 0 u.ring.length u.lastReport
  | .capture =>
    let c := u.capture
    .stream c.state c.configured c.effective c.depth (c.depth / 2) c.buffer.length c.underruns c.overruns 0 0 0 0 0 0 0
      c.headStamp u.ring.length u.lastReport

/-- What the STU makes of STREAM_STATUS (R51). -/
def handleStreamStatus (selector : Byte) (s : State) : Handled :=
  match streamOf selector with
  | none => refuse s .outOfRange
  | some id => accept s (some (s.stu.status id))

/-- STREAM_STATUS (R51). -/
def execStreamStatus (tag selector : Byte) (s : State) : Outcome := takeRow 0x1B tag (handleStreamStatus selector) s

/-! ## The stream pipes -/

/-- PLAYBACK_PACKET (R3, R54 to R56). -/
def execPlaybackPacket (bytes : List Byte) (s : State) : Outcome :=
  .next (
    if s.lif.link = .configured then
      let (p, notices) := s.stu.playback.packet s.cku.rate s.cku.counter bytes
      notifyAll notices (s.withStu { s.stu with playback := p })
    else s)

/-- CAPTURE_PACKET_REQUEST (R3, R61, R62). -/
def execCapturePacketRequest (s : State) : Outcome :=
  .next (
    if s.lif.link = .configured then
      let (c, bytes) := s.stu.capture.build s.cku.rate s.cku.clock
      answerLink (.capture bytes) (s.withStu { s.stu with capture := c })
    else s)

/-- SERVICE_INTERVAL_START (R22, R64 to R66). -/
def execServiceIntervalStart (s : State) : Outcome :=
  .next (referenceInterval (s.withStu (s.stu.interval s.cku.counter s.cku.rate)))

/-- RATE_REPORT_SEND (R3, R66). -/
def execRateReportSend (s : State) : Outcome :=
  .next (if s.lif.link = .configured then answerLink (.rateReport s.stu.lastReport) s else s)

end Sys2Proof.Machine
end

