-- ==== Sys2Proof/Machine/SurfaceBus.lean ====
section
/-! DEFINITION. The meanings of the Surface Bus Controller's rows (07). -/

namespace Sys2Proof.Machine

/-! ## Commands -/

/-- The settings of SURFACE_SETUP as clamped (R8, R149). -/
structure SurfaceSettings where
  enable : Bool
  periodCode : Nat
  lifetime : Nat
  auto : Bool
deriving DecidableEq, Repr

/-- The settings of SURFACE_SETUP; none when an on/off value is neither (R149). -/
def surfaceSettingsOf (enable period lifetime auto : Byte) : Option SurfaceSettings :=
  match flagOf enable, flagOf auto with
  | some e, some a => some ⟨e, min 3 period.toNat, clampTo 1 120 lifetime.toNat, a⟩
  | _, _ => none

/-- The settings stored (R149). -/
def storeSettings (x : SurfaceSettings) (s : State) : State :=
  s.withSbc { s.sbc with enable := x.enable, periodCode := x.periodCode, lifetime := x.lifetime, auto := x.auto }

/-- The bus goes OFF (R149, R160). -/
def busDisabled (s : State) : State :=
  setBus .off .disabled (s.withSbc { s.sbc with
    stuckTimer := false, attempt := 0, faultTimer := none, faultAttempt := false, roundList := []
    search := s.sbc.search.cut })

/-- The part is sending a frame (R144). -/
def State.sending (s : State) : Bool := s.txnPhase == some .sending

/-- The bus leaves OFF (R149): expiries move forward, a line in break starts the stuck timer, the scheduler picks.
BUS_STATE comes before the notices of the pick (DESIGN CHOICE, log 54). -/
def busEnabled (s : State) : State :=
  let s := s.withSbc { s.sbc with stuckTimer := s.sbc.lineBreak && !s.sending }
  schedule (setBus .running .enabled (refreshExpiries s))

/-- What the SBC makes of SURFACE_SETUP (R149). -/
def handleSurfaceSetup (enable period lifetime auto : Byte) (s : State) : Handled :=
  match surfaceSettingsOf enable period lifetime auto with
  | none => refuse s .outOfRange
  | some x =>
    let t := storeSettings x s
    let t :=
      if x.enable = false ∧ s.sbc.bus ≠ .off then busDisabled t
      else if x.enable = true ∧ s.sbc.bus = .off then busEnabled t
      else t
    ⟨t, adjustedIf (x.periodCode != period.toNat || x.lifetime != lifetime.toNat),
      some (.surfaceSettings x.enable x.periodCode x.lifetime x.auto)⟩

/-- SURFACE_SETUP (R149). -/
def execSurfaceSetup (tag enable period lifetime auto : Byte) (s : State) : Outcome :=
  takeRow 0x38 tag (handleSurfaceSetup enable period lifetime auto) s

/-- What SURFACE_STATUS reports (R150). -/
def Sbc.status (b : Sbc) : Result :=
  .surface b.bus b.enable b.periodCode b.lifetime b.auto b.millis b.roundCounter b.roundList.length
    (b.txn.map (fun t => (t.frame.address, t.frame.kind, t.phase))) b.attempt (b.faultTimer.getD 0)
    b.search.running b.search.stack.length b.noReplies b.corrupts b.overruns b.stucks

/-- What the SBC makes of SURFACE_STATUS (R150). -/
def handleSurfaceStatus (clear : Byte) (s : State) : Handled :=
  match flagOf clear with
  | none => refuse s .outOfRange
  | some b =>
    accept (if b then s.withSbc { s.sbc with noReplies := 0, corrupts := 0, overruns := 0, stucks := 0 } else s)
      (some s.sbc.status)

/-- SURFACE_STATUS (R150). -/
def execSurfaceStatus (tag clear : Byte) (s : State) : Outcome := takeRow 0x39 tag (handleSurfaceStatus clear) s

/-! ## Rounds and the search -/

/-- The snapshot of a round: ONLINE and SUSPECT entries, SILENT ones when the counter is a multiple of 16, in ascending
address order (R140). -/
def State.snapshot (s : State) : List Nat :=
  (s.mtb.entries.filter (fun e => e.state == .online || e.state == .suspect ||
    (e.state == .silent && s.sbc.roundCounter.toNat % 16 == 0))).map (fun e => e.address)

/-- A round starts, in its three steps (R140, R154). -/
def startRound (s : State) : State :=
  let s := removeModules .expired s.expired s
  schedule (s.withSbc { s.sbc with roundList := s.snapshot, roundCounter := s.sbc.roundCounter + 1 })

/-- The bus works: initialisation is complete and the bus is RUNNING. -/
def State.busRuns (s : State) : Bool := s.phase == .running && s.sbc.bus == .running

/-- The surface millisecond count is a multiple of the poll period (R140, R149). -/
def Sbc.atBoundary (b : Sbc) : Bool := b.millis.toNat % b.period == 0

/-- The surface millisecond count is a nonzero multiple of 250 (R155). -/
def Sbc.searchDue (b : Sbc) : Bool := b.millis.toNat != 0 && b.millis.toNat % 250 == 0

/-- POLL_BOUNDARY: a boundary stands at the multiples of the poll period alone (R140, log 41). -/
def execPollBoundary (s : State) : Outcome :=
  .next (
    if s.busRuns && s.sbc.atBoundary then
      if s.sbc.roundList = [] then startRound s
      else s.withSbc { s.sbc with overruns := saturate16 (s.sbc.overruns + 1) }
    else s)

/-- AUTO_DISCOVERY_START, at the nonzero multiples of 250 ms alone (R155, log 41). -/
def execAutoDiscoveryStart (s : State) : Outcome :=
  .next (if s.busRuns && s.sbc.searchDue && s.sbc.auto && !s.sbc.search.running then schedule (startSearch s) else s)

/-! ## Transactions -/

/-- BUS_FREE: no transaction is in flight and the line has been quiet without a break (R137, R139). -/
def execBusFree (s : State) : Outcome :=
  .next (if s.sbc.txn.isNone && !s.sbc.lineBreak then schedule (s.withSbc { s.sbc with free := true }) else s)

/-- FRAME_SENDING_END (R134, R135, R144): a reply window holds whether it opened on a line in break. With no transaction in
flight it ends a frame that a RESET cut short (R151, log 47). -/
def execFrameSendingEnd (s : State) : Outcome :=
  .next (
    match s.sbc.txn with
    | some t =>
      if t.phase = .sending then
        let s := s.withSbc { s.sbc with stuckTimer := s.sbc.stuckTimer || (s.sbc.lineBreak && s.busRuns) }
        if t.frame.unanswered then endTxn t .sent s
        else enterPhase .awaiting (s.withSbc { s.sbc with breakFound := s.sbc.lineBreak })
      else s
    | none => s.withSbc { s.sbc with cutShort := none })

/-- REPLY_START_BIT (R135); a window that opened on a line in break ends in a framing error, at REPLY_CORRUPT. -/
def execReplyStartBit (s : State) : Outcome :=
  .next (if s.txnPhase = some .awaiting ∧ s.sbc.breakFound = false then enterPhase .receiving s else s)

/-- REPLY_WINDOW_EXPIRY (R135); a window that opened on a line in break ends in CORRUPT, at REPLY_CORRUPT. -/
def execReplyWindowExpiry (s : State) : Outcome :=
  .next (if s.sbc.breakFound then s else endTxnIn [.awaiting] .noReply s)

/-- REPLY_CORRUPT: in RECEIVING, or in AWAITING when the line was found in break at the end of SENDING, whether or not
that break lasts (R135, R136, R147, log 37). -/
def execReplyCorrupt (s : State) : Outcome :=
  .next (endTxnIn (if s.sbc.breakFound then [.awaiting, .receiving] else [.receiving]) .corrupt s)

/-- REPLY_COMPLETE: the characters of the reply, checked (R136, R138). -/
def execReplyComplete (characters : List Byte) (s : State) : Outcome :=
  .next (
    match s.sbc.txn with
    | some t =>
      if t.phase = .receiving then
        match replyResult t.frame characters with
        | some r => endTxn t r s
        | none => s
      else s
    | none => s)

/-- LINE_CHARACTER: a character outside any reply window restarts the quiet time (R137). -/
def execLineCharacter (s : State) : Outcome :=
  .next (
    if s.txnPhase = some .awaiting ∨ s.txnPhase = some .receiving then s
    else s.withSbc { s.sbc with free := false })

/-! ## Stuck bus -/

/-- LINE_BREAK_START (R137, R144, R147). -/
def execLineBreakStart (s : State) : Outcome :=
  let t := s.withSbc { s.sbc with
    lineBreak := true, free := false, stuckTimer := s.sbc.stuckTimer || (s.busRuns && !s.sending) }
  .next (endTxnIn [.awaiting, .receiving] .corrupt t)

/-- LINE_BREAK_END (R144). -/
def execLineBreakEnd (s : State) : Outcome :=
  .next (s.withSbc { s.sbc with lineBreak := false, stuckTimer := false })

/-- STUCK_TIMER_EXPIRY (R144). -/
def execStuckTimerExpiry (s : State) : Outcome :=
  .next (
    if s.sbc.bus = .running ∧ s.sbc.stuckTimer then
      setBus .clearing .stuck (s.withSbc { s.sbc with
        stuckTimer := false, attempt := 1, stucks := saturate16 (s.sbc.stucks + 1) })
    else s)

/-- The fault retry timer starts afresh (R145, R146). -/
def waitRetry (s : State) : State :=
  s.withSbc { s.sbc with attempt := 0, faultTimer := some 100, faultAttempt := false }

/-- CLEARING_CHECK_END: whether the line was out of break throughout the window (R145, R146). -/
def execClearingCheckEnd (quiet : Bool) (s : State) : Outcome :=
  let free := quiet && !s.sbc.lineBreak
  .next (
    match s.sbc.bus with
    | .clearing =>
      if free then busCleared s
      else if s.sbc.attempt < 3 then s.withSbc { s.sbc with attempt := s.sbc.attempt + 1 }
      else setBus .fault .clearFailed (waitRetry s)
    | .fault =>
      if s.sbc.faultAttempt then (if free then busCleared s else waitRetry s) else s
    | .off | .running => s)

/-- FAULT_RETRY_EXPIRY (R146). -/
def execFaultRetryExpiry (s : State) : Outcome :=
  .next (
    if s.sbc.bus = .fault ∧ s.sbc.faultTimer.isSome then
      s.withSbc { s.sbc with faultTimer := none, faultAttempt := true }
    else s)

/-! ## Milliseconds -/

/-- SURFACE_MILLISECOND_TICK: the count advances (R130), and with it every millisecond timer (log 7). -/
def execSurfaceMillisecondTick (s : State) : Outcome :=
  .next (((s.withSbc { s.sbc with millis := s.sbc.millis + 1, faultTimer := s.sbc.faultTimer.map (· - 1) }).withCku
    s.cku.countDown).withPtu (s.ptu.map (fun p => { p with resetTimer := p.resetTimer.map (· - 1) })))

end Sys2Proof.Machine
end

