-- ==== Sys2Proof/Machine/Command.lean ====
section
/-! DEFINITION. TAKE_COMMAND: the oldest record of the command buffer is taken, checked, dispatched and answered (R6, R7,
11 sections 11.1 and 11.2). -/

namespace Sys2Proof.Machine

/-- The payload sizes of each kind, least and greatest; none where no command has the kind (11, section 11.2). -/
def payloadSizes (kind : Byte) : Option (Nat × Nat) :=
  match kind.toNat with
  | 0x01 | 0x02 | 0x12 | 0x40 | 0x41 | 0x44 | 0x52 => some (0, 0)
  | 0x10 | 0x19 | 0x1A | 0x1B | 0x21 | 0x22 | 0x24 | 0x29 | 0x2C | 0x39 | 0x4A | 0x51 | 0x55 | 0x56 => some (1, 1)
  | 0x03 | 0x04 | 0x23 | 0x2B | 0x2E | 0x49 => some (2, 2)
  | 0x20 | 0x2A | 0x31 | 0x54 => some (3, 3)
  | 0x18 | 0x38 => some (4, 4)
  | 0x2D => some (5, 5)
  | 0x30 => some (6, 6)
  | 0x28 | 0x43 => some (7, 7)
  | 0x50 | 0x53 => some (8, 8)
  | 0x32 => some (9, 9)
  | 0x11 => some (4, 10)
  | 0x42 => some (1, 30)
  | 0x48 => some (5, 37)
  | _ => none

/-- A checked record given to its owning block, its payload read by the layouts of 11, section 11.2. A payload of another
size than the kind allows does not come here. -/
def dispatch (kind tag : Byte) (payload : List Byte) (s : State) : Handled :=
  match kind.toNat, payload with
  | 0x01, [] => handleIdentify s
  | 0x02, [] => handleReset s
  | 0x03, [a, b] => handleNoticeMask (half a b) s
  | 0x04, [a, b] => handleLampSet a b s
  | 0x10, [a] => handleClockSetRate a s
  | 0x11, mode :: fixed :: revert :: list => handleClockSetSources mode fixed revert list s
  | 0x12, [] => handleClockStatus s
  | 0x18, [sel, n, a, b] => handleStreamConfig sel n (half a b) s
  | 0x19, [sel] => handleStreamStart sel s
  | 0x1A, [sel] => handleStreamStop sel s
  | 0x1B, [sel] => handleStreamStatus sel s
  | 0x20, [p, m, n] => handlePortConfig p m n s
  | 0x21, [p] => handlePortStart p s
  | 0x22, [p] => handlePortStop p s
  | 0x23, [p, m] => handlePortMute p m s
  | 0x24, [p] => handlePortStatus p s
  | 0x28, [sk, si, dk, di, a, b, flags] => handleRouteAdd ⟨sk, si⟩ ⟨dk, di⟩ (half a b) flags s
  | 0x29, [id] => handleRouteRemove id s
  | 0x2A, [id, a, b] => handleRouteSetGain id (half a b) s
  | 0x2B, [id, m] => handleRouteSetMute id m s
  | 0x2C, [start] => handleRouteList start s
  | 0x2D, [bus, flags, a, b, m] => handleBusSet bus flags (half a b) m s
  | 0x2E, [a, b] => handleRampSet (half a b) s
  | 0x30, [slot, flags, pk, pi, address, position] => handleMeterAssign slot flags ⟨pk, pi⟩ address position s
  | 0x31, [first, count, clear] => handleMeterRead first count clear s
  | 0x32, [a, b, c, d, e, f, g, h, hold] =>
    handleMeterSubscribe (BitVec.ofNat 64 (leNat [a, b, c, d, e, f, g, h])) hold s
  | 0x38, [enable, period, lifetime, auto] => handleSurfaceSetup enable period lifetime auto s
  | 0x39, [clear] => handleSurfaceStatus clear s
  | 0x40, [] => handleDiscover s
  | 0x41, [] => handleModuleList s
  | 0x42, addresses => handleModuleForget addresses s
  | 0x43, [n, e, o, l, h, k, a] => handleFilterSet n e o l h k a s
  | 0x44, [] => handleFilterList s
  | 0x48, address :: kind :: priority :: retries :: notify :: data =>
    handleSurfaceSend tag address kind priority retries notify data s
  | 0x49, [sel, named] => handleSurfaceAbort sel named s
  | 0x4A, [n] => handleSurfaceHistory n s
  | 0x50, [i, o, c, tk, ti, m, st, f] => handleBindSet i o c tk ti m st f s
  | 0x51, [i] => handleBindClear i s
  | 0x52, [] => handleBindList s
  | 0x53, [ch, e, kp, db, lo, hi, r, l] => handleFaderConfig ch e kp db lo hi r l s
  | 0x54, [ch, a, b] => handleFaderMove ch (half a b) s
  | 0x55, [ch] => handleFaderClear ch s
  | 0x56, [ch] => handleFaderStatus ch s
  | _, _ => refuse s .badLength

/-- A record taken: discarded, refused by its framing, or dispatched and answered (R4, R7). -/
def takeRecord (bytes : List Byte) (s : State) : State :=
  match bytes with
  | cls :: kind :: tag :: _ :: low :: high :: payload =>
    if cls ≠ 1 then s
    else
      match payloadSizes kind with
      | none => (refuse s .unknownKind).answered kind tag
      | some (least, most) =>
        if (half low high).toNat = payload.length ∧ least ≤ payload.length ∧ payload.length ≤ most then
          (dispatch kind tag payload s).answered kind tag
        else (refuse s .badLength).answered kind tag
  | _ => s

/-- TAKE_COMMAND (R6, R7). -/
def execTakeCommand (s : State) : Outcome :=
  .next (
    if s.takes then
      match s.msu.commands with
      | [] => s
      | r :: rest => takeRecord r (s.withMsu { s.msu with commands := rest })
    else s)

end Sys2Proof.Machine
end

