-- ==== Sys2Proof/Machine/Dispatch.lean ====
section
/-! DEFINITION. The dispatch: one meaning for each constructor of Instr. -/

namespace Sys2Proof.Machine

def exec (i : Instr) (s : State) : Host.Outcome State Fault Refusal :=
  match i with
  | .powerOn => Sys2Proof.Machine.execPowerOn s
  | .initialisationComplete => Sys2Proof.Machine.execInitialisationComplete s
  | .busPowerConnection => Sys2Proof.Machine.execBusPowerConnection s
  | .busReset => Sys2Proof.Machine.execBusReset s
  | .selectConfiguration value => Sys2Proof.Machine.execSelectConfiguration value s
  | .setupRequest request => Sys2Proof.Machine.execSetupRequest request s
  | .busIdleSuspend => Sys2Proof.Machine.execBusIdleSuspend s
  | .resumeSignalling => Sys2Proof.Machine.execResumeSignalling s
  | .disconnection => Sys2Proof.Machine.execDisconnection s
  | .controlOutPacket bytes => Sys2Proof.Machine.execControlOutPacket bytes s
  | .takeCommand => Sys2Proof.Machine.execTakeCommand s
  | .controlInRequest => Sys2Proof.Machine.execControlInRequest s
  | .controlInAcknowledge => Sys2Proof.Machine.execControlInAcknowledge s
  | .identify tag => Sys2Proof.Machine.execIdentify tag s
  | .reset tag => Sys2Proof.Machine.execReset tag s
  | .resetComplete => Sys2Proof.Machine.execResetComplete s
  | .noticeMask tag mask => Sys2Proof.Machine.execNoticeMask tag mask s
  | .lampSet tag lampA lampB => Sys2Proof.Machine.execLampSet tag lampA lampB s
  | .clockSetRate tag rate => Sys2Proof.Machine.execClockSetRate tag rate s
  | .clockSetSources tag mode fixed revert list => Sys2Proof.Machine.execClockSetSources tag mode fixed revert list s
  | .clockStatus tag => Sys2Proof.Machine.execClockStatus tag s
  | .checkPeriodEnd => Sys2Proof.Machine.execCheckPeriodEnd s
  | .synthesiserLock => Sys2Proof.Machine.execSynthesiserLock s
  | .synthesiserUnlock => Sys2Proof.Machine.execSynthesiserUnlock s
  | .lockTimerExpiry => Sys2Proof.Machine.execLockTimerExpiry s
  | .settleTimerExpiry => Sys2Proof.Machine.execSettleTimerExpiry s
  | .holdoverTimerExpiry => Sys2Proof.Machine.execHoldoverTimerExpiry s
  | .streamConfig tag selector channels depth => Sys2Proof.Machine.execStreamConfig tag selector channels depth s
  | .streamStart tag selector => Sys2Proof.Machine.execStreamStart tag selector s
  | .streamStop tag selector => Sys2Proof.Machine.execStreamStop tag selector s
  | .streamStatus tag selector => Sys2Proof.Machine.execStreamStatus tag selector s
  | .playbackPacket bytes => Sys2Proof.Machine.execPlaybackPacket bytes s
  | .capturePacketRequest => Sys2Proof.Machine.execCapturePacketRequest s
  | .serviceIntervalStart => Sys2Proof.Machine.execServiceIntervalStart s
  | .rateReportSend => Sys2Proof.Machine.execRateReportSend s
  | .portConfig tag port mode slots => Sys2Proof.Machine.execPortConfig tag port mode slots s
  | .portStart tag port => Sys2Proof.Machine.execPortStart tag port s
  | .portStop tag port => Sys2Proof.Machine.execPortStop tag port s
  | .portMute tag port mute => Sys2Proof.Machine.execPortMute tag port mute s
  | .portStatus tag port => Sys2Proof.Machine.execPortStatus tag port s
  | .portResetTimerExpiry port => Sys2Proof.Machine.execPortResetTimerExpiry port s
  | .portSettleCountEnd port => Sys2Proof.Machine.execPortSettleCountEnd port s
  | .portInputFrameComplete port slots => Sys2Proof.Machine.execPortInputFrameComplete port slots s
  | .portOutputFrameBegin port => Sys2Proof.Machine.execPortOutputFrameBegin port s
  | .overloadLineChange port level => Sys2Proof.Machine.execOverloadLineChange port level s
  | .routeAdd tag source destination gain flags => Sys2Proof.Machine.execRouteAdd tag source destination gain flags s
  | .routeRemove tag id => Sys2Proof.Machine.execRouteRemove tag id s
  | .routeSetGain tag id gain => Sys2Proof.Machine.execRouteSetGain tag id gain s
  | .routeSetMute tag id mute => Sys2Proof.Machine.execRouteSetMute tag id mute s
  | .routeList tag start => Sys2Proof.Machine.execRouteList tag start s
  | .busSet tag bus flags gain mute => Sys2Proof.Machine.execBusSet tag bus flags gain mute s
  | .rampSet tag length => Sys2Proof.Machine.execRampSet tag length s
  | .evaluateStudioFrame => Sys2Proof.Machine.execEvaluateStudioFrame s
  | .rampEnd record => Sys2Proof.Machine.execRampEnd record s
  | .meterPeriodEnd => Sys2Proof.Machine.execMeterPeriodEnd s
  | .meterAssign tag slot flags point address position => Sys2Proof.Machine.execMeterAssign tag slot flags point address position s
  | .meterSubscribe tag set holdTime => Sys2Proof.Machine.execMeterSubscribe tag set holdTime s
  | .meterRead tag first count clear => Sys2Proof.Machine.execMeterRead tag first count clear s
  | .surfaceSetup tag enable period lifetime auto => Sys2Proof.Machine.execSurfaceSetup tag enable period lifetime auto s
  | .surfaceStatus tag clear => Sys2Proof.Machine.execSurfaceStatus tag clear s
  | .pollBoundary => Sys2Proof.Machine.execPollBoundary s
  | .autoDiscoveryStart => Sys2Proof.Machine.execAutoDiscoveryStart s
  | .busFree => Sys2Proof.Machine.execBusFree s
  | .frameSendingEnd => Sys2Proof.Machine.execFrameSendingEnd s
  | .replyWindowExpiry => Sys2Proof.Machine.execReplyWindowExpiry s
  | .replyCorrupt => Sys2Proof.Machine.execReplyCorrupt s
  | .replyComplete characters => Sys2Proof.Machine.execReplyComplete characters s
  | .lineBreakStart => Sys2Proof.Machine.execLineBreakStart s
  | .lineBreakEnd => Sys2Proof.Machine.execLineBreakEnd s
  | .stuckTimerExpiry => Sys2Proof.Machine.execStuckTimerExpiry s
  | .clearingCheckEnd quiet => Sys2Proof.Machine.execClearingCheckEnd quiet s
  | .faultRetryExpiry => Sys2Proof.Machine.execFaultRetryExpiry s
  | .discover tag => Sys2Proof.Machine.execDiscover tag s
  | .moduleList tag => Sys2Proof.Machine.execModuleList tag s
  | .moduleForget tag addresses => Sys2Proof.Machine.execModuleForget tag addresses s
  | .filterSet tag number enable origin low high kinds action => Sys2Proof.Machine.execFilterSet tag number enable origin low high kinds action s
  | .filterList tag => Sys2Proof.Machine.execFilterList tag s
  | .surfaceSend tag address kind priority retries notify data => Sys2Proof.Machine.execSurfaceSend tag address kind priority retries notify data s
  | .frameDelayExpiry queue => Sys2Proof.Machine.execFrameDelayExpiry queue s
  | .surfaceAbort tag selector named => Sys2Proof.Machine.execSurfaceAbort tag selector named s
  | .surfaceHistory tag count => Sys2Proof.Machine.execSurfaceHistory tag count s
  | .bindSet tag index origin control targetKind targetIndex mode step feedback => Sys2Proof.Machine.execBindSet tag index origin control targetKind targetIndex mode step feedback s
  | .bindClear tag index => Sys2Proof.Machine.execBindClear tag index s
  | .bindList tag => Sys2Proof.Machine.execBindList tag s
  | .faderConfig tag channel enable kp deadband minDuty maxDuty rest limit => Sys2Proof.Machine.execFaderConfig tag channel enable kp deadband minDuty maxDuty rest limit s
  | .faderMove tag channel position => Sys2Proof.Machine.execFaderMove tag channel position s
  | .faderClear tag channel => Sys2Proof.Machine.execFaderClear tag channel s
  | .faderStatus tag channel => Sys2Proof.Machine.execFaderStatus tag channel s
  | .servoPeriod samples => Sys2Proof.Machine.execServoPeriod samples s
  | .motionTimerExpiry channel => Sys2Proof.Machine.execMotionTimerExpiry channel s
  | .supplyLow => Sys2Proof.Machine.execSupplyLow s
  | .supplyBack => Sys2Proof.Machine.execSupplyBack s
  | .sourceEdge source => Sys2Proof.Machine.execSourceEdge source s
  | .replyStartBit => Sys2Proof.Machine.execReplyStartBit s
  | .lineCharacter => Sys2Proof.Machine.execLineCharacter s
  | .surfaceMillisecondTick => Sys2Proof.Machine.execSurfaceMillisecondTick s

end Sys2Proof.Machine
end

