-- ==== Sys2Proof/Machine/Wire.lean ====
section
/-! DEFINITION. The bytes of the records that the part sends: the header of every record and the payload of every reply as R4
frames them, and the whole of those that chapter 11 lays out (replies without a result, the reply to ROUTE_ADD, the EVENT
notice, the rate report; 11, sections 11.2 and 11.3); the codes of every field that section 11.1 codes (R202); the bits of a
surface frame on its line with the line's driver (R129, R151); the bits and the clocks of a converter link (R74). -/

namespace Sys2Proof.Machine

/-- The status codes (01, section 1.5). -/
def Status.code : Status → Byte
  | .ok => 0
  | .adjusted => 1
  | .unknownKind => 2
  | .badLength => 3
  | .outOfRange => 4
  | .wrongState => 5
  | .notFound => 6
  | .inUse => 7
  | .noRoom => 8
  | .badOrder => 9
  | .heldBySurface => 10
  | .queueFull => 11

/-! ## Field codes (11, section 11.1) -/

/-- on/off and set/clear. -/
def flagCode (b : Bool) : Byte := if b then 1 else 0

/-- A gain setting as sent: tenths of a decibel, OFF as 0x8000. -/
def Gain.bytes : Gain → List Byte
  | .off => [0x00, 0x80]
  | .tenths g => leBytes 2 (BitVec.ofInt 16 g).toNat

/-- A signal point as sent: kind, then channel, bus, or port × 16 + slot. -/
def Point.bytes : Point → List Byte
  | .play c => [0, BitVec.ofNat 8 c]
  | .pin p s => [1, BitVec.ofNat 8 (p * 16 + s)]
  | .bus b => [2, BitVec.ofNat 8 b]
  | .recCh c => [3, BitVec.ofNat 8 c]
  | .pout p s => [4, BitVec.ofNat 8 (p * 16 + s)]
  | .busIn b => [5, BitVec.ofNat 8 b]

/-- Studio rate codes. -/
def Rate.code : Rate → Byte
  | .r44 => 0
  | .r48 => 1
  | .r88 => 2
  | .r96 => 3
  | .r176 => 4
  | .r192 => 5

/-- Clock source codes. -/
def clockSourceCode : ClockSource → Byte
  | .internal => 0
  | .wordclock => 1
  | .link => 2
  | .port p => 3 + BitVec.ofNat 8 p.val

/-- CLOCK_SET_SOURCES mode codes (11, section 11.2). -/
def ClockMode.code : ClockMode → Byte
  | .auto => 0
  | .fixed => 1

/-- An origin as sent: 0 for LOCAL, else the address. -/
def Origin.code : Origin → Byte
  | .bank => 0
  | .remote a => BitVec.ofNat 8 a

/-- A filter's origin as sent: 255 for ANY. -/
def filterOriginCode : Option Origin → Byte
  | none => 255
  | some o => o.code

/-- A lamp condition as sent. -/
def LampCondition.code : LampCondition → Byte
  | .off => 0
  | .clockGood => 1
  | .clockAlarm => 2
  | .anyClip => 3
  | .streamActive => 4
  | .surfaceAlarm => 5
  | .faderAlarm => 6

/-- A port mode as sent. -/
def PortMode.code : PortMode → Byte
  | .drive => 0
  | .follow => 1

/-- A filter action as sent. -/
def FilterAction.code : FilterAction → Byte
  | .notify => 0
  | .notifyLatest => 1
  | .discard => 2

/-- A rest mode as sent. -/
def RestMode.code : RestMode → Byte
  | .brake => 0
  | .coast => 1

/-- A stream selector as sent. -/
def StreamId.code : StreamId → Byte
  | .playback => 0
  | .capture => 1

/-- A surface frame kind in a field of SURFACE_SEND: WRITE 0, SET_CONTROL 1 (11, section 11.2); none for the others. DESIGN
CHOICE: the kind in a record of SURFACE_HISTORY and in SURFACE_DONE has the same codes, and not those of 11.4 (log 52). -/
def sendKindCode : FrameKind → Option Byte
  | .write => some 0
  | .setControl => some 1
  | .poll | .call | .assign | .release | .refuse | .meter => none

/-- A queue in a field of SURFACE_SEND: URGENT 0, NORMAL 1 (11, section 11.2); METER has no code. -/
def priorityCode : QueueId → Option Byte
  | .urgent => some 0
  | .normal => some 1
  | .meter => none

/-- A binding's target as sent: kind, then index (11, section 11.2). -/
def Target.bytes : Target → List Byte
  | .routeGain id => [0, BitVec.ofNat 8 id]
  | .routeMute id => [1, BitVec.ofNat 8 id]
  | .busGain b => [2, BitVec.ofNat 8 b]
  | .busMute b => [3, BitVec.ofNat 8 b]

/-- A binding's mode as sent (11, section 11.2). -/
def BindMode.code : BindMode → Byte
  | .absolute => 0
  | .relative => 1
  | .toggle => 2

/-- A module kind as sent (11, section 11.4). -/
def ModuleKind.code : ModuleKind → Byte
  | .faderStrip => 0
  | .buttonPanel => 1
  | .meterBridge => 2
  | .display => 3
  | .transport => 4
  | .generic => 5

/-! ## The coded fields of results and notices (R202)

Chapter 11 gives the codes of these fields and, but for ROUTE_ADD and EVENT, neither the order of a payload's fields nor the
size of the others (log 6). So each list below holds the bytes of the fields that have codes, in the order of the rule that
names them. Whether an optional field is present, a yes or no, and the level of a line are sent as set or clear (DEDUCED,
log 6). -/

/-- The coded fields of an optional control: whether it is present, and its origin when it is. -/
def controlCoded (c : Option Control) : List (List Byte) := [flagCode c.isSome] :: c.toList.map (fun x => [x.origin.code])

/-- The coded fields of a gain record as ROUTE_LIST reports it: gain, mute, holder (R96, R108). -/
def LevelReport.coded (l : LevelReport) : List (List Byte) :=
  [l.gain.bytes, [flagCode l.mute]] ++ controlCoded l.holder

/-- The coded fields of an optional signal point. -/
def pointCoded (p : Option Point) : List (List Byte) := p.toList.map Point.bytes

/-- The coded fields of a filter (R170). -/
def Filter.coded (f : Filter) : List (List Byte) :=
  [[flagCode f.enable], [filterOriginCode f.origin], [f.kinds.setWidth 8], [f.action.code]]

/-- The coded fields of a binding: origin, serial when present, target, mode, feedback (R185, R186). -/
def Binding.coded (b : Binding) : List (List Byte) :=
  [[b.control.origin.code], [flagCode b.serial.isSome]] ++ b.serial.toList.map serialBytes ++
    [b.target.bytes, [b.mode.code], [flagCode b.feedback]]

/-- The coded fields of a module entry: serial, module kind, touch capability (R163). -/
def Entry.coded (e : Entry) : List (List Byte) := [serialBytes e.serial, [e.kind.code], [flagCode e.touch]]

/-- The coded fields of a channel's settings (R193). -/
def FaderSettings.coded (x : FaderSettings) : List (List Byte) := [[flagCode x.enable], [x.rest.code]]

/-- The fields of a result that chapter 11 gives codes for (R202). -/
def Result.coded : Result → List (List Byte)
  | .identity _ _ _ _ m lampA lampB _ gap => [leBytes 2 m.toNat, [lampA.code], [lampB.code], [flagCode gap]]
  | .mask applied => [leBytes 2 applied.toNat]
  | .rate applied => [[applied.code]]
  | .sources priority mode fixedSource revert _ source =>
    [priority.map clockSourceCode, [mode.code], [clockSourceCode fixedSource], [flagCode revert], [clockSourceCode source]]
  | .clock r _ source _ mode fixedSource revert priority _ _ _ =>
    [[r.code], [clockSourceCode source], [mode.code], [clockSourceCode fixedSource], [flagCode revert], priority.map clockSourceCode]
  | .streamConfig id .. => [[id.code]]
  | .portConfig mode _ => [[mode.code]]
  | .portMute mute => [[flagCode mute]]
  | .port mode _ mute _ resetLine muteLine overload .. =>
    [[mode.code], [flagCode mute], [flagCode resetLine], [flagCode muteLine], [flagCode overload]]
  | .routeAdded _ gain | .routeGain _ gain _ => [gain.bytes]
  | .routeMute _ mute => [[flagCode mute]]
  | .routes _ buses _ _ entries =>
    buses.flatMap LevelReport.coded ++ entries.flatMap (fun r =>
      [r.source.bytes, r.dest.bytes, [flagCode r.invert]] ++ r.level.coded)
  | .bus _ gain mute _ => [gain.bytes, [flagCode mute]]
  | .meterPoint point _ => pointCoded point
  | .subscriptions set _ => [leBytes 8 set.toNat]
  | .meters entries => entries.flatMap (fun x => pointCoded x.point ++ [[flagCode x.clip], [flagCode x.subscribed]])
  | .surfaceSettings enable _ _ auto => [[flagCode enable], [flagCode auto]]
  | .surface _ enable _ _ auto .. => [[flagCode enable], [flagCode auto]]
  | .discovery started _ => [[flagCode started]]
  | .modules _ _ entries => entries.flatMap Entry.coded
  | .filter _ stored => stored.coded
  | .defaultAction action => [[action.code]]
  | .filters default fs => [default.code] :: fs.flatMap Filter.coded
  | .queued queue .. => (priorityCode queue).toList.map (fun b => [b])
  | .aborted _ inFlight => [[flagCode inFlight]]
  | .history records _ _ _ inFlight =>
    records.filterMap (fun r => (sendKindCode r.kind).map (fun b => [b])) ++ [flagCode inFlight.isSome] ::
      (inFlight.bind (fun x => priorityCode x.1)).toList.map (fun b => [b])
  | .binding stored => stored.coded
  | .bindings entries => entries.flatMap (fun (b, holds) => b.coded ++ [[flagCode holds]])
  | .faderSettings settings => settings.coded
  | .fader settings _ touch _ _ _ _ _ _ _ _ supplyGood => settings.coded ++ [[flagCode touch], [flagCode supplyGood]]
  | .rampLength _ | .stream .. | .forgotten _ | .faderPosition _ | .faderStanding _ => []

/-- The fields of a notice that chapter 11 gives codes for (R202). -/
def NoticeBody.coded : NoticeBody → List (List Byte)
  | .clockState _ source rate _ _ => [[clockSourceCode source], [rate.code]]
  | .sourceState source .. => [[clockSourceCode source]]
  | .streamState stream .. | .streamSlip stream .. => [[stream.code]]
  | .portState _ _ _ _ mode _ => [[mode.code]]
  | .routeReleased _ source dest _ => [source.bytes, dest.bytes]
  | .meterReport _ entries => entries.map (fun e => [flagCode e.clip])
  | .moduleState x => [serialBytes x.serial]
  | .surfaceDone r => (sendKindCode r.kind).toList.map (fun b => [b])
  | .event _ action e => [[action.code], [e.control.origin.code], [BitVec.ofNat 8 e.kind.code]]
  | .ready _ | .busState .. | .faderState .. => []

/-! ## Records -/

/-- The first four bytes of a record (01, section 1.3; 11, section 11.2). -/
structure RecordHead where
  cls : Byte
  kind : Byte
  tag : Byte
  flags : Byte
deriving DecidableEq, Repr

/-- A record: class, kind, tag, flags, length of the payload, payload (01, section 1.3; 11, section 11.2). -/
def recordBytes (h : RecordHead) (payload : List Byte) : List Byte :=
  [h.cls, h.kind, h.tag, h.flags] ++ leBytes 2 payload.length ++ payload

/-- The header of every reply: class 2, the kind and the tag of the command it answers, flags 0 (R4). -/
def Reply.head (r : Reply) : RecordHead := ⟨2, r.kind, r.tag, 0⟩

/-- The status is one whose reply carries the command's result: OK or ADJUSTED (R4). -/
def Status.carriesResult (x : Status) : Bool := x == .ok || x == .adjusted

/-- The payload of every reply, `result` being the bytes of the command's result: the status code first, the result after it
where the status is OK or ADJUSTED, and otherwise the status alone (R4). -/
def Reply.payload (r : Reply) (result : List Byte) : List Byte :=
  r.status.code :: if r.status.carriesResult then result else []

/-- Every reply as sent, `result` being the bytes of its result (R4). -/
def Reply.sentWith (r : Reply) (result : List Byte) : List Byte := recordBytes r.head (r.payload result)

/-- The bytes of a result; none where the spec gives it by name and range only (log 6). -/
def Result.bytes : Result → Option (List Byte)
  | .routeAdded id gain => some (BitVec.ofNat 8 id :: gain.bytes)
  | _ => none

/-- The bytes of what a reply carries after its status; none where the spec does not lay them out (log 6). -/
def Reply.resultBytes (r : Reply) : Option (List Byte) :=
  if r.status.carriesResult then (r.result.map Result.bytes).getD (some []) else some []

/-- A reply as sent, where all its bytes are laid out (R4, log 6). -/
def Reply.bytes (r : Reply) : Option (List Byte) := r.resultBytes.map r.sentWith

/-- The header of every notice: class 3, the notice's kind, tag 0, the gap bit in bit 0 of the flags and the other bits 0
(R4). -/
def Notice.head (n : Notice) : RecordHead := ⟨3, BitVec.ofNat 8 n.body.code, 0, if n.gap then 1 else 0⟩

/-- Every notice as sent, `content` being the bytes of its content (R4). -/
def Notice.sentWith (n : Notice) (content : List Byte) : List Byte := recordBytes n.head content

/-- The content of an EVENT notice: filter, action, origin, control, kind, value, stamp (11, Central payloads). -/
def SurfaceEvent.bytes (e : SurfaceEvent) (filter : Nat) (action : FilterAction) : List Byte :=
  [BitVec.ofNat 8 filter, action.code, e.control.origin.code, BitVec.ofNat 8 e.control.number, BitVec.ofNat 8 e.kind.code] ++
    leBytes 2 (BitVec.ofInt 16 e.value).toNat ++ leBytes 4 e.stamp.toNat

/-- The bytes of a notice's content; none for a kind that the spec gives by name and range only (log 6). -/
def NoticeBody.bytes : NoticeBody → Option (List Byte)
  | .event filter action e => some (e.bytes filter action)
  | _ => none

/-- A notice as sent, where all its bytes are laid out (R4, log 6). -/
def Notice.bytes (n : Notice) : Option (List Byte) := n.body.bytes.map n.sentWith

/-- The header of every record that the control-in pipe sends (R4). -/
def Record.head : Record → RecordHead
  | .reply r => r.head
  | .notice n => n.head

/-- A record as sent, where all its bytes are laid out (R4, log 6). -/
def Record.bytes : Record → Option (List Byte)
  | .reply r => r.bytes
  | .notice n => n.bytes

/-- A rate report as sent, least significant byte first (11, section 11.3). -/
def rateReportBytes (report : Nat) : List Byte := leBytes 4 report

/-! ## The surface line (R129) -/

/-- The ten bits of a character as line levels, true for the active level: the start bit active, eight data bits least
significant first, the stop bit idle. The levels of the data bits are free (log 40). -/
def characterLevels (b : Byte) : List Bool :=
  true :: (List.range 8).map (fun k => Config.dataLevel (b.getLsbD k)) ++ [false]

/-- The levels of a frame, its characters back to back. -/
def BusFrame.levels (f : BusFrame) : List Bool := f.characters.flatMap characterLevels

/-- A clearing attempt runs (R144 to R146). -/
def Sbc.clears (b : Sbc) : Bool := b.bus == .clearing || (b.bus == .fault && b.faultAttempt)

/-- The level at which the part drives the line, none while it has released it, in the microsecond `micros` after the frame
being sent, or the clearing attempt, began: a frame's bits at 1 Mbit/s, sixteen idle characters of a clearing attempt, and
nothing at any other time (R129, R145). A frame that a RESET cut short in the microsecond `cut` after it began is driven up to
the next character boundary, ten bits being a character (R151, log 47). -/
def Sbc.lineDriver (b : Sbc) (cut micros : Nat) : Option Bool :=
  match b.sendingFrame with
  | some f => f.levels[micros]?
  | none =>
    if b.clears then (if micros < 160 then some false else none)
    else b.cutShort.bind (fun f => (f.levels.take (10 * (cut / 10 + 1)))[micros]?)

/-! ## The converter links (R74) -/

/-- The bits of a slot in the order in which they are sent, most significant first. -/
def slotBits (w : Slot) : List Bool := (List.range 32).map w.getMsbD

/-- The bits of a link frame: its slots in ascending order without gaps. -/
def linkBits (slots : List Slot) : List Bool := slots.flatMap slotBits

/-- The slot whose bits a line carried, the first being the most significant. -/
def slotOfBits (bits : List Bool) : Slot := (BitVec.ofBoolListBE bits).setWidth 32

/-- The first `n` slots of a line's bits, counted from the bit that the frame clock marks. -/
def slotsOfLine : Nat → List Bool → List Slot
  | 0, _ => []
  | n + 1, bits => slotOfBits (bits.take 32) :: slotsOfLine n (bits.drop 32)

/-- The number of bits of a port's link frame. -/
def Port.frameBits (p : Port) : Nat := 32 * p.slots

/-- The rate of a port's bit clock in hertz at a rate of link frames. -/
def Port.bitClock (p : Port) (frameRate : Nat) : Nat := p.frameBits * frameRate

/-- The frame clock marks a bit of the stream of link frames, counted from the start of a frame: the first bit of slot 0
(log 48). -/
def Port.frameMark (p : Port) (bit : Nat) : Bool := bit % p.frameBits == 0

/-- The frame clock as the part drives it at a bit of its link, none while it does not drive the link's clocks (R75). -/
def Port.frameClock (p : Port) (bit : Nat) : Option Bool := if p.drivesClocks then some (p.frameMark bit) else none

/-- The rate of the bit clock that the part drives, at the nominal studio rate, none while it does not drive the link's clocks
(R75). -/
def Port.drivenBitClock (p : Port) (rate : Rate) : Option Nat := if p.drivesClocks then some (p.bitClock rate.hertz) else none

/-- The bit on a port's output line, by the bits since its link frame began; none while nothing is sent (R75), and after the
frame. -/
def Port.lineBit (p : Port) (bit : Nat) : Option Bool := p.line.bind (fun slots => (linkBits slots)[bit]?)

end Sys2Proof.Machine
end

