-- ==== Sys2Proof/WellFormed.lean ====
section
/-! DEFINITION. Which terms of `Instr` stand for a step the outside can send. Codes out of range are well formed
(the part refuses them by a status); sizes that no packet, frame or sample can have are not. -/

namespace Sys2Proof

/-- A bulk packet holds at most 512 bytes (R3). -/
def packetFits (bytes : List Byte) : Bool := decide (bytes.length ≤ 512)

/-- A port frame has 2, 4, 8 or 16 slots (R74). -/
def slotCountOk (n : Nat) : Bool := n == 2 || n == 4 || n == 8 || n == 16

/-- A complete reply has a length byte of at most 32 and length + 4 characters (R136). -/
def replyWhole (characters : List Byte) : Bool :=
  match characters with
  | _ :: _ :: n :: _ => decide (n.toNat ≤ 32) && characters.length == n.toNat + 4
  | _ => false

/-- A servo period brings eight samples, each position 0 to 1023 (R194, 10 section 10.5). -/
def samplesOk (samples : List FaderSample) : Bool :=
  samples.length == 8 && samples.all (fun x => decide (x.position ≤ 1023))

/-- INTERNAL has no edges to count (R22). -/
def edgeSourceOk (source : ClockSource) : Bool := decide (source ≠ .internal)

/-- The check of a term: only rows with a list or a restricted operand can be ill formed. -/
def Instr.wellFormed : Instr → Bool
  | .controlOutPacket bytes => packetFits bytes
  | .clockSetSources _ _ _ _ list => decide (1 ≤ list.length) && decide (list.length ≤ 7)
  | .portInputFrameComplete _ slots => slotCountOk slots.length
  | .replyComplete characters => replyWhole characters
  | .moduleForget _ addresses => decide (1 ≤ addresses.length) && decide (addresses.length ≤ 30)
  | .surfaceSend _ _ _ _ _ _ data => decide (data.length ≤ 32)
  | .servoPeriod samples => samplesOk samples
  | .sourceEdge source => edgeSourceOk source
  | .powerOn .. | .initialisationComplete .. | .busPowerConnection .. | .busReset .. | .selectConfiguration ..
  | .setupRequest .. | .busIdleSuspend .. | .resumeSignalling .. | .disconnection .. | .takeCommand ..
  | .controlInRequest .. | .controlInAcknowledge .. | .identify .. | .reset .. | .resetComplete .. | .noticeMask ..
  | .lampSet .. | .clockSetRate .. | .clockStatus .. | .checkPeriodEnd .. | .synthesiserLock ..
  | .synthesiserUnlock .. | .lockTimerExpiry .. | .settleTimerExpiry .. | .holdoverTimerExpiry ..
  | .streamConfig .. | .streamStart .. | .streamStop .. | .streamStatus .. | .playbackPacket ..
  | .capturePacketRequest .. | .serviceIntervalStart .. | .rateReportSend .. | .portConfig .. | .portStart ..
  | .portStop .. | .portMute .. | .portStatus .. | .portResetTimerExpiry .. | .portSettleCountEnd ..
  | .portOutputFrameBegin .. | .overloadLineChange .. | .routeAdd .. | .routeRemove .. | .routeSetGain ..
  | .routeSetMute .. | .routeList .. | .busSet .. | .rampSet .. | .evaluateStudioFrame .. | .rampEnd ..
  | .meterPeriodEnd .. | .meterAssign .. | .meterSubscribe .. | .meterRead .. | .surfaceSetup ..
  | .surfaceStatus .. | .pollBoundary .. | .autoDiscoveryStart .. | .busFree .. | .frameSendingEnd ..
  | .replyWindowExpiry .. | .replyCorrupt .. | .lineBreakStart .. | .lineBreakEnd .. | .stuckTimerExpiry ..
  | .clearingCheckEnd .. | .faultRetryExpiry .. | .discover .. | .moduleList .. | .filterSet .. | .filterList ..
  | .frameDelayExpiry .. | .surfaceAbort .. | .surfaceHistory .. | .bindSet .. | .bindClear .. | .bindList ..
  | .faderConfig .. | .faderMove .. | .faderClear .. | .faderStatus .. | .motionTimerExpiry .. | .supplyLow ..
  | .supplyBack .. | .replyStartBit .. | .lineCharacter .. | .surfaceMillisecondTick .. => true

end Sys2Proof
end

