-- ==== Sys2Proof/Safety.lean ====
section
/-! DEFINITION. What claims are stated with: parts of the state and frames over them, and the laws that the chapters
state of each block as invariants. -/

namespace Sys2Proof.Safety

open Sys2Proof.Machine

/-! ## Frames -/

/-- The parts of the state that a frame names. `settings` are the MSU's mask, lamps and start cause; `records` its
notice queue and gap flag; `fresh` is the model's own counter. -/
inductive Part where
  | phase
  | link
  | transmit
  | answer
  | reference
  | commands
  | replies
  | records
  | settings
  | cku
  | stu
  | ptu
  | rme
  | sbc
  | mtb
  | evf
  | sou
  | bdt
  | fsv
  | fresh
  | pending
deriving DecidableEq, Repr

/-- Two states agree on a part. -/
abbrev Part.same (p : Part) (s t : State) : Prop :=
  match p with
  | .phase => t.phase = s.phase
  | .link => t.lif.link = s.lif.link
  | .transmit => t.lif.transmit = s.lif.transmit
  | .answer => t.lif.answer = s.lif.answer
  | .reference => t.lif.reference = s.lif.reference
  | .commands => t.msu.commands = s.msu.commands
  | .replies => t.msu.replies = s.msu.replies
  | .records => t.msu.notices = s.msu.notices ∧ t.msu.gap = s.msu.gap
  | .settings => t.msu.mask = s.msu.mask ∧ t.msu.lampA = s.msu.lampA ∧ t.msu.lampB = s.msu.lampB ∧
      t.msu.cause = s.msu.cause
  | .cku => t.cku = s.cku
  | .stu => t.stu = s.stu
  | .ptu => t.ptu = s.ptu
  | .rme => t.rme = s.rme
  | .sbc => t.sbc = s.sbc
  | .mtb => t.mtb = s.mtb
  | .evf => t.evf = s.evf
  | .sou => t.sou = s.sou
  | .bdt => t.bdt = s.bdt
  | .fsv => t.fsv = s.fsv
  | .fresh => t.fresh = s.fresh
  | .pending => t.pending = s.pending

/-- Every part but those listed is as it was. -/
abbrev KeepsBut (changed : List Part) (s t : State) : Prop := ∀ p : Part, p ∉ changed → p.same s t

/-- A reply has joined the reply queue (R6). -/
abbrev Answered (kind tag : Byte) (status : Status) (result : Option Result) (s t : State) : Prop :=
  t.msu.replies = s.msu.replies ++ [⟨kind, tag, status, result⟩]

/-! ## The commands -/

/-- The kind and the tag of a command row; none for an event row. -/
def commandOf : Instr → Option (Byte × Byte)
  | .identify tag => some (0x01, tag)
  | .reset tag => some (0x02, tag)
  | .noticeMask tag .. => some (0x03, tag)
  | .lampSet tag .. => some (0x04, tag)
  | .clockSetRate tag .. => some (0x10, tag)
  | .clockSetSources tag .. => some (0x11, tag)
  | .clockStatus tag => some (0x12, tag)
  | .streamConfig tag .. => some (0x18, tag)
  | .streamStart tag .. => some (0x19, tag)
  | .streamStop tag .. => some (0x1A, tag)
  | .streamStatus tag .. => some (0x1B, tag)
  | .portConfig tag .. => some (0x20, tag)
  | .portStart tag .. => some (0x21, tag)
  | .portStop tag .. => some (0x22, tag)
  | .portMute tag .. => some (0x23, tag)
  | .portStatus tag .. => some (0x24, tag)
  | .routeAdd tag .. => some (0x28, tag)
  | .routeRemove tag .. => some (0x29, tag)
  | .routeSetGain tag .. => some (0x2A, tag)
  | .routeSetMute tag .. => some (0x2B, tag)
  | .routeList tag .. => some (0x2C, tag)
  | .busSet tag .. => some (0x2D, tag)
  | .rampSet tag .. => some (0x2E, tag)
  | .meterAssign tag .. => some (0x30, tag)
  | .meterRead tag .. => some (0x31, tag)
  | .meterSubscribe tag .. => some (0x32, tag)
  | .surfaceSetup tag .. => some (0x38, tag)
  | .surfaceStatus tag .. => some (0x39, tag)
  | .discover tag => some (0x40, tag)
  | .moduleList tag => some (0x41, tag)
  | .moduleForget tag .. => some (0x42, tag)
  | .filterSet tag .. => some (0x43, tag)
  | .filterList tag => some (0x44, tag)
  | .surfaceSend tag .. => some (0x48, tag)
  | .surfaceAbort tag .. => some (0x49, tag)
  | .surfaceHistory tag .. => some (0x4A, tag)
  | .bindSet tag .. => some (0x50, tag)
  | .bindClear tag .. => some (0x51, tag)
  | .bindList tag => some (0x52, tag)
  | .faderConfig tag .. => some (0x53, tag)
  | .faderMove tag .. => some (0x54, tag)
  | .faderClear tag .. => some (0x55, tag)
  | .faderStatus tag .. => some (0x56, tag)
  | _ => none

/-- The two bytes of a field, least significant first. -/
def halfBytes (h : Half) : List Byte := [h.extractLsb' 0 8, h.extractLsb' 8 8]

/-- A signal point's two bytes (11, section 11.1). -/
def pointBytes (c : PointCode) : List Byte := [c.kind, c.index]

/-- The payload of a command row by the layouts of 11, section 11.2; none for an event row. -/
def payloadOf : Instr → Option (List Byte)
  | .identify _ | .reset _ | .clockStatus _ | .discover _ | .moduleList _ | .filterList _ | .bindList _ => some []
  | .noticeMask _ mask => some (halfBytes mask)
  | .lampSet _ a b => some [a, b]
  | .clockSetRate _ rate => some [rate]
  | .clockSetSources _ mode fixed revert list => some (mode :: fixed :: revert :: list)
  | .streamConfig _ selector channels depth => some (selector :: channels :: halfBytes depth)
  | .streamStart _ selector | .streamStop _ selector | .streamStatus _ selector => some [selector]
  | .portConfig _ port mode slots => some [port, mode, slots]
  | .portStart _ port | .portStop _ port | .portStatus _ port => some [port]
  | .portMute _ port mute => some [port, mute]
  | .routeAdd _ source destination gain flags =>
    some (pointBytes source ++ pointBytes destination ++ halfBytes gain ++ [flags])
  | .routeRemove _ id => some [id]
  | .routeSetGain _ id gain => some (id :: halfBytes gain)
  | .routeSetMute _ id mute => some [id, mute]
  | .routeList _ start => some [start]
  | .busSet _ bus flags gain mute => some (bus :: flags :: halfBytes gain ++ [mute])
  | .rampSet _ length => some (halfBytes length)
  | .meterAssign _ slot flags point address position => some (slot :: flags :: pointBytes point ++ [address, position])
  | .meterRead _ first count clear => some [first, count, clear]
  | .meterSubscribe _ set holdTime => some (leBytes 8 set.toNat ++ [holdTime])
  | .surfaceSetup _ enable period lifetime auto => some [enable, period, lifetime, auto]
  | .surfaceStatus _ clear => some [clear]
  | .moduleForget _ addresses => some addresses
  | .filterSet _ number enable origin low high kinds action => some [number, enable, origin, low, high, kinds, action]
  | .surfaceSend _ address kind priority retries notify data =>
    some (address :: kind :: priority :: retries :: notify :: data)
  | .surfaceAbort _ selector named => some [selector, named]
  | .surfaceHistory _ count => some [count]
  | .bindSet _ index origin control targetKind targetIndex mode step feedback =>
    some [index, origin, control, targetKind, targetIndex, mode, step, feedback]
  | .bindClear _ index => some [index]
  | .faderConfig _ channel enable kp deadband minDuty maxDuty rest limit =>
    some [channel, enable, kp, deadband, minDuty, maxDuty, rest, limit]
  | .faderMove _ channel position => some (channel :: halfBytes position)
  | .faderClear _ channel | .faderStatus _ channel => some [channel]
  | _ => none

/-- The record that carries a command row on control-out: class 1, kind, tag, any flags, length, payload (01, section
1.3). -/
def recordOf (flags : Byte) (c : Instr) : Option (List Byte) :=
  match commandOf c, payloadOf c with
  | some (kind, tag), some payload =>
    some ([1, kind, tag, flags] ++ halfBytes (BitVec.ofNat 16 payload.length) ++ payload)
  | _, _ => none

/-! ## Records (01) -/

/-- The buffers of the MSU are within their sizes, and no two queued notices match (R5, R6, R10, R11). -/
abbrev RecordsSound (m : Msu) : Prop :=
  m.commands.length ≤ 4 ∧ m.replies.length ≤ 4 ∧ m.notices.length ≤ 64 ∧
  m.notices.Pairwise (fun earlier later => later.body.coalesces earlier.body = false) ∧ m.mask.getLsbD 0 = false

/-! ## Studio clock (02) -/

/-- A source record within its ranges, with its state where its quality count can stand (R25, R26). -/
abbrev SourceSound (r : SourceRec) : Prop :=
  r.quality ≤ 255 ∧ r.revert ≤ 500 ∧ r.lastEdges ≤ 255 ∧ r.edges ≤ 255 ∧ (0 < r.revert → r.standing = .good) ∧
  (r.standing = .good → r.quality < 96) ∧ (r.standing = .degraded → 64 ≤ r.quality ∧ r.quality < 128) ∧
  (r.standing = .unusable → 64 ≤ r.quality) ∧ (r.standing = .absent → r.quality = 255)

/-- The timers that run are those of the clock state (R28, R38). -/
abbrev TimersSound (c : Cku) : Prop :=
  (c.lockTimer.isSome = true ↔ c.clock = .switching ∧ c.source ≠ .internal) ∧
  (c.settleTimer.isSome = true ↔ c.clock = .switching ∧ c.source = .internal) ∧
  (c.holdoverTimer.isSome = true ↔ c.clock = .holdover) ∧
  c.lockTimer.getD 0 ≤ 50 ∧ c.settleTimer.getD 0 ≤ 2 ∧ c.holdoverTimer.getD 0 ≤ 10000

/-- The clock source suits the clock state and the mode (section 2.1, R29, R34, R37, R38). -/
abbrev ClockSourceSound (c : Cku) : Prop :=
  (c.clock = .free → c.source = .internal) ∧
  (c.clock = .locked → c.source ≠ .internal ∧ c.usable c.source = true) ∧
  (c.clock = .switching → c.usable c.source = true) ∧
  (c.clock = .holdover →
    c.mode = .fixed ∧ c.source = c.fixedSource ∧ c.source ≠ .internal ∧ c.usable c.source = false) ∧
  (c.mode = .auto → c.fallback = .none ∧ c.source ∈ c.priority) ∧
  (c.mode = .fixed →
    (c.source = c.fixedSource ∧ c.fallback = .none) ∨
    (c.source = .internal ∧ c.fixedSource ≠ .internal ∧ c.fallback ≠ .none ∧ c.usable c.fixedSource = false))

/-- The Clock Unit at rest between events. -/
abbrev ClockSound (c : Cku) : Prop :=
  c.sources.length = 7 ∧ c.record .internal = SourceRec.internalRec ∧
  (∀ x ∈ externalSources, SourceSound (c.record x)) ∧
  c.priority.Nodup ∧ ClockSource.internal ∈ c.priority ∧ TimersSound c ∧ ClockSourceSound c

/-- A source that is not present is ABSENT, and streams run only while the link is CONFIGURED (R22, R23, R70, R71). -/
abbrev PresenceSound (s : State) : Prop :=
  s.ptu.length = 4 ∧ s.cku.sources.length = 7 ∧
  (s.lif.link ≠ .configured → s.stu.playback.state = .idle ∧ s.stu.capture.state = .idle) ∧
  (∀ x ∈ externalSources, s.present x = false → (s.cku.record x).standing = .absent)

/-! ## Host streams (03) -/

/-- The playback stream's buffer, arrival list and configuration (R54 to R56, R68). -/
abbrev PlaybackSound (rate : Rate) (p : Playback) : Prop :=
  p.buffer.length ≤ p.depth ∧
  p.unlisted + (p.arrivals.map (fun a => a.count)).sum = p.buffer.length ∧
  p.arrivals.length ≤ 64 ∧ (∀ a ∈ p.arrivals, 1 ≤ a.count) ∧
  p.depth ∈ [16, 32, 64, 128, 256] ∧ rate.minDepth ≤ p.depth ∧
  1 ≤ p.configured ∧ p.configured ≤ 32 ∧ p.effective = min p.configured rate.maxChannels ∧
  (p.state = .idle → p.buffer = []) ∧ (p.state = .priming → p.buffer.length < p.target ∧ p.repeatRun = 0) ∧
  (p.state = .running → p.repeatRun < 16) ∧
  (p.state ≠ .idle → p.lastFrame.length = p.effective ∧ ∀ f ∈ p.buffer, f.length = p.effective) ∧
  p.underruns ≤ 65535 ∧ p.overruns ≤ 65535 ∧ p.malformed ≤ 65535 ∧ p.recentres ≤ 65535 ∧
  p.lastResidence ≤ 4294967295 ∧ p.maxResidence ≤ 4294967295

/-- The capture stream's buffer holds the frames of consecutive studio frames, the last being the present one (R60,
R61). -/
abbrev CaptureSound (rate : Rate) (counter : Stamp) (c : Capture) : Prop :=
  c.buffer.length ≤ c.depth ∧ c.headStamp + BitVec.ofNat 48 c.buffer.length = counter + 1 ∧
  c.depth ∈ [16, 32, 64, 128, 256] ∧ rate.minDepth ≤ c.depth ∧
  1 ≤ c.configured ∧ c.configured ≤ 32 ∧ c.effective = min c.configured rate.maxChannels ∧
  c.state ≠ .priming ∧ (c.state = .idle → c.buffer = []) ∧ (∀ f ∈ c.buffer, f.length = c.effective) ∧
  c.underruns = 0 ∧ c.overruns ≤ 65535

/-- A rate report lies within its bounds for the studio rate in force (R63). -/
abbrev ReportSound (rate : Rate) (report : Nat) : Prop :=
  rate.nominal - rate.nominal / 64 ≤ report ∧ report ≤ rate.nominal + rate.nominal / 64

/-- The Stream Unit at rest between events, and the link reference: less than one edge is left over, and an interval has at most
24 edges (R22). -/
abbrev StreamsSound (s : State) : Prop :=
  PlaybackSound s.cku.rate s.stu.playback ∧ CaptureSound s.cku.rate s.cku.counter s.stu.capture ∧
  s.stu.ring.length ≤ 128 ∧ ReportSound s.cku.rate s.stu.lastReport ∧
  s.lif.reference.fraction < 8000 ∧ s.lif.reference.due ≤ 24

/-! ## Converter ports (04) -/

/-- A port's state agrees with its conditions, its timers and its retime buffers (R76 to R79, R86, R87). -/
abbrev PortSound (rate : Rate) (clock : ClockState) (own : Standing) (p : Port) : Prop :=
  p.slots ∈ [2, 4, 8, 16] ∧ (p.state ≠ .off → p.state ≠ .conflict → p.slots ≤ rate.maxSlots) ∧
  p.inBuf.length ≤ 8 ∧ p.outBuf.length ≤ 8 ∧ (p.retimes = false → p.inBuf = [] ∧ p.outBuf = []) ∧
  p.settle ≤ 256 ∧ (0 < p.settle ↔ p.state = .settling) ∧
  (p.resetTimer.isSome = true ↔ p.state = .starting ∧ p.startOk clock own = true) ∧ p.resetTimer.getD 0 ≤ 1 ∧
  (p.state = .held → p.startOk clock own = false) ∧
  (p.state = .settling ∨ p.state = .running → p.holdDue clock own = false) ∧
  p.underSlips ≤ 65535 ∧ p.overSlips ≤ 65535

/-- The Port Unit at rest between events; the route engine holds each overload line as the port hands it over (R89). -/
abbrev PortsSound (s : State) : Prop :=
  s.ptu.length = 4 ∧
  (∀ i < 4, PortSound s.cku.rate s.cku.clock (ownStanding s.cku i) (s.port i)) ∧
  s.rme.overload = s.ptu.map Port.handsOverload

/-! ## Route table and mix buses (05, 06) -/

/-- A ramp under way, and K_cur on it (R110, R111). -/
abbrev RampSound (coeff : Nat) (m : Ramp) : Prop :=
  m.length ∈ [64, 256, 1024, 4096] ∧ m.step < m.length ∧ m.start ≤ 4174456 ∧ m.target ≤ 4174456 ∧
  coeff = m.value m.step ∧ min m.start m.target ≤ coeff ∧ coeff ≤ max m.start m.target

/-- A gain setting within −1200..+120, or OFF (R109). -/
def gainInRange : Gain → Bool
  | .off => true
  | .tenths g => decide (-1200 ≤ g) && decide (g ≤ 120)

/-- A record's gain setting, coefficient and ramp are within their ranges (R109, R111). -/
abbrev LevelSound (l : GainRec) : Prop :=
  gainInRange l.gain = true ∧ l.coeff ≤ 4174456 ∧ ∀ m ∈ l.ramp, RampSound l.coeff m

/-- A route entry keeps the rules of its state: roles and bus order (R91, R94), what its coefficient heads for (R95,
R99, R100), and no holder outside ACTIVE (R102). -/
abbrev RouteSound (r : Route) : Prop :=
  (r.state = .free → r = Route.freeEntry) ∧
  (r.state ≠ .free →
    r.source.isSource = true ∧ r.dest.isSource = false ∧ badOrder r.source r.dest = false ∧ LevelSound r.level) ∧
  (r.state = .active → r.level.heading = r.level.targetCoeff) ∧
  (r.state = .releasing → r.level.heading = 0 ∧ r.level.ramp.isSome = true ∧ r.level.holder = none)

/-- Two entries in the same state, neither FREE, in the same lane (R93). -/
abbrev laneClash (r q : Route) : Prop := r.state ≠ .free ∧ q.state = r.state ∧ q.inLane r.source r.dest = true

/-- The route table and the bus records at rest between events (R93, R94, R95, R109, R111). -/
abbrev RoutesSound (m : Rme) : Prop :=
  m.routes.length = 128 ∧ m.buses.length = 8 ∧ m.rampLength ∈ [0, 64, 256, 1024, 4096] ∧
  (∀ r ∈ m.routes, RouteSound r) ∧ m.routes.Pairwise (fun r q => ¬ laneClash r q) ∧
  (∀ l ∈ m.buses, LevelSound l ∧ l.heading = l.targetCoeff)

/-! ## Modules (08) -/

/-- An entry within its ranges (08, section 8.1; R142, R157). -/
abbrev EntrySound (e : Entry) : Prop :=
  1 ≤ e.address ∧ e.address ≤ 30 ∧ e.controls ≤ 64 ∧ e.meters ≤ 16 ∧ e.quality ≤ 255 ∧
  (e.state = .joining → e.quality = 0) ∧ (e.state = .online → e.quality < 96) ∧
  (e.state = .suspect → 64 ≤ e.quality ∧ e.quality < 128) ∧ (e.state = .silent → 64 ≤ e.quality)

/-- The step in flight is the ASSIGN that names an entry. -/
def assigns (x : Search) (e : Entry) : Bool :=
  match x.step with
  | some (.assign address serial _) => address == e.address && serial == e.serial
  | _ => false

/-- The module table (R152), the round list that follows it (R141), and the one ASSIGN that a JOINING entry lives for
(R152, R158). -/
abbrev ModulesSound (s : State) : Prop :=
  s.mtb.entries.length ≤ 16 ∧ (s.mtb.entries.map (fun e => e.address)).Pairwise (· < ·) ∧
  (s.mtb.entries.map (fun e => e.serial)).Nodup ∧ (∀ e ∈ s.mtb.entries, EntrySound e) ∧ s.mtb.discarded ≤ 65535 ∧
  s.sbc.roundList.Pairwise (· < ·) ∧ (∀ a ∈ s.sbc.roundList, (s.mtb.entry a).isSome = true) ∧
  (∀ e ∈ s.mtb.entries, e.state = .joining → assigns s.sbc.search e = true)

/-- The prefix of the CALL in flight. -/
def calledPrefix (x : Search) : Option Stem :=
  match x.step with
  | some (.call p) => some p
  | _ => none

/-- The prefix lengths of the stack, the top first. -/
def prefixLengths (x : Search) : List Nat := x.stack.map (fun p => p.length)

/-- The discovery search: its stack has at most 49 prefixes, below the top at most one of each length from 1 (R155,
R156); while a CALL is in flight none is longer than its prefix. A step in flight is the search's transaction in
flight. -/
abbrev SearchSound (b : Sbc) : Prop :=
  b.search.stack.length ≤ 49 ∧ (∀ n ∈ prefixLengths b.search, n ≤ 48) ∧
  (prefixLengths b.search).Pairwise (· ≥ ·) ∧ (prefixLengths b.search).tail.Pairwise (· > ·) ∧
  (∀ n ∈ (prefixLengths b.search).tail, 1 ≤ n) ∧
  (∀ p ∈ calledPrefix b.search, p.length ≤ 48 ∧ (prefixLengths b.search).Pairwise (· > ·) ∧
    ∀ n ∈ prefixLengths b.search, 1 ≤ n ∧ n ≤ p.length) ∧
  (b.search.running = false → b.search = Search.idle) ∧
  (b.search.step.isSome = true ↔ b.txn.map (fun t => t.owner) = some .search) ∧
  (b.search.running = true → b.search.step = none → b.search.answer = none → b.search.stack ≠ [])

/-! ## Surface output (09) -/

/-- A queued frame has the fields of its origin and queue (R172). -/
abbrev FrameSound (q : QueueId) (f : QFrame) : Prop :=
  f.retries ≤ 3 ∧ f.waits < 5 ∧ f.frame.address ≤ 30 ∧
  (f.origin = .host → q ≠ .meter ∧ f.frame.payload.length ≤ 32 ∧
    (f.frame.kind = .write ∨ f.frame.kind = .setControl) ∧ f.tag.isSome = true) ∧
  (f.origin = .feedback → q = .normal ∧ f.frame.payload.length = 3 ∧ f.frame.kind = .setControl) ∧
  (f.origin = .meter → q = .meter ∧ f.frame.payload.length = 16 ∧ f.frame.kind = .meter) ∧
  (f.origin = .removal → q = .urgent ∧ f.frame.payload = [] ∧ f.frame.kind = .release) ∧
  (f.origin ≠ .host → f.notify = false ∧ f.tag = none) ∧
  (f.inFlight = false → f.renewed = false ∧ f.mark = none)

/-- The frames of a queue behind its head are not in flight, and the head is in flight exactly while the transaction in
flight belongs to this queue (R177). -/
abbrev FlightSound (b : Sbc) (q : QueueId) (fs : List QFrame) : Prop :=
  (∀ f ∈ fs.tail, f.inFlight = false) ∧
  ((fs.head?.map (fun f => f.inFlight)).getD false = true ↔ b.txn.map (fun t => t.owner) = some (.output q))

/-- The Surface Output: capacities, pool and history, and one METER frame per address (section 9.1, R173, R181). -/
abbrev OutputSound (s : State) : Prop :=
  (∀ q ∈ [QueueId.urgent, .normal, .meter],
    (s.sou.queue q).length ≤ queueCapacity q ∧ (∀ f ∈ s.sou.queue q, FrameSound q f) ∧ FlightSound s.sbc q (s.sou.queue q)) ∧
  s.sou.used ≤ 64 ∧ (s.sou.meter.map (fun f => f.frame.address)).Nodup ∧ s.sou.history.length ≤ 16

/-- The scheduler leaves nothing that it could send: when it may pick, nothing is offered (R139). -/
abbrev NothingLeft (s : State) : Prop := s.mayPick = true → s.offer = none

/-- The frame in flight is one that its owner sends (R132, R134). -/
def ownerSends (t : Txn) : Bool :=
  match t.owner with
  | .round => t.frame.kind == .poll && decide (1 ≤ t.frame.address) && decide (t.frame.address ≤ 30)
  | .search => t.frame.address == 31 && (t.frame.kind == .call || t.frame.kind == .assign || t.frame.kind == .refuse)
  | .output _ => decide (t.frame.address ≤ 30) &&
      (t.frame.kind == .write || t.frame.kind == .setControl || t.frame.kind == .meter || t.frame.kind == .release)
  | .controller => t.frame.kind == .release && t.frame.address == 0

/-- The Surface Bus Controller's timers and counts suit the bus state (section 7.7, R144 to R146). -/
abbrev BusSound (b : Sbc) : Prop :=
  (∀ t ∈ b.txn, ownerSends t = true) ∧ (b.cutShort.isSome = true → b.txn = none) ∧ (b.bus = .off ↔ b.enable = false) ∧ (0 < b.attempt ↔ b.bus = .clearing) ∧ b.attempt ≤ 3 ∧
  (b.stuckTimer = true → b.bus = .running ∧ b.lineBreak = true) ∧
  (b.faultTimer.isSome = true → b.bus = .fault ∧ b.faultAttempt = false) ∧ (b.faultAttempt = true → b.bus = .fault) ∧
  b.faultTimer.getD 0 ≤ 100 ∧ b.periodCode ≤ 3 ∧ 1 ≤ b.lifetime ∧ b.lifetime ≤ 120 ∧
  b.noReplies ≤ 65535 ∧ b.corrupts ≤ 65535 ∧ b.overruns ≤ 65535 ∧ b.stucks ≤ 65535

/-! ## Bindings (10) -/

/-- A target's id is 0-127, its bus 0-7 (10, section 10.1). -/
def targetInRange (t : Target) : Bool :=
  match t.ref with
  | .route id => decide (id < 128)
  | .bus n => decide (n < 8)

/-- A control is 0-7 on the local bank, 0-63 on a module at 1-30 (10, section 10.1). -/
def controlInRange (c : Control) : Bool :=
  match c.origin with
  | .bank => decide (c.number ≤ 7)
  | .remote a => decide (1 ≤ a) && decide (a ≤ 30) && decide (c.number ≤ 63)

/-- A binding's own fields (section 10.1, R185, R192). -/
abbrev BindingFields (b : Binding) : Prop :=
  (b.state = .orphaned ↔ b.cause ≠ .none) ∧
  (b.state ≠ .empty → b.mode.suits b.target = true ∧ 1 ≤ b.step ∧ b.step ≤ 60 ∧ targetInRange b.target = true ∧
    controlInRange b.control = true ∧ (b.serial = none ↔ b.control.origin = .bank))

/-- What a binding names is there: the route of a binding not orphaned by it is ACTIVE, and the module of an ACTIVE
binding is in the table with the serial recorded (R185, R192). -/
abbrev BindingHas (s : State) (b : Binding) : Prop :=
  (b.state ≠ .empty → b.cause ≠ .lostRoute → s.routeMissing b.target = false) ∧
  (b.state = .active → s.moduleMissing b.control = false ∧ s.serialOf b.control = b.serial)

/-- A holder is the control of a binding, not EMPTY, on that target (R184). -/
abbrev HolderBound (s : State) (x : LevelRef) : Prop :=
  ∀ c ∈ (s.rme.level x).holder, ∃ b ∈ s.bdt, b.state ≠ .empty ∧ b.control = c ∧ b.target.ref = x

/-- The Binding Table at rest between events (R184). -/
abbrev BindingsSound (s : State) : Prop :=
  s.bdt.length = 32 ∧ s.rme.routes.length = 128 ∧ s.rme.buses.length = 8 ∧ (∀ b ∈ s.bdt, BindingFields b ∧ BindingHas s b) ∧
  s.bdt.Pairwise (fun b d => b.state ≠ .empty → d.state ≠ .empty → b.control ≠ d.control) ∧
  (∀ id < 128, HolderBound s (.route id)) ∧ (∀ n < 8, HolderBound s (.bus n))

/-! ## Faders (10) -/

/-- The settings of a channel are within their ranges (R193). -/
abbrev SettingsSound (f : Fader) : Prop :=
  1 ≤ f.kp ∧ f.kp ≤ 64 ∧ 1 ≤ f.deadband ∧ f.deadband ≤ 32 ∧ f.minDuty ≤ f.maxDuty ∧ 1 ≤ f.maxDuty ∧ f.maxDuty ≤ 255 ∧
  1 ≤ f.limit ∧ f.limit ≤ 255 ∧ 1 ≤ f.deadbandInForce ∧ f.deadbandInForce ≤ 32

/-- A channel drives its motor only while MOVING and untouched, and its state suits its enable, its fault reason and the
supply input (R193, R195, R196, R198). -/
abbrev FaderSound (supplyGood : Bool) (f : Fader) : Prop :=
  (f.duty ≠ 0 → f.state = .moving) ∧ (f.state = .moving → f.touch = false) ∧ f.duty.natAbs ≤ 255 ∧
  (f.enable = false ↔ f.state = .disabled) ∧ (f.state = .disabled → f.touch = false) ∧
  (f.fault ≠ .none → f.state = .fault ∨ f.state = .disabled) ∧ (f.state = .fault → f.fault ≠ .none) ∧
  (if supplyGood then f.state ≠ .held else f.state ≠ .idle ∧ f.state ≠ .moving ∧ f.state ≠ .stalled) ∧
  f.target ≤ 1023 ∧ f.position ≤ 1023 ∧ f.reported ≤ 1023 ∧ f.motion ≤ 800 ∧ (f.state = .moving → f.motion < 800) ∧
  f.overRun ≤ 2 ∧ f.openRun ≤ 19 ∧ SettingsSound f

/-- The Fader Servo at rest between events. -/
abbrev FadersSound (v : Fsv) : Prop := v.channels.length = 8 ∧ ∀ f ∈ v.channels, FaderSound v.supplyGood f

/-! ## All together -/

/-- Every law of the chapters at once. -/
structure Sound (s : State) : Prop where
  records : RecordsSound s.msu
  clock : ClockSound s.cku
  presence : PresenceSound s
  streams : StreamsSound s
  ports : PortsSound s
  routes : RoutesSound s.rme
  modules : ModulesSound s
  search : SearchSound s.sbc
  output : OutputSound s
  bus : BusSound s.sbc
  bindings : BindingsSound s
  faders : FadersSound s.fsv

/-- A step goes on to a state: no fault and no refusal. -/
def GoesOn (o : Host.Outcome State Fault Refusal) : Prop := ∃ t, o = .next t

/-! ## What several statements share -/

/-- A notice of this content waits in the queue. -/
def Heard (b : NoticeBody) (t : State) : Prop := ∃ n ∈ t.msu.notices, n.body = b

/-- The MSU takes `n` more notices, none masked (R10, R15). -/
def HasRoom (n : Nat) (s : State) : Prop :=
  s.phase ≠ .resetting ∧ s.msu.mask = 0 ∧ s.msu.notices.length + n ≤ 64

/-- What a clock event may change (R45). -/
abbrev clockParts : List Part := [.cku, .stu, .ptu, .rme, .records, .fresh]

/-- A switch to a source has started (R28). -/
def switchedTo (x : ClockSource) (c : Cku) : Prop :=
  c.clock = .switching ∧ c.source = x ∧ c.lockTimer = (if x = .internal then none else some 50) ∧
  c.settleTimer = (if x = .internal then some 2 else none) ∧ c.holdoverTimer = none

/-- R23, R34, R37, R38: an external source that was present is not any more: its record is lost, and the clock leaves it
when it was the clock source, by selection in AUTO and for HOLDOVER in FIXED. -/
def losesSource (x : ClockSource) (s t : State) : Prop :=
  let c := s.cku.putRec x { s.cku.record x with
    standing := .absent, quality := 255, revert := 0, unlock := false, edges := 0 }
  (s.cku.source ≠ x → t.cku = c) ∧
  (s.cku.source = x → s.cku.mode = .auto → ∃ y, c.priority.find? c.usable = some y ∧ switchedTo y t.cku ∧
    t.cku = { c with
      clock := t.cku.clock, source := t.cku.source, lockTimer := t.cku.lockTimer, settleTimer := t.cku.settleTimer
      holdoverTimer := t.cku.holdoverTimer }) ∧
  (s.cku.source = x → s.cku.mode = .fixed → s.cku.clock ≠ .holdover → t.cku = { c with
    clock := .holdover, lockTimer := none, settleTimer := none, holdoverTimer := some 10000 }) ∧
  (s.cku.source = x → s.cku.mode = .fixed → s.cku.clock = .holdover → t.cku = c)

/-- Every block but the LIF, the MSU, the SBC and the FSV at its power-on state, with the input pins as they stand (R46, R47,
R73, R92, R120, R152, R167, R171, R184, log 24). -/
def blocksPoweredOn (s t : State) : Prop :=
  t.cku = Cku.powerOn ∧ t.stu = Stu.powerOn ∧ t.ptu = s.ptu.map (fun p => Port.powerOn p.overload) ∧
  t.rme = Rme.powerOn ∧ t.mtb = Mtb.powerOn ∧ t.evf = Evf.powerOn ∧
  t.sou = Sou.powerOn ∧ t.bdt = List.replicate 32 Binding.emptyEntry ∧ t.fresh = s.fresh ∧ t.pending = s.pending

/-- What the end of an initialisation or of a reset does (R14, R15, R151): READY is queued, a line in break starts the
stuck timer, and the start-up RELEASE goes out at once on a free bus that is RUNNING, or waits. -/
def opensSession (cause : StartCause) (s t : State) : Prop :=
  t.phase = .running ∧ t.msu.cause = cause ∧ t.msu.notices = s.msu.notices ++ [⟨s.msu.gap, .ready cause⟩] ∧
  t.msu.gap = false ∧ t.sbc.stuckTimer = (s.sbc.lineBreak && s.sbc.bus == .running) ∧
  (if s.sbc.bus = .running ∧ s.sbc.free = true ∧ s.sbc.txn = none then
    t.sbc.txn = some ⟨⟨0, .release, []⟩, .controller, .sending⟩ ∧ t.sbc.startUp = false
   else t.sbc.txn = s.sbc.txn ∧ t.sbc.startUp = true) ∧
  KeepsBut [.phase, .records, .settings, .sbc] s t

/-- R1: the link state after each link event, by the table of the rule. -/
def linkAfter (c : Instr) (l : LinkState) : LinkState :=
  match c, l with
  | .busPowerConnection, .detached => .attached
  | .busReset, .attached | .busReset, .configured | .busReset, .suspended _ => .attached
  | .selectConfiguration 1, .attached | .selectConfiguration 1, .configured => .configured
  | .selectConfiguration 0, .attached | .selectConfiguration 0, .configured => .attached
  | .busIdleSuspend, .attached => .suspended false
  | .busIdleSuspend, .configured => .suspended true
  | .resumeSignalling, .suspended true => .configured
  | .resumeSignalling, .suspended false => .attached
  | .disconnection, _ => .detached
  | _, l => l

/-- R1: whether a link event is one of the table's link resets, or an entry to SUSPENDED. -/
def linkLeft (c : Instr) (l : LinkState) : Bool :=
  match c, l with
  | .busReset, .configured | .busReset, .suspended true | .disconnection, .configured
  | .disconnection, .suspended true | .selectConfiguration 0, .configured
  | .busIdleSuspend, .attached | .busIdleSuspend, .configured => true
  | _, _ => false

/-- Both streams are IDLE and empty with their counts and configuration kept (R70). -/
def streamsReset (s t : State) : Prop :=
  t.stu.playback = { s.stu.playback with
    state := .idle, buffer := [], arrivals := [], unlisted := 0, repeatRun := 0
    lastFrame := List.replicate s.stu.playback.effective 0 } ∧
  t.stu.capture = { s.stu.capture with
    state := .idle, buffer := [], headStamp := s.cku.counter + 1, slipFlag := false, unsteady := t.stu.capture.unsteady } ∧
  t.stu.ring = [] ∧ t.stu.lastReport = s.stu.lastReport

/-- What a link reset and a suspend leave alone (R2, R46, R73, R92, R151, R152, R167, R171, R184, R193). -/
def runsOn (s t : State) : Prop :=
  t.msu.mask = s.msu.mask ∧ t.msu.lampA = s.msu.lampA ∧ t.msu.lampB = s.msu.lampB ∧ t.msu.cause = s.msu.cause ∧
  t.sbc = s.sbc ∧ t.mtb = s.mtb ∧ t.evf = s.evf ∧ t.sou = s.sou ∧ t.bdt = s.bdt ∧ t.fsv = s.fsv ∧ t.phase = s.phase ∧
  t.pending = s.pending ∧ t.lif.reference = s.lif.reference ∧ t.rme = { s.rme with overload := t.rme.overload } ∧ t.cku.rate = s.cku.rate ∧
  t.cku.priority = s.cku.priority ∧ t.cku.mode = s.cku.mode ∧ t.cku.fixedSource = s.cku.fixedSource ∧
  t.cku.revert = s.cku.revert ∧ t.cku.counter = s.cku.counter ∧
  (∀ x ∈ externalSources, x ≠ .link → t.cku.record x = s.cku.record x)

/-- R56: the arrival list once `k` frames that it lists have been removed, the oldest first. -/
def entriesLess : Nat → List Arrival → List Arrival
  | _, [] => []
  | k, a :: rest =>
    if a.count ≤ k then entriesLess (k - a.count) rest else { a with count := a.count - k } :: rest

/-- R56, R67: a playback stream recentred: in RUNNING, zero frames fill it up to its target from below half of it, and the
oldest frames leave down to the target from above one and a half of it. -/
def recentred (p q : Playback) : Prop :=
  let T := p.depth / 2
  let fill := p.buffer.length
  let counted := min 65535 (p.recentres + 1)
  (p.state ≠ .running ∨ T ≤ 2 * fill ∧ 2 * fill ≤ 3 * T → q = p) ∧
  (p.state = .running → 2 * fill < T → q = { p with
    buffer := List.replicate (T - fill) (List.replicate p.effective 0) ++ p.buffer
    unlisted := p.unlisted + (T - fill), recentres := counted }) ∧
  (p.state = .running → 3 * T < 2 * fill → (∀ a ∈ p.arrivals, 1 ≤ a.count) → q = { p with
    buffer := p.buffer.drop (fill - T), unlisted := p.unlisted - (fill - T)
    arrivals := entriesLess (fill - T - p.unlisted) p.arrivals, recentres := counted })

/-- R62, R67: the streams at a change of the clock that ends in a clock state. -/
def streamsFollow (clock : ClockState) (s t : State) : Prop :=
  if clock = .locked ∨ clock = .free then
    recentred s.stu.playback t.stu.playback ∧ t.stu = { s.stu with playback := t.stu.playback }
  else t.stu = { s.stu with capture := { s.stu.capture with unsteady := true } }

/-- The clock becomes as given, with its notice, the streams follow it, and only what follows the clock changes (R43, R45). -/
def clockBecomes (c : Cku) (reason : ClockReason) (s t : State) : Prop :=
  t.cku = c ∧ streamsFollow c.clock s t ∧
  KeepsBut clockParts s t ∧ t.rme = { s.rme with overload := t.rme.overload } ∧
  (HasRoom 5 s → s.ptu.length = 4 → Heard (.clockState c.clock c.source c.rate c.fallback reason) t)

/-- The record of a present source after a judged check period, by the tables of R24 and R25. -/
def judgedRecord (rate : Rate) (r : SourceRec) : Standing × Nat :=
  if r.edges = 0 then (.absent, 255)
  else if r.standing = .absent then (.unusable, 255)
  else
    let q := if r.unlock = false ∧ (1000 * (r.edges : Int) - rate.hertz).natAbs ≤ 1000 then r.quality - 1
      else min 255 (r.quality + 8)
    (match r.standing with
     | .good => if 128 ≤ q then .unusable else if 96 ≤ q then .degraded else .good
     | .degraded => if 128 ≤ q then .unusable else if q < 64 then .good else .degraded
     | _ => if q < 64 then .good else .unusable, q)

/-- The clock, its source and its timers stand as they stood. -/
def timersKept (s t : State) : Prop :=
  t.cku.clock = s.cku.clock ∧ t.cku.source = s.cku.source ∧ t.cku.lockTimer = s.cku.lockTimer ∧
  t.cku.settleTimer = s.cku.settleTimer ∧ t.cku.holdoverTimer = s.cku.holdoverTimer

/-- The clock, its source, its timers and its fallback reason stand as they stood. -/
def clockKept (s t : State) : Prop := timersKept s t ∧ t.cku.fallback = s.cku.fallback

/-- At the end of a check period the clock switches to a source, with no fallback reason and its notice (R28, R43). -/
def periodSwitch (x : ClockSource) (reason : ClockReason) (s t : State) : Prop :=
  switchedTo x t.cku ∧ t.cku.fallback = .none ∧
  (HasRoom 11 s → s.ptu.length = 4 → Heard (.clockState .switching x s.cku.rate .none reason) t)

/-- R34, R35, R36: the clock at the end of a check period in AUTO, from the records as judged. -/
def autoPeriod (s t : State) : Prop :=
  let x := s.cku.source
  let ahead := s.cku.priority.takeWhile (fun y => y != x)
  (t.cku.usable x = false → ∃ y, s.cku.priority.find? t.cku.usable = some y ∧ periodSwitch y .sourceLost s t) ∧
  (x = .internal → (∃ y ∈ ahead, t.cku.usable y = true) →
    ∃ y, s.cku.priority.find? t.cku.usable = some y ∧ periodSwitch y .recovered s t) ∧
  (t.cku.usable x = true → x ≠ .internal → s.cku.revert = true →
    ∀ y, ahead.find? (fun z => decide ((t.cku.record z).revert = 500)) = some y → periodSwitch y .revert s t) ∧
  (t.cku.usable x = true → (x = .internal → ∀ y ∈ ahead, t.cku.usable y = false) →
    (x ≠ .internal → s.cku.revert = true → ∀ y ∈ ahead, (t.cku.record y).revert ≠ 500) → clockKept s t)

/-- R37, R38: the clock at the end of a check period in FIXED, where selection runs only when the fixed source's state has
changed. -/
def fixedPeriod (s t : State) : Prop :=
  let x := s.cku.fixedSource
  let on := s.cku.source = x ∧ s.cku.clock ≠ .holdover
  ((t.cku.record x).standing = (s.cku.record x).standing → clockKept s t) ∧
  ((t.cku.record x).standing ≠ (s.cku.record x).standing →
    (t.cku.usable x = true → on → clockKept s t) ∧
    (t.cku.usable x = true → ¬ on → periodSwitch x .recovered s t) ∧
    (t.cku.usable x = false → ¬ on → clockKept s t) ∧
    (t.cku.usable x = false → on →
      t.cku.clock = .holdover ∧ t.cku.source = x ∧ t.cku.fallback = .none ∧ t.cku.lockTimer = none ∧
      t.cku.settleTimer = none ∧ t.cku.holdoverTimer = some 10000 ∧
      (HasRoom 11 s → s.ptu.length = 4 →
        Heard (.clockState .holdover x s.cku.rate .none .sourceLost) t)))

/-- R34: the clock after a selection in AUTO by CLOCK_SET_SOURCES, the choice being `y`. -/
def selectedAuto (y : ClockSource) (s t : State) : Prop :=
  let on := s.cku.source = y ∧ s.cku.clock ≠ .holdover
  t.cku.fallback = .none ∧ (on → timersKept s t) ∧ (¬ on → switchedTo y t.cku)

/-- R37, R38: the clock after a selection in FIXED by CLOCK_SET_SOURCES, the fixed source being `x`. -/
def selectedFixed (x : ClockSource) (s t : State) : Prop :=
  let c := s.cku
  let onInternal := c.clock = .free ∨ c.clock = .switching ∧ c.source = .internal
  let on := (c.clock = .locked ∨ c.clock = .switching) ∧ c.source = x
  let toInternal := (onInternal → timersKept s t) ∧ (¬ onInternal → switchedTo .internal t.cku)
  if x = .internal then t.cku.fallback = .none ∧ toInternal
  else if c.usable x = true then
    t.cku.fallback = .none ∧ (on → timersKept s t) ∧ (¬ on → switchedTo x t.cku)
  else if on then
    t.cku.fallback = .none ∧ t.cku.clock = .holdover ∧ t.cku.source = x ∧ t.cku.lockTimer = none ∧
    t.cku.settleTimer = none ∧ t.cku.holdoverTimer = some 10000
  else if c.clock = .holdover ∧ c.source = x then clockKept s t
  else
    t.cku.fallback = (if c.fallback = .holdoverExpired then .holdoverExpired else .sourceUnusable) ∧ toInternal

/-- The state of a port after a change of rate, by the table of R90. -/
def portAfterRate (r : Rate) (p : Port) : PortState :=
  match p.state with
  | .off => .off
  | .conflict => .conflict
  | _ => if p.slots ≤ r.maxSlots then .starting else .conflict

/-- One port becomes as given, and only ports, the overload lines and notices change. -/
def portBecomes (i : Nat) (q : Port) (s t : State) : Prop :=
  t.ptu = s.ptu.set i q ∧ t.rme = { s.rme with overload := (s.ptu.set i q).map Port.handsOverload } ∧
  KeepsBut [.ptu, .rme, .records, .replies] s t

/-- R99 steps 1 and 2, R100, R102: entry `n` of the table once the ACTIVE route `old` has left ACTIVE. -/
def afterLeaving (m : Rme) (old n : Nat) : Route :=
  let r := m.route old
  if n = old then
    if m.rampLength = 0 then Route.freeEntry
    else { r with
      state := .releasing, level := { r.level with holder := none, ramp := some ⟨r.level.coeff, 0, m.rampLength, 0⟩ } }
  else if (m.route n).state = .releasing ∧ (m.route n).inLane r.source r.dest = true then Route.freeEntry
  else m.route n

/-- R100, R101, R102, R192: an ACTIVE route has left ACTIVE: the table is as R99 and R100 leave it, every binding of the route
is orphaned, and each entry freed at once is reported. -/
def routeLeft (old : Nat) (s : State) (m : Rme) (t : State) : Prop :=
  m = { s.rme with routes := m.routes } ∧ m.routes.length = 128 ∧
  (∀ n < 128, m.route n = afterLeaving s.rme old n) ∧
  t.bdt = s.bdt.map (fun b =>
    if b.state ≠ .empty ∧ b.target.ref = .route old then { b with state := .orphaned, cause := .lostRoute } else b) ∧
  (HasRoom 2 s → ∀ n < 128, (s.rme.route n).state ≠ .free → (m.route n).state = .free →
    Heard (.routeReleased n (s.rme.route n).source (s.rme.route n).dest .cut) t)

/-- R98, R99 step 3: the entry that ROUTE_ADD makes. -/
def newRoute (src dst : Point) (gain : Gain) (mute invert : Bool) (length : Nat) : Route :=
  ⟨.active, src, dst, invert,
    if mute = true ∨ gain.coeff = 0 then ⟨gain, mute, 0, none, none⟩
    else if length = 0 then ⟨gain, mute, gain.coeff, none, none⟩
    else ⟨gain, mute, 0, some ⟨0, gain.coeff, length, 0⟩, none⟩⟩

/-- The set-target rule in a record (R95): what is stored, what the coefficient heads for, and where it stands. -/
def retargeted (gain : Gain) (mute : Bool) (length : Nat) (old new : GainRec) : Prop :=
  new.gain = gain ∧ new.mute = mute ∧ new.holder = old.holder ∧
  new.heading = (if mute then 0 else gain.coeff) ∧
  (new.heading = old.heading → new.coeff = old.coeff ∧ new.ramp = old.ramp) ∧
  (new.heading ≠ old.heading → length = 0 → new.coeff = new.heading ∧ new.ramp = none) ∧
  (new.heading ≠ old.heading → length ≠ 0 → new.coeff = old.coeff ∧
    new.ramp = some ⟨old.coeff, new.heading, length, 0⟩)

/-- What the set-target rule and its feedback may change (R95, R191). -/
abbrev targetParts : List Part := [.replies, .records, .rme, .sbc, .sou, .fsv]

/-- R193, R197: a channel that takes a target, by the deadband that the last servo period read. -/
def headed (f : Fader) (target : Nat) : Fader :=
  let far := decide (f.deadbandInForce < ((target : Int) - f.position).natAbs)
  let go := { f with target := target, state := .moving, motion := 0, overRun := 0, openRun := 0 }
  match f.state with
  | .idle => if far then go else { f with target := target }
  | .stalled => if far then go else { f with target := target, state := .idle, duty := 0, overRun := 0, openRun := 0 }
  | .moving => { f with target := target, motion := 0 }
  | _ => { f with target := target }

/-- R191: the value that a binding is sent for its target's record. -/
def feedbackOf (b : Binding) (l : GainRec) : Nat :=
  match b.mode, b.control.origin with
  | .toggle, .bank => if l.mute then 0 else 1023
  | .toggle, .remote _ => if l.mute then 1 else 0
  | _, _ => inversePosition l.gain

/-- R191: one feedback. A LOCAL control's channel is handed the value as a target, which a DISABLED or touched channel does
not take; a module's control is sent a FEEDBACK frame, but for an ABSOLUTE binding without touch capability. -/
def feedbackSent (b : Binding) (s t : State) : Prop :=
  let v := feedbackOf b (s.rme.level b.target.ref)
  match b.control.origin with
  | .bank =>
    let f := s.fsv.channel b.control.number
    if f.state = .disabled ∨ f.touch = true then t = s
    else t.fsv = { s.fsv with channels := s.fsv.channels.set b.control.number (headed f v) } ∧
      KeepsBut [.records, .fsv] s t
  | .remote a =>
    if b.mode = .absolute ∧ s.touchCapable b.control = false then t = s
    else t = handFrame .normal ⟨.feedback, ⟨a, .setControl, BitVec.ofNat 8 b.control.number :: leBytes 2 v⟩, 1, 0, none, 0,
      false, none, false, false, none⟩ s

/-- R74, R75, R78, R84, R86, R87, R88: a port after a studio frame whose values for its slots are `values`. -/
def portAfterFrame (q : Port) (values : Frame) : Port :=
  let silent : List Slot := List.replicate q.slots 0
  let ends := q.state = .settling ∧ q.settle = 1
  let r := { q with
    state := if ends then .running else q.state, settle := q.settle - 1, driveIn := if ends then none else q.driveIn }
  let written := if q.state = .running then values else List.replicate q.slots 0
  match q.mode, q.state with
  | .follow, .settling | .follow, .running => { r with
      inBuf := q.inBuf.drop 1, lastIn := q.inBuf.head?.getD q.lastIn
      underSlips := if q.inBuf = [] then min 65535 (q.underSlips + 1) else q.underSlips
      outBuf := (q.outBuf ++ [written]).drop (if 8 ≤ q.outBuf.length then 1 else 0)
      overSlips := if 8 ≤ q.outBuf.length then min 65535 (q.overSlips + 1) else q.overSlips }
  | .follow, _ => r
  | .drive, .off | .drive, .conflict => { r with line := none }
  | .drive, .running => { r with
      line := some (if q.mute then silent else (List.range q.slots).map (fun k => slotOfSample (q.driveOut.getD k 0)))
      driveOut := written }
  | .drive, _ => { r with line := some silent, driveOut := written }

/-- R88, R114: what the route engine reads of a port at a studio frame: the slots below the slot count of the frame taken from
the input retime buffer, or of the DRIVE input frame last completed (a free value before one has, log 39), while RUNNING. -/
def portRead (q : Port) (i : Nat) (counter : Stamp) : Frame :=
  if q.state ≠ .running then []
  else ((if q.mode = .follow then q.inBuf.head?.getD q.lastIn else q.driveFrame i counter)).take q.slots

/-- R60, R61: the capture stream after a studio frame, `counter` being the frame's. -/
def captureAfterFrame (c : Capture) (counter : Stamp) (values : Frame) : Capture :=
  if c.state = .running then
    let slips : Bool := decide (c.depth ≤ c.buffer.length)
    { c with
      buffer := (c.buffer ++ [values]).drop (if slips then 1 else 0)
      overruns := if slips then min 65535 (c.overruns + 1) else c.overruns
      slipFlag := c.slipFlag || slips, headStamp := if slips then c.headStamp + 1 else c.headStamp }
  else { c with headStamp := counter + 1 }

/-- R121: the value measured at a point of a studio frame and whether a clip is marked, from the inputs and bus outputs. -/
def watched (m : Rme) (i : Inputs) (outs : List Int) (p : Point) : Int × Bool :=
  let sum := fun (d : Point) => sumInto m.routes i outs d
  let held := fun (v : Int) => (max (-8388608) (min 8388607 v), decide (v < -8388608 ∨ 8388607 < v))
  match p with
  | .play c => (i.play.getD c 0, false)
  | .pin p s => ((i.ports.getD p []).getD s 0, m.overload.getD p false)
  | .bus b => held ((sum (.busIn b) * (m.bus b).coeff + 2 ^ 19) / 2 ^ 20)
  | d => held (sum d)

/-- R121: the meter slots after the measurements of a studio frame. -/
def slotsMeasured (m : Rme) (i : Inputs) (outs : List Int) : List MeterSlot :=
  m.slots.map (fun x => match x.point with
    | none => x
    | some p => x.measure (watched m i outs p).1 (watched m i outs p).2)

/-- R123: a slot at the end of a meter period. -/
def slotEnded (holdTime : Nat) (x : MeterSlot) : MeterSlot :=
  let age := min 255 (x.age + 1)
  let renewed := x.hold < x.peak ∨ 1 ≤ holdTime ∧ holdTime ≤ age
  if x.point = none then x
  else { x with
    code := meterCode x.peak, peak := 0, hold := if renewed then x.peak else x.hold, age := if renewed then 0 else age }

/-- R125: the METER frame of an address after a meter period: sixteen codes, 255 where no assigned slot has the position. -/
def meterFrameOf (m : Rme) (a : Nat) : BusFrame :=
  ⟨a, .meter, (List.range 16).map (fun p =>
    ((m.slots.find? (fun x => x.point.isSome && x.display == some (a, p))).map (fun x => BitVec.ofNat 8 x.code)).getD 255)⟩

/-- R125, R172, R174: the METER frames of a period end in a METER queue that has room for them: each ONLINE or SUSPECT module
with a display position is sent its codes, in place of a frame queued to it or else at the tail, in ascending order. -/
def metersSent (s t : State) : Prop :=
  let addresses := (s.mtb.entries.filter (fun e => decide (e.state = .online ∨ e.state = .suspect) &&
    t.rme.slots.any (fun x => x.point.isSome && (x.display.map Prod.fst) == some e.address))).map (fun e => e.address)
  let before := s.sou.meter.map (fun f => f.frame)
  s.sou.meter.length + addresses.length ≤ 16 → s.sou.used + 2 * addresses.length ≤ 64 →
    t.sou.meter.map (fun f => f.frame) =
      before.map (fun f => if f.address ∈ addresses then meterFrameOf t.rme f.address else f) ++
      (addresses.filter (fun a => a ∉ before.map (fun f => f.address))).map (meterFrameOf t.rme) ∧
    t.sou.urgent.map (fun f => f.frame) = s.sou.urgent.map (fun f => f.frame) ∧
    t.sou.normal.map (fun f => f.frame) = s.sou.normal.map (fun f => f.frame)

/-- R147, R149: every module expires the lifetime in force after this moment. -/
def expiriesMoved (lifetime : Nat) (s t : State) : Prop :=
  t.mtb = { s.mtb with entries := s.mtb.entries.map (fun e =>
    { e with expiry := s.sbc.millis + BitVec.ofNat 32 (lifetime * 500) }) }

/-- A search has begun: the empty prefix waits, or its CALL has been picked (R155, R156). -/
def searchBegan (t : State) : Prop :=
  t.sbc.search = ⟨true, [⟨0, 0⟩], none, none, false⟩ ∨
  t.sbc.search = ⟨true, [], some (.call ⟨0, 0⟩), none, false⟩ ∧
    t.sbc.txn = some ⟨⟨31, .call, List.replicate 7 0⟩, .search, .sending⟩

/-- The head frame of a queue that the queue offers: not delayed, not in flight (R177). -/
def headOffered (s : State) (q : QueueId) (f : QFrame) : Prop :=
  ∃ rest, s.sou.queue q = f :: rest ∧ f.delay = none ∧ f.inFlight = false

/-- R131, R132, R136: how the reply to a frame is judged when all its characters are in. -/
def replyJudged (f : BusFrame) (address kind length : Byte) (payload : List Byte) (crc : Byte) : TxnResult :=
  let needed := match f.kind with
    | .call => 31
    | .assign => (f.payload.getD 6 0).toNat
    | _ => f.address
  let suits : Bool := match f.kind with
    | .poll => kind.toNat == 0x81 && payload.length % 4 == 0 || kind.toNat == 0x82 && payload.isEmpty
    | .call => kind.toNat == 0x83 && payload.length == 10
    | .assign => kind.toNat == 0x84 && payload.isEmpty
    | .refuse => false
    | .release | .write | .setControl | .meter =>
      decide (0x85 ≤ kind.toNat ∧ kind.toNat ≤ 0x87) && payload.isEmpty
  if crc = crc8 (address :: kind :: length :: payload) ∧ address.toNat = needed ∧ suits = true then
    ((replyKindOf kind).map (fun k => TxnResult.reply k payload)).getD .corrupt
  else .corrupt

/-- R143: the state of an entry after a change of its count. -/
def restated (before : ModuleState) (q : Nat) : ModuleState :=
  match before with
  | .online => if 96 ≤ q ∧ q ≤ 127 then .suspect else if 128 ≤ q then .silent else .online
  | .suspect => if 128 ≤ q then .silent else if q < 64 then .online else .suspect
  | .silent => if q < 64 then .online else .silent
  | .joining => .joining

/-- R138, R142, R143: the entry of a module once a transaction to it has been judged, and its notice. -/
def entryJudged (a : Nat) (e : Entry) (q : Nat) (expiry : Word32) (s t : State) : Prop :=
  t.mtb = { s.mtb with entries := s.mtb.entries.map (fun x => if x.address = a then
    { x with quality := q, state := restated e.state q, expiry := expiry } else x) } ∧
  KeepsBut [.records, .sbc, .mtb] s t ∧
  (HasRoom 1 s → restated e.state q ≠ e.state →
    ∃ reason, Heard (.moduleState ⟨a, e.serial, some e.state, some (restated e.state q), reason, .none, q⟩) t)

/-- R165, R166, R204: the kind and the value of an event whose kind code and value bytes are good. -/
def eventRead (kind low high : Byte) : Option (EventKind × Int) :=
  let n := low.toNat + 256 * high.toNat
  let signed : Int := if n < 32768 then n else n - 65536
  match kind.toNat with
  | 0 => if n ≤ 1023 then some (.fader, n) else none
  | 1 => if n ≤ 1 then some (.touch, n) else none
  | 2 => if n ≤ 1 then some (.button, n) else none
  | 3 => if -64 ≤ signed ∧ signed ≤ 63 then some (.encoder, signed) else none
  | 4 => some (.value, n)
  | _ => none

/-- R153: the module at an address, of an entry `e`, has been removed: the entry has left the table with its notice, the
address the round list, and no ACTIVE binding is left of it. -/
def moduleGone (e : Entry) (detail : ModuleDetail) (s t : State) : Prop :=
  (HasRoom 1 s → Heard (.moduleState ⟨e.address, e.serial, some e.state, none, .lost, detail, e.quality⟩) t) ∧
  t.sbc.roundList = s.sbc.roundList.filter (fun a => a != e.address) ∧
  ∀ b ∈ t.bdt, b.state = .active → b.control.origin ≠ .remote e.address

/-- R158: a record without a holder at an address; nothing else of it changes. -/
def letGo (a : Nat) (l : GainRec) : GainRec :=
  if l.holder.map (fun c => c.origin) = some (.remote a) then { l with holder := none } else l

/-- R178, R181, R182: a frame ends: it leaves its queue, and a HOST frame leaves a record and, with notify, a notice. -/
def endsAs (q : QueueId) (f : QFrame) (rest : List QFrame) (result : FrameResult) (s t : State) : Prop :=
  let kept := if 16 ≤ s.sou.history.length then s.sou.history.drop 1 else s.sou.history
  let told : HistoryRecord := ⟨f.tag, f.frame.address, f.frame.kind, result, f.attempts, s.sbc.millis⟩
  (∀ p, t.sou.queue p = if p = q then rest else s.sou.queue p) ∧ KeepsBut [.sou, .records] s t ∧
  (f.origin = .host → t.sou.history = kept ++ [told] ∧
    (f.notify = true → HasRoom 1 s → Heard (.surfaceDone told) t)) ∧
  (f.origin ≠ .host → t.sou.history = s.sou.history ∧ t.msu = s.msu)

/-- The route table with a binding's hold released: its target's holder is none when it was the binding's control
(R186). -/
def unheldBy (b : Binding) (m : Rme) : Rme :=
  if b.state ≠ .empty ∧ (m.level b.target.ref).holder = some b.control then
    m.putLevel b.target.ref { m.level b.target.ref with holder := none }
  else m

/-- R189: the new gain setting of an encoder turn. -/
def turned (g : Gain) (d : Int) (step : Nat) : Gain :=
  match g with
  | .off => if 0 < d then .tenths (-1200) else .off
  | .tenths n => if n = -1200 ∧ d < 0 then .off else .tenths (max (-1200) (min 120 (n + d * step)))

/-- R195: a MOVING channel acts on its sample; another is left as it is. -/
def driven (f : Fader) (current : Nat) : Fader :=
  let heavy := if f.duty ≠ 0 ∧ f.limit < current then f.overRun + 1 else 0
  let light := if 32 ≤ f.duty.natAbs ∧ current < 4 then f.openRun + 1 else 0
  let e : Int := f.target - f.position
  let stopped := fun (st : FaderState) => { f with state := st, duty := 0, overRun := 0, openRun := 0 }
  let pushed := max (-(f.maxDuty : Int)) (min f.maxDuty (Int.tdiv (f.kp * e) 8))
  if f.state ≠ .moving then f
  else if 3 ≤ heavy then { stopped .fault with fault := .overcurrent }
  else if 20 ≤ light then { stopped .fault with fault := .openLoad }
  else if e.natAbs ≤ f.deadband then stopped .idle
  else if 800 ≤ f.motion + 1 then { stopped .stalled with motion := 800 }
  else { f with
    overRun := heavy, openRun := light, motion := f.motion + 1
    duty := if f.minDuty ≤ pushed.natAbs then pushed else if e < 0 then -f.minDuty else f.minDuty }

/-- The record of a channel replaced. -/
def putChannel (n : Nat) (f : Fader) (u : State) : State :=
  { u with fsv := { u.fsv with channels := u.fsv.channels.set n f } }

/-- R166, R194: a local event of a channel, stamped with the low 32 bits of the studio frame counter, is delivered to the
bindings and then to the filters. -/
def localTold (n : Nat) (kind : EventKind) (value : Nat) (u : State) : State :=
  let e : SurfaceEvent := ⟨⟨.bank, n⟩, kind, value, u.cku.counter.setWidth 32⟩
  filterEvent e (bindingEvent e u)

/-- R194: a FADER event carries the position of a channel, which becomes its last reported position. -/
def positionTold (n : Nat) (u : State) : State :=
  let f := u.fsv.channel n
  localTold n .fader f.position (putChannel n { f with reported := f.position } u)

/-- R194: touch on one channel once it is sampled. A touch stops the motor and tells TOUCH 1, then a move of 2 or more; a hand
that stays tells such moves; a release tells any move, then TOUCH 0, and the target becomes the position. -/
def handFollowed (n : Nat) (u : State) : State :=
  let f := u.fsv.channel n
  let moved := fun (least : Nat) (w : State) =>
    if least ≤ ((f.position : Int) - f.reported).natAbs then positionTold n w else w
  if f.state = .disabled then u
  else match f.touchSensor, f.touch with
    | false, false => u
    | true, true => moved 2 u
    | true, false =>
      let g := { f with touch := true }
      let held :=
        if f.state = .moving ∨ f.state = .stalled then
          notify (.faderState n f.state .idle .touched f.position f.target f.fault)
            (putChannel n { g with state := .idle, duty := 0, overRun := 0, openRun := 0 } u)
        else putChannel n g u
      moved 2 (localTold n .touch 1 held)
    | false, true =>
      let w := moved 1 u
      let told := localTold n .touch 0 (putChannel n { w.fsv.channel n with touch := false } w)
      putChannel n { told.fsv.channel n with target := f.position } told

/-- R195, R201: an untouched channel acts on its sample, with the notice of a change of its state. -/
def channelDriven (current : Nat → Nat) (n : Nat) (u : State) : State :=
  let f := u.fsv.channel n
  let g := if f.touch then f else driven f (current n)
  let reason : FaderReason := match g.state with
    | .fault => if g.fault = .overcurrent then .overcurrent else .openLoad
    | .stalled => .stalled
    | _ => .arrived
  let w := putChannel n g u
  if g.state = f.state then w else notify (.faderState n f.state g.state reason g.position g.target g.fault) w

end Sys2Proof.Safety
end

