-- ==== Sys2Proof/Certificates/Slice0/Obligations.lean ====
section
/-! DEFINITION. The statements for the provers, from the numbered rules of the spec, chapter by chapter. -/

section Claims

open Sys2Proof Sys2Proof.Machine Sys2Proof.Safety

/-! ## Steps and invariants -/

/-- A step takes the command at the front of the queue and runs it on the state with the rest of the queue; on an empty queue
the part idles (the queue and its idling are the model's, logs 1 and 2). -/
def Obligations.StepRunsFrontCommand : Prop :=
  (∀ (c : Instr) (rest : List Instr) (s : State), s.pending = c :: rest → step s = exec c (s.withPending rest)) ∧
  ∀ s : State, s.pending = [] → step s = .next s

/-- The state right after reset meets every law and leaves nothing unsent; where the spec gives no value, the value is the
model's (logs 8 and 9). -/
def Obligations.ResetMeetsEveryLaw : Prop := Sound State.reset ∧ NothingLeft State.reset

/-- R5, R6, R10, R11: the MSU's buffers keep their sizes, READY stays unmasked, no two queued notices match. -/
def Obligations.RecordsLawKept : Prop :=
  ∀ s t : State, RecordsSound s.msu → step s = .next t → RecordsSound t.msu

/-- R22, R23, R25, R26, R28, R29, R34, R37, R38, R70, R71: quality counts, timers, clock source and fallback stay lawful;
LOCKED is on a usable source; a source that is not present stays ABSENT; streams run only while CONFIGURED. -/
def Obligations.ClockLawKept : Prop :=
  ∀ s t : State, step s = .next t →
    (ClockSound s.cku → ClockSound t.cku) ∧ (PresenceSound s → PresenceSound t)

/-- R22, R54 to R56, R60, R63, R64, R68: fills, arrival accounting, head stamp, report bounds, the link reference's edges (its
edges' moments are the model's, log 51). -/
def Obligations.StreamsLawKept : Prop := ∀ s t : State, StreamsSound s → step s = .next t → StreamsSound t

/-- R76 to R79, R86, R87, R89: ports stand as their conditions say, retime buffers stay within 8. -/
def Obligations.PortsLawKept : Prop := ∀ s t : State, PortsSound s → step s = .next t → PortsSound t

/-- R93, R94, R95, R109, R111: lanes, bus order, target coefficients and ramps, for a well-formed command at the front of the
queue (a sampled fader position is within 0 to 1023). -/
def Obligations.RoutesLawKept : Prop :=
  ∀ s t : State, Sound s → (∀ c ∈ s.pending.head?, c.wellFormed = true) → step s = .next t → RoutesSound t.rme

/-- R141, R142, R152, R155, R156: the module table, its round list and its one JOINING entry; the search stack never holds
more than 49 prefixes, and its step in flight is its transaction. -/
def Obligations.ModulesLawKept : Prop :=
  ∀ s t : State, Sound s → step s = .next t → ModulesSound t ∧ SearchSound t.sbc

/-- R132, R134, R144 to R146, R172, R173, R177, R181: the bus state agrees with its enable, its attempts and its timers;
queue capacities, the pool of 64 blocks, one METER frame per module, one frame in flight. -/
def Obligations.OutputLawKept : Prop :=
  ∀ s t : State, Sound s → step s = .next t → BusSound t.sbc ∧ OutputSound t

/-- R184, R185, R192: one binding for a control, and every holder is a bound control of its target. -/
def Obligations.BindingsLawKept : Prop := ∀ s t : State, Sound s → step s = .next t → BindingsSound t

/-- R193, R195, R196, R198: a motor is driven only while its channel is MOVING and untouched. -/
def Obligations.FadersLawKept : Prop :=
  ∀ s t : State, FadersSound s.fsv → (∀ c ∈ s.pending.head?, c.wellFormed = true) → step s = .next t → FadersSound t.fsv

/-- R139: whenever the bus is RUNNING and free after a step, nothing is offered. -/
def Obligations.SchedulerLeavesNothing : Prop := ∀ s t : State, NothingLeft s → step s = .next t → NothingLeft t

/-! ## Power, link and records (01) -/

/-- R13, R14, R15, R73, R129, R151, R193: POWER_ON and RESET return every block to its power-on state (logs 8, 9 and 24 for
what the spec leaves open), a port's last frames to zeros. RESET answers OK and keeps the link, the transmit buffer, the
replies, the start cause and the samples of the faders. A frame that was being sent when it was taken, in the microsecond `cut`
after the frame began, is driven up to the next character boundary and the line is released then (that its end, or a later
transaction, takes it from the state is the model's choice, log 47). -/
def Obligations.PowerOnAndReset : Prop :=
  ∀ (tag : Byte) (s : State),
    (∃ t, exec .powerOn s = .next t ∧ t.phase = .powerUp ∧ t.lif = Lif.powerOn ∧ t.msu = Msu.powerOn ∧
      t.sbc = Sbc.powerOn s.sbc.lineBreak ∧ t.fsv = Fsv.powerOn s.fsv.supplyGood ∧ Safety.blocksPoweredOn s t) ∧
    (s.takes = true → ∃ t, exec (.reset tag) s = .next t ∧ t.phase = .resetting ∧ t.lif = s.lif ∧
      t.msu = { Msu.powerOn with
        replies := s.msu.replies ++ [⟨0x02, tag, .ok, none⟩], cause := s.msu.cause } ∧
      t.fsv = { s.fsv with channels := s.fsv.channels.map (fun f =>
        { Fader.powerOn with position := f.position, touchSensor := f.touchSensor }) } ∧
      Safety.blocksPoweredOn s t ∧
      (∃ held, t.sbc = { Sbc.powerOn s.sbc.lineBreak with cutShort := held } ∧
        (s.txnPhase ≠ some .sending → held = s.sbc.cutShort)) ∧
      (∀ x, s.sbc.txn = some x → x.phase = .sending → ∀ cut micros,
        t.sbc.lineDriver cut micros =
          if micros / 10 ≤ cut / 10 then x.frame.levels[micros]? else none)) ∧
    ∀ p ∈ State.reset.ptu, p.lastIn = List.replicate 8 0 ∧ p.lastOut = List.replicate 8 0

/-- R14, R15, R151: INITIALISATION_COMPLETE and RESET_COMPLETE end the span they belong to, and otherwise do nothing (log
10). -/
def Obligations.SessionOpens : Prop :=
  ∀ s : State, s.msu.notices.length < 64 →
    (s.phase = .powerUp → ∃ t, exec .initialisationComplete s = .next t ∧ Safety.opensSession .powerOn s t) ∧
    (s.phase = .resetting → ∃ t, exec .resetComplete s = .next t ∧ Safety.opensSession .resetCommand s t) ∧
    (s.phase ≠ .powerUp → exec .initialisationComplete s = .next s) ∧
    (s.phase ≠ .resetting → exec .resetComplete s = .next s)

/-- R1: the link events and set-up requests lead to the link state of the table; unless it is a link reset or a
suspend, nothing but the link state and the answer changes. Requests are answered in ATTACHED and CONFIGURED, and a
configuration other than 0 or 1 with a stall (the answer field is the model's, log 11; what it leaves out, log 12). -/
def Obligations.LinkStateTable : Prop :=
  ∀ (c : Instr) (s : State),
    (c ∈ [Instr.busPowerConnection, .busReset, .busIdleSuspend, .resumeSignalling, .disconnection] ∨
      (∃ v, c = .selectConfiguration v) ∨ ∃ r, c = .setupRequest r) →
    ∃ t, exec c s = .next t ∧ t.lif.link = Safety.linkAfter c s.lif.link ∧
      (Safety.linkLeft c s.lif.link = false → KeepsBut [.link, .answer] s t) ∧
      (s.lif.link = .attached ∨ s.lif.link = .configured →
        (∀ v, c = .selectConfiguration v → t.lif.answer = if v.toNat ≤ 1 then .accepted else .stall) ∧
        (∀ r, c = .setupRequest r → t.lif.answer = .accepted))

/-- R2, R17, R18, R23, R46, R70, R71: a link reset empties the records and clears the gap flag, a suspend keeps the records
and adds its notices behind those queued; both reset the streams and, when LINK was present, lose its record, and the clock
with it only when LINK is the clock source. The rest of the part runs on (log 33 for the notices' order; log 50 for the
clock-unsteady latch, which is clear afterwards in every clock state unless the event itself sets it; log 29 for the head stamp
of the IDLE capture stream; log 51 for the link reference, which runs on). -/
def Obligations.LinkLossReachesOnlyItsBlocks : Prop :=
  ∀ (c : Instr) (s : State), s.cku.sources.length = 7 → s.ptu.length = 4 → Safety.linkLeft c s.lif.link = true →
    ∃ t, exec c s = .next t ∧ Safety.runsOn s t ∧ Safety.streamsReset s t ∧
      (s.present .link = false → t.cku = s.cku ∧ t.ptu = s.ptu ∧ t.rme = s.rme) ∧
      (s.present .link = true → (t.cku.record .link).standing = .absent ∧ (t.cku.record .link).quality = 255 ∧
        (t.cku.record .link).revert = 0) ∧
      (ClockSound s.cku → s.present .link = true → Safety.losesSource .link s t) ∧
      (ClockSound s.cku → s.cku.source ≠ .link → t.ptu = s.ptu ∧ t.stu.capture.unsteady = false ∧
        (s.rme.overload = s.ptu.map Port.handsOverload → t.rme = s.rme)) ∧
      (if c = .busIdleSuspend then
        t.lif.transmit = s.lif.transmit ∧ t.msu.commands = s.msu.commands ∧ t.msu.replies = s.msu.replies ∧
        (∃ more, t.msu.notices = s.msu.notices ++ more) ∧
        (Safety.HasRoom 8 s →
          (s.stu.playback.state ≠ .idle → Safety.Heard (.streamState .playback s.stu.playback.state .idle .suspended
            false false s.stu.playback.effective s.stu.playback.depth) t) ∧
          (s.stu.capture.state ≠ .idle → Safety.Heard (.streamState .capture s.stu.capture.state .idle .suspended
            false false s.stu.capture.effective s.stu.capture.depth) t) ∧
          (s.present .link = true → (s.cku.record .link).standing ≠ .absent →
            Safety.Heard (.sourceState .link (s.cku.record .link).standing .absent 255) t))
       else
        t.lif.transmit = none ∧ t.msu.commands = [] ∧ t.msu.replies = [] ∧ t.msu.gap = false ∧
        ∀ n ∈ t.msu.notices, n.body.code ∈ [1, 2, 5])

/-- R5: while the link is CONFIGURED, a control-out packet is taken when the part is not between a reset and its READY and
fewer than four records wait; in such a span, or with four waiting, it is answered not-ready. That an answer is held, and
what it reads, is the model's choice (log 11). -/
def Obligations.ControlOutPackets : Prop :=
  ∀ (bytes : List Byte) (s : State), s.lif.link = .configured →
    (s.phase ≠ .resetting → s.msu.commands.length < 4 →
      exec (.controlOutPacket bytes) s =
        .next { s with lif := { s.lif with answer := .accepted }
                       msu := { s.msu with commands := s.msu.commands ++ [bytes] } }) ∧
    (s.phase = .resetting ∨ 4 ≤ s.msu.commands.length →
      exec (.controlOutPacket bytes) s = .next { s with lif := { s.lif with answer := .notReady } })

/-- R4, R9: a request sends the record in the transmit buffer, else the oldest reply, else the oldest notice, else a
not-ready handshake; an acknowledgement empties the buffer (the answer field is the model's, log 11). A reply is sent as class 2, the
kind and the tag of its command, flags 0, and a payload that is its status code, followed by the bytes of its result where the
status is OK or ADJUSTED. A notice is sent as class 3, its kind, tag 0, the gap bit, and its content. -/
def Obligations.ControlInSender : Prop :=
  (∀ (r : Reply) (result : List Byte), let more := if r.status = .ok ∨ r.status = .adjusted then result else []
    r.sentWith result = [2, r.kind, r.tag, 0] ++ leBytes 2 (1 + more.length) ++ r.status.code :: more) ∧
  (∀ (n : Notice) (content : List Byte), n.sentWith content =
    [3, BitVec.ofNat 8 n.body.code, 0, if n.gap then 1 else 0] ++ leBytes 2 content.length ++ content) ∧
  ∀ s : State, s.lif.link = .configured →
    (∀ r, s.lif.transmit = some r →
      exec .controlInRequest s = .next { s with lif := { s.lif with answer := .record r } }) ∧
    (s.lif.transmit = none → ∀ r rest, s.msu.replies = r :: rest →
      exec .controlInRequest s = .next { s with
        lif := { s.lif with transmit := some (.reply r), answer := .record (.reply r) }
        msu := { s.msu with replies := rest } }) ∧
    (s.lif.transmit = none → s.msu.replies = [] → ∀ n rest, s.msu.notices = n :: rest →
      exec .controlInRequest s = .next { s with
        lif := { s.lif with transmit := some (.notice n), answer := .record (.notice n) }
        msu := { s.msu with notices := rest } }) ∧
    (s.lif.transmit = none → s.msu.replies = [] → s.msu.notices = [] →
      exec .controlInRequest s = .next { s with lif := { s.lif with answer := .notReady } }) ∧
    exec .controlInAcknowledge s = .next { s with lif := { s.lif with transmit := none } }

/-- R4, R6, R8: a command row that R6 lets the MSU take is answered by one reply of its kind and tag; a refusal changes
nothing else and carries no result. Otherwise the record waits (log 1). -/
def Obligations.CommandsAnsweredOnce : Prop :=
  ∀ (c : Instr) (kind tag : Byte) (s : State), commandOf c = some (kind, tag) →
    (s.takes = true → ∃ (status : Status) (result : Option Result) (t : State), exec c s = .next t ∧
      Answered kind tag status result s t ∧
      (status ≠ .ok → status ≠ .adjusted →
        result = none ∧ t = { s with msu := { s.msu with replies := s.msu.replies ++ [⟨kind, tag, status, none⟩] } })) ∧
    (s.takes = false → exec c s = .next s)

/-- R6, R7 and 11, sections 11.1 and 11.2: taking the record of a command row is the row. -/
def Obligations.RecordsRunTheirRows : Prop :=
  ∀ (flags : Byte) (c : Instr) (bytes : List Byte) (rest : List (List Byte)) (s : State),
    recordOf flags c = some bytes → c.wellFormed = true → s.takes = true → s.msu.commands = bytes :: rest →
    exec .takeCommand s = exec c { s with msu := { s.msu with commands := rest } }

/-- R6, R7: a record that is too short or not a command is discarded; an unknown kind and a wrong length are answered. -/
def Obligations.FramingChecks : Prop :=
  ∀ (bytes : List Byte) (rest : List (List Byte)) (s : State), s.takes = true → s.msu.commands = bytes :: rest →
    (bytes.length < 6 ∨ bytes.head? ≠ some 1 →
      exec .takeCommand s = .next { s with msu := { s.msu with commands := rest } }) ∧
    (∀ (kind tag flags low high : Byte) (payload : List Byte), bytes = [1, kind, tag, flags, low, high] ++ payload →
      (payloadSizes kind = none →
        exec .takeCommand s = .next { s with msu := { s.msu with
          commands := rest, replies := s.msu.replies ++ [⟨kind, tag, .unknownKind, none⟩] } }) ∧
      (∀ least most, payloadSizes kind = some (least, most) →
        (half low high).toNat ≠ payload.length ∨ payload.length < least ∨ most < payload.length →
        exec .takeCommand s = .next { s with msu := { s.msu with
          commands := rest, replies := s.msu.replies ++ [⟨kind, tag, .badLength, none⟩] } }))

/-- R10, R11: a notice matches a queued one by the table of R11. It is dropped by the mask, or takes the place of a matching
one, or is lost and sets the gap flag, or is appended with the gap flag's value. -/
def Obligations.NoticeQueueing : Prop :=
  (∀ new queued : NoticeBody, new.coalesces queued = true ↔
    (∃ a b entries others, new = .meterReport a entries ∧ queued = .meterReport b others) ∨
    (∃ id a b c d e f, new = .streamSlip id a b c ∧ queued = .streamSlip id d e f) ∨
    (∃ m n e f, new = .event m .notifyLatest e ∧ queued = .event n .notifyLatest f ∧ e.control = f.control)) ∧
  ∀ (b : NoticeBody) (s : State), s.phase ≠ .resetting →
    KeepsBut [.records] s (notify b s) ∧
    (b.code ≠ 0 → s.msu.mask.getLsbD b.code = true → notify b s = s) ∧
    ((b.code = 0 ∨ s.msu.mask.getLsbD b.code = false) →
      (∀ before q after, s.msu.notices = before ++ q :: after → b.coalesces q.body = true →
        (∀ x ∈ before, b.coalesces x.body = false) →
        (notify b s).msu.notices = before ++ ⟨q.gap, b⟩ :: after ∧ (notify b s).msu.gap = s.msu.gap) ∧
      ((∀ x ∈ s.msu.notices, b.coalesces x.body = false) →
        (64 ≤ s.msu.notices.length → (notify b s).msu.notices = s.msu.notices ∧ (notify b s).msu.gap = true) ∧
        (s.msu.notices.length < 64 →
          (notify b s).msu.notices = s.msu.notices ++ [⟨s.msu.gap, b⟩] ∧ (notify b s).msu.gap = false)))

/-- R12, R13, R19, R20: IDENTIFY reports and changes no other state than the reply queue; NOTICE_MASK and LAMP_SET replace what
they set, and each lamp line at once shows the state of its new condition. A lamp line is lit exactly while its condition holds,
by the table of R19, and one of CLOCK_GOOD and CLOCK_ALARM is lit at any time. -/
def Obligations.MsuCommands : Prop :=
  (∀ s : State, s.lampA = s.lampLit s.msu.lampA ∧ s.lampB = s.lampLit s.msu.lampB ∧
    s.lampLit .off = false ∧
    (s.lampLit .clockGood = true ↔ s.cku.clock = .free ∨ s.cku.clock = .locked) ∧
    (s.lampLit .clockAlarm = true ↔ s.cku.clock = .switching ∨ s.cku.clock = .holdover) ∧
    (s.lampLit .clockGood = true ↔ s.lampLit .clockAlarm = false) ∧
    (s.lampLit .anyClip = true ↔ ∃ x ∈ s.rme.slots, x.clip = true) ∧
    (s.lampLit .streamActive = true ↔ s.stu.playback.state = .running ∨ s.stu.capture.state = .running) ∧
    (s.lampLit .surfaceAlarm = true ↔ s.sbc.bus = .fault ∨ ∃ e ∈ s.mtb.entries, e.state = .suspect ∨ e.state = .silent) ∧
    (s.lampLit .faderAlarm = true ↔ ∃ f ∈ s.fsv.channels, f.state = .fault ∨ f.state = .stalled)) ∧
  ∀ (tag lampA lampB : Byte) (mask : Half) (s : State), s.takes = true →
    exec (.identify tag) s = .next (queueReply ⟨0x01, tag, .ok, some (.identity 4820 1 s.msu.cause s.cku.counter
      s.msu.mask s.msu.lampA s.msu.lampB s.msu.notices.length s.msu.gap)⟩ s) ∧
    exec (.noticeMask tag mask) s = .next (
      if 8192 ≤ mask.toNat then queueReply ⟨0x03, tag, .outOfRange, none⟩ s
      else queueReply ⟨0x03, tag, if mask.getLsbD 0 then .adjusted else .ok, some (.mask (mask &&& 0xFFFE))⟩
        { s with msu := { s.msu with mask := mask &&& 0xFFFE } }) ∧
    (∀ a b, lampOf lampA = some a → lampOf lampB = some b →
      let t := queueReply ⟨0x04, tag, .ok, none⟩ { s with msu := { s.msu with lampA := a, lampB := b } }
      exec (.lampSet tag lampA lampB) s = .next t ∧ t.lampA = s.lampLit a ∧ t.lampB = s.lampLit b) ∧
    (7 ≤ lampA.toNat ∨ 7 ≤ lampB.toNat →
      exec (.lampSet tag lampA lampB) s = .next (queueReply ⟨0x04, tag, .outOfRange, none⟩ s))

/-! ## Studio clock (02) -/

/-- R29, R30, R31, R33, R37, R38, R39, R45, R56, R62, R67: lock, unlock, the settle timer and the holdover timer act in the
clock states that wait for them, and are disregarded in the others. A lock timer that expires in a switch charges its target
64, and then the clock switches afresh to a source that is usable, or holds over in FIXED. A clock that comes to LOCKED or
FREE recentres a RUNNING playback stream; one that comes to SWITCHING or HOLDOVER sets the capture latch (ms timers, log 7;
the latch at every such event, log 17). -/
def Obligations.ClockEvents : Prop :=
  (∀ s : State,
    (∃ t, exec .synthesiserLock s = .next t ∧
      if s.cku.clock = .switching ∧ s.cku.source ≠ .internal then
        Safety.clockBecomes { s.cku with clock := .locked, lockTimer := none, fallback := .none } .lockAcquired s t
      else t = s) ∧
    (∃ t, exec .synthesiserUnlock s = .next t ∧
      if s.cku.clock = .locked ∧ s.cku.source ≠ .internal then
        Safety.clockBecomes { s.cku with
          sources := s.cku.sources.set (sourceCode s.cku.source) { s.cku.record s.cku.source with unlock := true }
          clock := .switching, lockTimer := some 50, settleTimer := none, holdoverTimer := none } .unlock s t
      else s.cku.clock ≠ .locked → t = s) ∧
    (∃ t, exec .settleTimerExpiry s = .next t ∧
      if s.cku.clock = .switching ∧ s.cku.source = .internal ∧ s.cku.settleTimer.isSome = true then
        Safety.clockBecomes { s.cku with clock := .free, settleTimer := none } .settled s t
      else t = s) ∧
    (∃ t, exec .holdoverTimerExpiry s = .next t ∧
      if s.cku.clock = .holdover ∧ s.cku.holdoverTimer.isSome = true then
        Safety.clockBecomes { s.cku with
          clock := .switching, source := .internal, fallback := .holdoverExpired, lockTimer := none
          settleTimer := some 2, holdoverTimer := none } .holdoverExpired s t
      else t = s)) ∧
  ∀ s : State, ClockSound s.cku → ∃ t, exec .lockTimerExpiry s = .next t ∧ KeepsBut Safety.clockParts s t ∧
    (s.cku.lockTimer = none → t = s) ∧
    (s.cku.lockTimer ≠ none → Safety.streamsFollow .switching s t ∧
      (t.cku.record s.cku.source).quality = min 255 ((s.cku.record s.cku.source).quality + 64) ∧
      (∀ x ∈ externalSources, x ≠ s.cku.source → t.cku.record x = s.cku.record x) ∧
      (t.cku.usable s.cku.source = true ∧ s.cku.mode = .fixed →
        t.cku.clock = .switching ∧ t.cku.source = s.cku.source ∧ t.cku.lockTimer = some 50) ∧
      (t.cku.usable s.cku.source = false ∧ s.cku.mode = .fixed →
        t.cku.clock = .holdover ∧ t.cku.source = s.cku.source ∧ t.cku.holdoverTimer = some 10000) ∧
      (s.cku.mode = .auto → s.cku.priority.find? t.cku.usable = some t.cku.source ∧ Safety.switchedTo t.cku.source t.cku ∧
        t.cku.fallback = .none))

/-- R22, R24, R25, R26, R34, R35, R36, R37, R41: a judged check period judges every present external source and clears its
edge count; an unjudged one changes no count or state. The clock then moves as AUTO or FIXED says, and ends on a usable
source in AUTO. An edge of a present source is counted, up to 255 (before the end of initialisation no period is judged, log
10; the bound of 255, log 28). LINK has an edge only while the link reference has one still to come in its service interval
(log 51). -/
def Obligations.CheckPeriods : Prop :=
  ∀ s : State, s.phase = .running → ClockSound s.cku →
    (∃ t, exec .checkPeriodEnd s = .next t ∧ KeepsBut Safety.clockParts s t ∧ t.cku.unjudged = false ∧
      (∀ x ∈ externalSources, (t.cku.record x).edges = 0 ∧ (t.cku.record x).unlock = false ∧
        (s.cku.unjudged = true → (t.cku.record x).standing = (s.cku.record x).standing ∧
          (t.cku.record x).quality = (s.cku.record x).quality ∧ (t.cku.record x).revert = (s.cku.record x).revert) ∧
        (s.cku.unjudged = false → s.present x = true →
          ((t.cku.record x).standing, (t.cku.record x).quality) = Safety.judgedRecord s.cku.rate (s.cku.record x) ∧
          (t.cku.record x).lastEdges = (s.cku.record x).edges ∧
          (t.cku.record x).revert =
            if (t.cku.record x).standing = .good then min 500 ((s.cku.record x).revert + 1) else 0) ∧
        (s.cku.unjudged = false → s.present x = false →
          (t.cku.record x).standing = (s.cku.record x).standing ∧ (t.cku.record x).revert = 0)) ∧
      t.cku.rate = s.cku.rate ∧ t.cku.priority = s.cku.priority ∧ t.cku.mode = s.cku.mode ∧
      t.cku.fixedSource = s.cku.fixedSource ∧ t.cku.revert = s.cku.revert ∧ t.cku.counter = s.cku.counter ∧
      (s.cku.mode = .auto → t.cku.usable t.cku.source = true ∧ Safety.autoPeriod s t) ∧
      (s.cku.mode = .fixed → Safety.fixedPeriod s t)) ∧
    (∀ x ∈ externalSources, ∃ t, exec (.sourceEdge x) s = .next t ∧
      (x = .link → s.lif.reference.due = 0 → t = s) ∧
      (x ≠ .link ∨ 0 < s.lif.reference.due → KeepsBut [.cku, .reference] s t ∧
        t.lif.reference = (if x = .link then ⟨s.lif.reference.due - 1, s.lif.reference.fraction⟩ else s.lif.reference) ∧
        (s.present x = false → t.cku = s.cku) ∧
        (s.present x = true →
          t.cku = s.cku.putRec x { s.cku.record x with edges := min 255 ((s.cku.record x).edges + 1) })))

/-- R27, R34, R37, R38, R40, R43: CLOCK_SET_SOURCES is refused for a code out of range, then for a source named twice;
accepted, it stores the list with INTERNAL, the mode, the fixed source and revert, and selects: in AUTO the first usable
source of the list; in FIXED the fixed source, HOLDOVER on it, or INTERNAL with the fallback reason, by the table. A switch
raises its notice. -/
def Obligations.ClockSetSources : Prop :=
  ∀ (tag mode fixed revert : Byte) (list : List Byte) (s : State), s.takes = true →
    1 ≤ list.length → list.length ≤ 7 →
    ((clockModeOf mode = none ∨ sourceOf fixed = none ∨ flagOf revert = none ∨ ∃ b ∈ list, sourceOf b = none) →
      exec (.clockSetSources tag mode fixed revert list) s = .next (queueReply ⟨0x11, tag, .outOfRange, none⟩ s)) ∧
    (∀ m x r xs, clockModeOf mode = some m → sourceOf fixed = some x → flagOf revert = some r →
      list.map sourceOf = xs.map some →
      (¬ xs.Nodup →
        exec (.clockSetSources tag mode fixed revert list) s = .next (queueReply ⟨0x11, tag, .inUse, none⟩ s)) ∧
      (xs.Nodup → ∃ t, exec (.clockSetSources tag mode fixed revert list) s = .next t ∧
        t.cku.priority = (if ClockSource.internal ∈ xs then xs else xs ++ [.internal]) ∧
        t.cku.mode = m ∧ t.cku.fixedSource = x ∧ t.cku.revert = r ∧ t.cku.sources = s.cku.sources ∧
        (m = .auto → ClockSound s.cku → t.cku.priority.find? s.cku.usable = some t.cku.source ∧
          Safety.selectedAuto t.cku.source s t) ∧
        (m = .fixed → Safety.selectedFixed x s t) ∧
        (t.cku.clock = .switching → ¬ Safety.timersKept s t → Safety.HasRoom 5 s → s.ptu.length = 4 →
          Safety.Heard (.clockState .switching t.cku.source s.cku.rate t.cku.fallback .settings) t) ∧
        Answered 0x11 tag .ok (some (.sources t.cku.priority m x r t.cku.clock t.cku.source)) s t ∧
        KeepsBut (.replies :: Safety.clockParts) s t))

/-- R41, R68, R90, R119: a new rate disqualifies every external source, switches to INTERNAL afresh, empties the streams
under the new limits, restarts or stops the ports and finishes every ramp. The counter runs on. That the mark of an unjudged
period is set before the first period too is the model's choice (log 55). -/
def Obligations.ClockSetRate : Prop :=
  ∀ (tag rate : Byte) (s : State), s.takes = true → s.cku.sources.length = 7 → s.ptu.length = 4 →
    (6 ≤ rate.toNat → exec (.clockSetRate tag rate) s = .next (queueReply ⟨0x10, tag, .outOfRange, none⟩ s)) ∧
    (∀ r, rateOf rate = some r →
      (r = s.cku.rate → exec (.clockSetRate tag rate) s = .next (queueReply ⟨0x10, tag, .ok, some (.rate r)⟩ s)) ∧
      (r ≠ s.cku.rate → ∃ t, exec (.clockSetRate tag rate) s = .next t ∧
        Answered 0x10 tag .ok (some (.rate r)) s t ∧ KeepsBut (.replies :: Safety.clockParts) s t ∧
        t.cku.rate = r ∧ t.cku.clock = .switching ∧ t.cku.source = .internal ∧ t.cku.settleTimer = some 2 ∧
        t.cku.lockTimer = none ∧ t.cku.holdoverTimer = none ∧ t.cku.unjudged = true ∧ t.cku.counter = s.cku.counter ∧
        (∀ x ∈ externalSources, (t.cku.record x).revert = 0 ∧
          (if (s.cku.record x).standing = .absent then (t.cku.record x).standing = .absent
           else (t.cku.record x).standing = .unusable ∧ (t.cku.record x).quality = 128)) ∧
        t.stu.playback.buffer = [] ∧ t.stu.capture.buffer = [] ∧ t.stu.ring = [] ∧ t.stu.lastReport = r.nominal ∧
        t.stu.playback.effective = min s.stu.playback.configured r.maxChannels ∧
        t.stu.playback.depth = max s.stu.playback.depth r.minDepth ∧
        t.stu.playback.state = (if s.stu.playback.state = .running then .priming else s.stu.playback.state) ∧
        t.stu.capture.effective = min s.stu.capture.configured r.maxChannels ∧
        t.stu.capture.depth = max s.stu.capture.depth r.minDepth ∧ t.stu.capture.state = s.stu.capture.state ∧
        t.ptu.map (fun p => p.state) = s.ptu.map (Safety.portAfterRate r) ∧
        t.rme.frameCount = 0 ∧ (∀ q ∈ t.rme.routes, q.level.ramp = none ∧ q.state ≠ .releasing) ∧
        (∀ l ∈ t.rme.buses, l.ramp = none) ∧ t.rme.rampLength = s.rme.rampLength))

/-! ## Host streams (03) -/

/-- R23, R48, R49, R50: STREAM_CONFIG is checked for ranges, then for IDLE, then for the family's limits, and sets one
stream. STREAM_START is refused out of IDLE and out of CONFIGURED; else the stream leaves IDLE with its counts at 0.
STREAM_STOP leaves an IDLE stream alone; another goes to IDLE, empty, with its counts kept, and LINK becomes ABSENT when
no stream is left running. The head stamp of an IDLE capture stream is the model's choice (log 29). -/
def Obligations.StreamCommands : Prop :=
  ∀ (tag selector channels : Byte) (depth : Half) (s : State), s.takes = true →
    (streamOf selector = none ∨ depthOf depth = none ∨ channels.toNat = 0 ∨ 32 < channels.toNat →
      exec (.streamConfig tag selector channels depth) s = .next (queueReply ⟨0x18, tag, .outOfRange, none⟩ s)) ∧
    ∀ id, streamOf selector = some id →
    (∀ d, depthOf depth = some d → 1 ≤ channels.toNat → channels.toNat ≤ 32 →
      exec (.streamConfig tag selector channels depth) s = .next (
        if s.stu.state id ≠ .idle then queueReply ⟨0x18, tag, .wrongState, none⟩ s
        else if s.cku.rate.maxChannels < channels.toNat ∨ d < s.cku.rate.minDepth then
          queueReply ⟨0x18, tag, .outOfRange, none⟩ s
        else queueReply ⟨0x18, tag, .ok, some (.streamConfig id channels.toNat channels.toNat d)⟩
          (match id with
           | .playback => { s with stu := { s.stu with playback := { s.stu.playback with
               configured := channels.toNat, effective := channels.toNat, depth := d } } }
           | .capture => { s with stu := { s.stu with capture := { s.stu.capture with
               configured := channels.toNat, effective := channels.toNat, depth := d } } }))) ∧
    (s.stu.state id ≠ .idle ∨ s.lif.link ≠ .configured →
      exec (.streamStart tag selector) s = .next (queueReply ⟨0x19, tag, .wrongState, none⟩ s)) ∧
    (s.stu.state id = .idle → s.lif.link = .configured →
      ∃ t, exec (.streamStart tag selector) s = .next t ∧ Answered 0x19 tag .ok none s t ∧
        KeepsBut [.replies, .records, .stu] s t ∧ t.stu.ring = s.stu.ring ∧ t.stu.lastReport = s.stu.lastReport ∧
        (id = .playback → t.stu.capture = s.stu.capture ∧ t.stu.playback = { s.stu.playback with
          state := .priming, buffer := [], arrivals := [], unlisted := 0, repeatRun := 0
          lastFrame := List.replicate s.stu.playback.effective 0, underruns := 0, overruns := 0, malformed := 0
          recentres := 0, lastResidence := 0, maxResidence := 0 }) ∧
        (id = .capture → t.stu.playback = s.stu.playback ∧ t.stu.capture = { s.stu.capture with
          state := .running, buffer := [], headStamp := s.cku.counter + 1, underruns := 0, overruns := 0
          slipFlag := false
          unsteady := s.cku.clock == .switching || s.cku.clock == .holdover })) ∧
    (s.stu.state id = .idle → exec (.streamStop tag selector) s = .next (queueReply ⟨0x1A, tag, .ok, none⟩ s)) ∧
    (s.stu.state id ≠ .idle → s.cku.sources.length = 7 →
      ∃ t, exec (.streamStop tag selector) s = .next t ∧ Answered 0x1A tag .ok none s t ∧
      KeepsBut (.replies :: Safety.clockParts) s t ∧ t.stu.state id = .idle ∧
      (id = .playback → t.stu.playback = { s.stu.playback with
        state := .idle, buffer := [], arrivals := [], unlisted := 0 } ∧
        t.stu.capture = { s.stu.capture with unsteady := t.stu.capture.unsteady } ∧
        (t.stu.active = true → t.stu.capture = s.stu.capture)) ∧
      t.stu.ring = s.stu.ring ∧ t.stu.lastReport = s.stu.lastReport ∧
      (id = .capture → t.stu.playback = s.stu.playback ∧ t.stu.capture = { s.stu.capture with
        state := .idle, buffer := [], headStamp := s.cku.counter + 1, unsteady := t.stu.capture.unsteady }) ∧
      (t.stu.active = false → s.lif.link = .configured → (t.cku.record .link).standing = .absent) ∧
      (t.stu.active = true → KeepsBut [.replies, .records, .stu] s t))

/-- R3, R52, R53, R54, R55, R56: a playback packet is discarded in IDLE; a wrong size counts as malformed; frames are appended,
the oldest leave when the depth is passed, each an overrun slip, with one STREAM_SLIP of the counts after the event; a priming
stream that reaches its target runs, with STREAM_STATE for PRIMED. No other notice is handed over. -/
def Obligations.PlaybackPackets : Prop :=
  ∀ (bytes : List Byte) (s : State), s.lif.link = .configured → PlaybackSound s.cku.rate s.stu.playback →
    let p := s.stu.playback
    let n := bytes.length / (4 * p.effective)
    (p.state = .idle → exec (.playbackPacket bytes) s = .next s) ∧
    (p.state ≠ .idle → bytes.length % (4 * p.effective) ≠ 0 ∨ s.cku.rate.maxFrames < n →
      exec (.playbackPacket bytes) s = .next { s with stu := { s.stu with
        playback := { p with malformed := min 65535 (p.malformed + 1) } } }) ∧
    (p.state ≠ .idle → bytes.length % (4 * p.effective) = 0 → n ≤ s.cku.rate.maxFrames →
      ∃ t, exec (.playbackPacket bytes) s = .next t ∧ KeepsBut [.stu, .records] s t ∧
        (let u := { s with stu := t.stu }
         let v := if p.depth < p.buffer.length + n then
           notify (.streamSlip .playback p.underruns t.stu.playback.overruns (s.cku.counter.setWidth 32)) u else u
         t = if p.state = .priming ∧ p.depth / 2 ≤ p.buffer.length + n then
           notify (.streamState .playback .priming .running .primed false false p.effective p.depth) v else v) ∧
        t.stu.capture = s.stu.capture ∧ t.stu.ring = s.stu.ring ∧
        t.stu.playback.buffer =
          (p.buffer ++ framesOf p.effective n (samplesOf bytes)).drop (p.buffer.length + n - p.depth) ∧
        t.stu.playback.overruns = min 65535 (p.overruns + (p.buffer.length + n - p.depth)) ∧
        t.stu.playback.malformed = p.malformed ∧ t.stu.playback.underruns = p.underruns ∧
        t.stu.playback.state =
          (if p.state = .priming ∧ p.depth / 2 ≤ p.buffer.length + n then .running else p.state) ∧
        (0 < n → t.stu.playback.arrivals.getLast? = some ⟨s.cku.counter, n⟩))

/-- R57 and R58: a draw in RUNNING takes the oldest frame, or repeats the last one as an underrun, and the sixteenth
repeat in a row starves the stream. -/
def Obligations.PlaybackDraws : Prop :=
  ∀ (p : Playback) (counter : Stamp), p.state = .running →
    (∀ f rest, p.buffer = f :: rest → ∃ q, p.draw counter = (q, some f, []) ∧
      q.buffer = rest ∧ q.lastFrame = f ∧ q.repeatRun = 0 ∧ q.state = .running ∧ q.underruns = p.underruns ∧
      (0 < p.unlisted → q.unlisted = p.unlisted - 1 ∧ q.arrivals = p.arrivals ∧ q.lastResidence = p.lastResidence ∧
        q.maxResidence = p.maxResidence) ∧
      (p.unlisted = 0 → ∀ a others, p.arrivals = a :: others →
        q.arrivals = others ∧ q.unlisted = a.count - 1 ∧
        q.lastResidence = min 4294967295 (counter - a.stamp).toNat ∧
        q.maxResidence = max p.maxResidence q.lastResidence)) ∧
    (p.buffer = [] → ∃ q, p.draw counter = (q, some p.lastFrame,
        .streamSlip .playback q.underruns q.overruns (counter.setWidth 32) ::
          if p.repeatRun < 15 then [] else
            [.streamState .playback .running .priming .starved false false p.effective p.depth]) ∧
      q = { p with
        underruns := min 65535 (p.underruns + 1)
        repeatRun := if p.repeatRun < 15 then p.repeatRun + 1 else 0
        state := if p.repeatRun < 15 then .running else .priming })

/-- R3, R22, R61, R62, R203, R64, R65, R66: a capture packet carries the oldest frames with the head stamp and the two flags,
and moves the head stamp on. A service-interval start adds the counter to the ring of at most 128 and stores
B + E × 1024 within the bounds of R63; the rate-report pipe sends what is stored (logs 11, 17 and 32). It also gives the link
reference rate/8000 edges on average, by carrying what is less than an edge to the next interval; edges of the last interval
that have not come are counted then, while LINK is present (log 51), up to 255 (log 28), and before the end of initialisation
none is counted (log 10). -/
def Obligations.CaptureAndReports : Prop :=
  (∀ s : State, s.lif.link = .configured →
    let c := s.stu.capture
    let n := min c.buffer.length s.cku.rate.maxFrames
    exec .capturePacketRequest s = .next { s with
      lif := { s.lif with answer := .capture (leBytes 6 c.headStamp.toNat ++
        [BitVec.ofNat 8 n, (if c.unsteady then 2 else 0) + (if c.slipFlag then 1 else 0)] ++
        ((c.buffer.take n).map (fun f => (f.map containerOf).flatten)).flatten) }
      stu := { s.stu with capture := { c with
        buffer := c.buffer.drop n, headStamp := c.headStamp + BitVec.ofNat 48 n, slipFlag := false
        unsteady := c.unsteady && (s.cku.clock == .switching || s.cku.clock == .holdover) } } }) ∧
  ∀ s : State,
    (∃ t, exec .serviceIntervalStart s = .next t ∧ KeepsBut [.stu, .cku, .reference] s t ∧
      t.cku = (if s.phase = .running ∧ s.present .link = true then s.cku.putRec .link { s.cku.record .link with
        edges := min 255 ((s.cku.record .link).edges + s.lif.reference.due) } else s.cku) ∧
      8000 * t.lif.reference.due + t.lif.reference.fraction = s.lif.reference.fraction + s.cku.rate.hertz ∧
      t.lif.reference.fraction < 8000 ∧ t.stu.playback = s.stu.playback ∧
      t.stu.capture = s.stu.capture ∧
      t.stu.ring = s.stu.ring.drop (if 128 ≤ s.stu.ring.length then 1 else 0) ++ [s.cku.counter] ∧
      ∃ b e : Int,
        (s.stu.ring.length < 128 → b = s.cku.rate.nominal) ∧
        (∀ oldest rest, s.stu.ring = oldest :: rest → 128 ≤ s.stu.ring.length →
          b = (s.cku.counter - oldest).toNat * 512) ∧
        (s.stu.playback.state ≠ .running → e = 0) ∧
        (s.stu.playback.state = .running →
          e = max (-8) (min 8 (((s.stu.playback.depth / 2 : Nat) : Int) - s.stu.playback.buffer.length))) ∧
        (t.stu.lastReport : Int) = max ((s.cku.rate.nominal - s.cku.rate.nominal / 64 : Nat) : Int)
          (min ((s.cku.rate.nominal + s.cku.rate.nominal / 64 : Nat) : Int) (b + e * 1024))) ∧
    (s.lif.link = .configured →
      exec .rateReportSend s = .next { s with lif := { s.lif with answer := .rateReport s.stu.lastReport } })

/-! ## Converter ports (04) -/

/-- R23, R77, R81, R82, R83, R84: the port commands, with their refusals in order. A port that goes from FOLLOW to DRIVE loses
its source, one that stops keeps it. That its slip counts stand until PORT_START is the model's choice (R81 against R86, log
53), and so is that PORT_STOP cuts a link frame under way while the other port commands
leave it (log 56). -/
def Obligations.PortCommands : Prop :=
  ∀ (tag port mode slots mute : Byte) (i : Nat) (s : State), s.takes = true → s.ptu.length = 4 →
    indexBelow 4 port = some i →
    (∀ m n, portModeOf mode = some m → slotsOf slots = some n →
      ((s.port i).state ≠ .off → (s.port i).state ≠ .conflict →
        exec (.portConfig tag port mode slots) s = .next (queueReply ⟨0x20, tag, .wrongState, none⟩ s)) ∧
      ((s.port i).state = .off ∨ (s.port i).state = .conflict → s.cku.rate.maxSlots < n →
        exec (.portConfig tag port mode slots) s = .next (queueReply ⟨0x20, tag, .outOfRange, none⟩ s)) ∧
      ((s.port i).state = .off → n ≤ s.cku.rate.maxSlots → ((s.port i).mode = .drive ∨ m = .follow) →
        ∃ t, exec (.portConfig tag port mode slots) s = .next t ∧ Answered 0x20 tag .ok (some (.portConfig m n)) s t ∧
          Safety.portBecomes i { s.port i with mode := m, slots := n } s t) ∧
      ((s.port i).state = .conflict → n ≤ s.cku.rate.maxSlots →
        ∃ t, exec (.portConfig tag port mode slots) s = .next t ∧ Answered 0x20 tag .ok (some (.portConfig m n)) s t ∧
          (t.port i).state = .starting ∧ (t.port i).mode = m ∧ (t.port i).slots = n) ∧
      ((s.port i).state = .conflict → n ≤ s.cku.rate.maxSlots → ((s.port i).mode = .drive ∨ m = .follow) →
        let q := { s.port i with mode := m, slots := n }
        ∃ t, exec (.portConfig tag port mode slots) s = .next t ∧ Answered 0x20 tag .ok (some (.portConfig m n)) s t ∧
          Safety.portBecomes i { q with
            state := .starting, settle := 0, inBuf := [], outBuf := []
            resetTimer := if q.startOk s.cku.clock (ownStanding s.cku i) then some 1 else none } s t ∧
          (Safety.HasRoom 1 s → Safety.Heard (.portState i .conflict .starting .configured m n) t)) ∧
      (∀ p : Fin 4, p.val = i → (s.port i).state = .off ∨ (s.port i).state = .conflict → n ≤ s.cku.rate.maxSlots →
        (s.port i).mode = .follow → m = .drive → ClockSound s.cku →
        ∃ t, exec (.portConfig tag port mode slots) s = .next t ∧ Answered 0x20 tag .ok (some (.portConfig m n)) s t ∧
          KeepsBut (.replies :: Safety.clockParts) s t ∧ Safety.losesSource (.port p) s t ∧
          t.port i = (
            if (s.port i).state = .off then { s.port i with mode := m, slots := n }
            else { s.port i with
              mode := m, slots := n, state := .starting, settle := 0, inBuf := [], outBuf := []
              resetTimer := if t.cku.clock = .free ∨ t.cku.clock = .locked then some 1 else none }) ∧
          (s.cku.source ≠ .port p → t.ptu = s.ptu.set i (t.port i)) ∧ t.present (.port p) = false)) ∧
    ((s.port i).state ≠ .off →
      exec (.portStart tag port) s = .next (queueReply ⟨0x21, tag, .wrongState, none⟩ s)) ∧
    ((s.port i).state = .off → s.cku.rate.maxSlots < (s.port i).slots →
      exec (.portStart tag port) s = .next (queueReply ⟨0x21, tag, .outOfRange, none⟩ s)) ∧
    ((s.port i).state = .off → (s.port i).slots ≤ s.cku.rate.maxSlots →
      ∃ t, exec (.portStart tag port) s = .next t ∧ Answered 0x21 tag .ok none s t ∧
        Safety.portBecomes i { s.port i with
          state := .starting, underSlips := 0, overSlips := 0, inBuf := [], outBuf := [], settle := 0
          resetTimer := if (s.port i).startOk s.cku.clock (ownStanding s.cku i) then some 1 else none } s t) ∧
    ((s.port i).state = .off → exec (.portStop tag port) s = .next (queueReply ⟨0x22, tag, .ok, none⟩ s)) ∧
    ((s.port i).state ≠ .off → ∃ t, exec (.portStop tag port) s = .next t ∧ Answered 0x22 tag .ok none s t ∧
      Safety.portBecomes i { s.port i with
        state := .off, resetTimer := none, settle := 0, inBuf := [], outBuf := [], line := none } s t ∧
      ∀ x, t.present x = s.present x) ∧
    (∀ b, flagOf mute = some b → ∃ t, exec (.portMute tag port mute) s = .next t ∧
      Answered 0x23 tag .ok (some (.portMute b)) s t ∧ Safety.portBecomes i { s.port i with mute := b } s t ∧
      t.msu.notices = s.msu.notices)

/-- R74, R75, R77, R78, R84, R86, R87, R88, R89: the timers and the frames of a port. A DRIVE port keeps an input frame only
while RUNNING. The model's choices: the reset timer and the settle count end at the word of their own rows (logs 7 and 4), and at
the end of the settle count a DRIVE port has no input frame yet (log 39) and a link frame under way runs on (log 56); a DRIVE
port's output frames begin at the studio frame and PORT_OUTPUT_FRAME_BEGIN does nothing to it (log 14); a muted port keeps its
last output frame unzeroed (log 15); a slot that the row does not give is 0 (log 23). A link frame is its slots in ascending
order without gaps, each 32 bits most significant first; the frame clock marks the first bit of slot 0 (that the mark is one bit long, log 48). -/
def Obligations.PortEvents : Prop :=
  ∀ (i : Fin 4) (slots : List Slot) (level : Bool) (s : State), s.ptu.length = 4 →
    let p := s.port i
    let f := (List.range p.slots).map (fun k => (slots.map sampleOfSlot).getD k 0)
    (p.state = .starting → p.resetTimer.isSome = true → ∃ t, exec (.portResetTimerExpiry i) s = .next t ∧
      (t.port i).state = .settling ∧ (t.port i).settle = 256 ∧ (t.port i).resetTimer = none ∧
      (p.mode = .follow → (t.port i).inBuf = List.replicate 4 (List.replicate p.slots 0) ∧
        (t.port i).outBuf = (t.port i).inBuf) ∧ KeepsBut [.ptu, .rme, .records] s t) ∧
    (p.state = .settling → ∃ t, exec (.portSettleCountEnd i) s = .next t ∧
      Safety.portBecomes i { p with state := .running, settle := 0, driveIn := none } s t) ∧
    (∃ t, exec (.portInputFrameComplete i slots) s = .next t ∧ Safety.portBecomes i (t.port i) s t ∧
      (p.retimes = true → t.port i = { p with
        inBuf := (p.inBuf ++ [f]).drop (if 8 ≤ p.inBuf.length then 1 else 0)
        overSlips := if 8 ≤ p.inBuf.length then min 65535 (p.overSlips + 1) else p.overSlips }) ∧
      (p.mode = .drive → p.state = .running → t.port i = { p with driveIn := some f }) ∧
      (p.retimes = false → p.mode = .follow ∨ p.state ≠ .running → t.port i = p)) ∧
    (∃ t, exec (.portOutputFrameBegin i) s = .next t ∧ Safety.portBecomes i (t.port i) s t ∧
      (p.retimes = true → t.port i = { p with
        outBuf := p.outBuf.drop 1, lastOut := p.outBuf.head?.getD p.lastOut
        underSlips := if p.outBuf = [] then min 65535 (p.underSlips + 1) else p.underSlips
        line := some (if p.mute then List.replicate p.slots 0
          else (p.outBuf.head?.getD p.lastOut).map slotOfSample) }) ∧
      (p.mode = .follow → p.state = .off ∨ p.state = .conflict → t.port i = { p with line := none }) ∧
      (p.mode = .follow → p.state = .starting ∨ p.state = .held →
        t.port i = { p with line := some (List.replicate p.slots 0) }) ∧
      (p.mode = .drive → t.port i = p)) ∧
    (∃ t, exec (.overloadLineChange i level) s = .next t ∧ Safety.portBecomes i { p with overload := level } s t ∧
      t.msu = s.msu) ∧
    (linkBits slots).length = 32 * slots.length ∧ slotsOfLine slots.length (linkBits slots) = slots ∧
    ∀ n w bit, slots[n]? = some w → bit < 32 → p.line = some slots →
      p.lineBit (32 * n + bit) = some (w.getLsbD (31 - bit)) ∧
      (p.drivesClocks = true → slots.length = p.slots → p.frameClock (32 * n + bit) = some (decide (n = 0 ∧ bit = 0)) ∧
        ∀ rate : Rate, p.drivenBitClock rate = some (32 * p.slots * rate.hertz))

/-! ## Route table and mix buses (05) -/

/-- R91, R94, R97, R98: ROUTE_ADD without REPLACE is checked in order and takes the FREE entry with the lowest id, which
fades in from 0 over the global ramp length. -/
def Obligations.RouteAdd : Prop :=
  ∀ (tag flags : Byte) (source destination : PointCode) (gain : Half) (src dst : Point) (g : Gain) (mute invert : Bool)
    (s : State), s.takes = true → sourcePointOf source = some src → destPointOf destination = some dst →
    gainOf gain = some g → routeFlagsOf flags = some (mute, invert, false) →
    let lane := fun (r : Route) => r.state = .active ∧ r.inLane src dst = true
    (badOrder src dst = true →
      exec (.routeAdd tag source destination gain flags) s = .next (queueReply ⟨0x28, tag, .badOrder, none⟩ s)) ∧
    (badOrder src dst = false → (∃ r ∈ s.rme.routes, lane r) →
      exec (.routeAdd tag source destination gain flags) s = .next (queueReply ⟨0x28, tag, .inUse, none⟩ s)) ∧
    (badOrder src dst = false → (∀ r ∈ s.rme.routes, ¬ lane r) → (∀ r ∈ s.rme.routes, r.state ≠ .free) →
      exec (.routeAdd tag source destination gain flags) s = .next (queueReply ⟨0x28, tag, .noRoom, none⟩ s)) ∧
    (badOrder src dst = false → (∀ r ∈ s.rme.routes, ¬ lane r) → ∀ before old after,
      s.rme.routes = before ++ old :: after → (∀ r ∈ before, r.state ≠ .free) → old.state = .free →
      exec (.routeAdd tag source destination gain flags) s = .next (queueReply
        ⟨0x28, tag, if g.clamped = g then .ok else .adjusted, some (.routeAdded before.length g.clamped)⟩
        { s with rme := { s.rme with routes := before ++ ⟨.active, src, dst, invert,
            if mute = true ∨ g.clamped.coeff = 0 then ⟨g.clamped, mute, 0, none, none⟩
            else if s.rme.rampLength = 0 then ⟨g.clamped, mute, g.clamped.coeff, none, none⟩
            else ⟨g.clamped, mute, 0, some ⟨0, g.clamped.coeff, s.rme.rampLength, 0⟩, none⟩⟩ :: after } }))

/-- R97, R98, R99, R100, R101, R102: with REPLACE, the lane's RELEASING route is cut, its ACTIVE route leaves ACTIVE and loses
its holder and bindings, and the new route takes the FREE entry with the lowest id, which may be one freed so; a lane without
an ACTIVE route takes it as R98 gives. Without an entry that is FREE or becomes so the command is refused. ROUTE_REMOVE goes by
the state of the entry; an ACTIVE route leaves ACTIVE in the same way, held or not. -/
def Obligations.RouteReplaceAndRemove : Prop :=
  (∀ (tag flags : Byte) (source destination : PointCode) (gain : Half) (src dst : Point) (g : Gain) (mute invert : Bool)
    (s : State), s.takes = true → sourcePointOf source = some src → destPointOf destination = some dst →
    gainOf gain = some g → routeFlagsOf flags = some (mute, invert, true) → badOrder src dst = false →
    RoutesSound s.rme →
    let row := Instr.routeAdd tag source destination gain flags
    let status := if g.clamped = g then Status.ok else .adjusted
    let inLane := fun (r : Route) => r.inLane src dst = true
    let new := Safety.newRoute src dst g.clamped mute invert s.rme.rampLength
    let free := ∃ r ∈ s.rme.routes, r.state = .free
    ((∀ r ∈ s.rme.routes, r.state = .active → ¬ inLane r) →
      (¬ free → exec row s = .next (queueReply ⟨0x28, tag, .noRoom, none⟩ s)) ∧
      (∀ id < 128, (s.rme.route id).state = .free → (∀ n < id, (s.rme.route n).state ≠ .free) →
        exec row s = .next (queueReply ⟨0x28, tag, status, some (.routeAdded id g.clamped)⟩
          { s with rme := s.rme.putRoute id new }))) ∧
    (∀ old < 128, (s.rme.route old).state = .active → inLane (s.rme.route old) →
      let room := free ∨ s.rme.rampLength = 0 ∨ ∃ r ∈ s.rme.routes, r.state = .releasing ∧ inLane r
      (¬ room → exec row s = .next (queueReply ⟨0x28, tag, .noRoom, none⟩ s)) ∧
      (room → ∃ t m id, exec row s = .next t ∧ id < 128 ∧ (m.route id).state = .free ∧
        (∀ n < id, (m.route n).state ≠ .free) ∧ Safety.routeLeft old s m t ∧ t.rme = m.putRoute id new ∧
        Answered 0x28 tag status (some (.routeAdded id g.clamped)) s t ∧
        KeepsBut [.replies, .records, .rme, .bdt] s t))) ∧
  ∀ (tag id : Byte) (s : State), s.takes = true →
    (128 ≤ id.toNat → exec (.routeRemove tag id) s = .next (queueReply ⟨0x29, tag, .outOfRange, none⟩ s)) ∧
    (id.toNat < 128 → (s.rme.route id.toNat).state = .free →
      exec (.routeRemove tag id) s = .next (queueReply ⟨0x29, tag, .notFound, none⟩ s)) ∧
    (id.toNat < 128 → (s.rme.route id.toNat).state = .releasing →
      exec (.routeRemove tag id) s = .next (queueReply ⟨0x29, tag, .ok, none⟩ s)) ∧
    (id.toNat < 128 → (s.rme.route id.toNat).state = .active → RoutesSound s.rme →
      ∃ t, exec (.routeRemove tag id) s = .next t ∧ Answered 0x29 tag .ok none s t ∧
        Safety.routeLeft id.toNat s t.rme t ∧ KeepsBut [.replies, .records, .rme, .bdt] s t)

/-- R95, R103, R104, R191: ROUTE_SET_GAIN and ROUTE_SET_MUTE are refused by the entry's state and, for a gain, its holder;
else the set-target rule applies, and no other record changes. The rule sends feedback, in ascending index order, to every
ACTIVE binding with feedback whose target's field has changed, but not to the one that caused the change. A channel
compares with the deadband that the last servo period read (R193, log 42). That the notices of the servo and of the Surface
Output come in that order too is the model's choice (log 54). -/
def Obligations.RouteGainAndMute : Prop :=
  (∀ (x : LevelRef) (gain : Option Gain) (mute : Option Bool) (cause : Option Nat) (s : State),
    let old := s.rme.level x
    let gained := gain.getD old.gain ≠ old.gain
    let muted := mute.getD old.mute ≠ old.mute
    ∃ new, Safety.retargeted (gain.getD old.gain) (mute.getD old.mute) s.rme.rampLength old new ∧
      setTarget x gain mute cause s = (List.range s.bdt.length).foldl (fun u i =>
        let b := s.bdt.getD i Binding.emptyEntry
        if b.state = .active ∧ b.feedback = true ∧ b.target.ref = x ∧
          (if b.target.isGain then gained else muted) ∧ cause ≠ some i
        then sendFeedback b u else u) { s with rme := s.rme.putLevel x new }) ∧
  (∀ (b : Binding) (s : State), Safety.feedbackSent b s (sendFeedback b s)) ∧
  ∀ (tag id mute : Byte) (gain : Half) (g : Gain) (b : Bool) (s : State), s.takes = true → id.toNat < 128 →
    gainOf gain = some g → flagOf mute = some b → s.rme.routes.length = 128 → NothingLeft s →
    let n := id.toNat
    ((s.rme.route n).state = .free →
      exec (.routeSetGain tag id gain) s = .next (queueReply ⟨0x2A, tag, .notFound, none⟩ s) ∧
      exec (.routeSetMute tag id mute) s = .next (queueReply ⟨0x2B, tag, .notFound, none⟩ s)) ∧
    ((s.rme.route n).state = .releasing →
      exec (.routeSetGain tag id gain) s = .next (queueReply ⟨0x2A, tag, .wrongState, none⟩ s) ∧
      exec (.routeSetMute tag id mute) s = .next (queueReply ⟨0x2B, tag, .wrongState, none⟩ s)) ∧
    ((s.rme.route n).state = .active → (s.rme.route n).level.holder ≠ none →
      exec (.routeSetGain tag id gain) s = .next (queueReply ⟨0x2A, tag, .heldBySurface, none⟩ s)) ∧
    ((s.rme.route n).state = .active → (s.rme.route n).level.holder = none →
      ∃ t, exec (.routeSetGain tag id gain) s = .next t ∧
        Answered 0x2A tag (if g.clamped = g then .ok else .adjusted) (some (.routeGain n g.clamped
          (if (s.rme.route n).level.mute then 0 else g.clamped.coeff))) s t ∧
        Safety.retargeted g.clamped (s.rme.route n).level.mute s.rme.rampLength (s.rme.route n).level
          (t.rme.route n).level ∧
        t.rme = s.rme.putRoute n { s.rme.route n with level := (t.rme.route n).level } ∧
        KeepsBut Safety.targetParts s t) ∧
    ((s.rme.route n).state = .active →
      ∃ t, exec (.routeSetMute tag id mute) s = .next t ∧ Answered 0x2B tag .ok (some (.routeMute n b)) s t ∧
        Safety.retargeted (s.rme.route n).level.gain b s.rme.rampLength (s.rme.route n).level (t.rme.route n).level ∧
        t.rme = s.rme.putRoute n { s.rme.route n with level := (t.rme.route n).level } ∧
        KeepsBut Safety.targetParts s t)

/-- R95, R106, R107: BUS_SET is refused by a holder when it carries a gain; else it applies what its flags name by one
set-target. RAMP_SET sets the length that later ramps take. -/
def Obligations.BusSetAndRampSet : Prop :=
  ∀ (tag bus mute : Byte) (applyGain applyMute : Bool) (gain length : Half) (g : Gain) (b : Bool) (s : State),
    s.takes = true → bus.toNat < 8 → gainOf gain = some g → flagOf mute = some b → s.rme.buses.length = 8 →
    NothingLeft s →
    let n := bus.toNat
    let old := s.rme.bus n
    let flags : Byte := (if applyGain then 1 else 0) + (if applyMute then 2 else 0)
    (applyGain = true → old.holder ≠ none →
      exec (.busSet tag bus flags gain mute) s = .next (queueReply ⟨0x2D, tag, .heldBySurface, none⟩ s)) ∧
    (applyGain = false ∨ old.holder = none → ∃ t, exec (.busSet tag bus flags gain mute) s = .next t ∧
      Answered 0x2D tag (if applyGain = true ∧ g.clamped ≠ g then .adjusted else .ok)
        (some (.bus n (t.rme.bus n).gain (t.rme.bus n).mute
          (if (t.rme.bus n).mute then 0 else (t.rme.bus n).gain.coeff))) s t ∧
      Safety.retargeted (if applyGain then g.clamped else old.gain) (if applyMute then b else old.mute)
        s.rme.rampLength old (t.rme.bus n) ∧
      t.rme = s.rme.putBus n (t.rme.bus n) ∧ KeepsBut Safety.targetParts s t) ∧
    (rampLengthOf length = none →
      exec (.rampSet tag length) s = .next (queueReply ⟨0x2E, tag, .outOfRange, none⟩ s)) ∧
    (∀ l, rampLengthOf length = some l → l = length.toNat ∧ exec (.rampSet tag length) s =
      .next (queueReply ⟨0x2E, tag, .ok, some (.rampLength l)⟩ { s with rme := { s.rme with rampLength := l } }))

/-! ## Gain, mixing and meters (06) -/

/-- R109: K(g) is the nearest integer to 2^20 × 10^(g/200), from 1 to 4,174,456, and 0 for OFF; a muted record's target is
0 and another's K(g). -/
def Obligations.GainCoefficients : Prop :=
  (∀ g : Int, -1200 ≤ g → g ≤ 120 →
    |((Gain.tenths g).coeff : ℝ) - 2 ^ 20 * (10 : ℝ) ^ ((g : ℝ) / 200)| ≤ 1 / 2 ∧
    1 ≤ (Gain.tenths g).coeff ∧ (Gain.tenths g).coeff ≤ 4174456) ∧
  Gain.off.coeff = 0 ∧ ∀ l : GainRec, l.targetCoeff = if l.mute then 0 else l.gain.coeff

/-- R122: the thresholds are the nearest integers to 8,388,607 × 10^(-a/20), and the code of a peak is the smallest a of
0 to 60 whose threshold it reaches, or 61. -/
def Obligations.MeterCodes : Prop :=
  (∀ a ≤ 60, |(meterThreshold a : ℝ) - 8388607 * (10 : ℝ) ^ (-(a : ℝ) / 20)| ≤ 1 / 2) ∧
  ∀ peak : Nat, meterCode peak ≤ 61 ∧ (∀ a < meterCode peak, a ≤ 60 → peak < meterThreshold a) ∧
    (meterCode peak ≤ 60 → meterThreshold (meterCode peak) ≤ peak)

/-- R115: the rounded product of a source value and the route's coefficient, negated by invert; its bounds, its value at
unity inverted, and its silence at 0. -/
def Obligations.RouteProducts : Prop :=
  ∀ (r : Route) (x : Int),
    r.contribution x =
      ⌊((x * (if r.invert then -(r.level.coeff : Int) else r.level.coeff) + 2 ^ 19 : Int) : ℚ) / 2 ^ 20⌋ ∧
    (r.level.coeff ≤ 4174456 → -8388608 ≤ x → x ≤ 8388607 →
      -33395648 ≤ r.contribution x ∧ r.contribution x ≤ 33395648) ∧
    (r.level.coeff = 0 → r.contribution x = 0) ∧
    (r.level.coeff = 1048576 → r.invert = true → r.contribution x = -x) ∧
    (∀ (routes : List Route) (i : Inputs) (outs : List Int) (dest : Point),
      sumInto (r :: routes) i outs dest = sumInto routes i outs dest +
        if r.state ≠ .free ∧ r.dest = dest then r.contribution (i.value outs r.source) else 0)

/-- R111: a ramp steps n by 1, K_cur moves to start + trunc((target − start) × n / L) between start and target, and the
last step leaves the target and no ramp. RAMP_END is that last step (log 4), which frees a RELEASING route. -/
def Obligations.RampSteps : Prop :=
  (∀ (l : GainRec) (m : Ramp), l.ramp = some m → RampSound l.coeff m →
    (m.step + 1 < m.length → ∃ k : Nat, l.stepRamp = ({ l with coeff := k, ramp := some { m with step := m.step + 1 } }, false) ∧
      (k : Int) = m.start + Int.tdiv ((m.target - m.start : Int) * (m.step + 1 : Nat)) m.length ∧
      min m.start m.target ≤ k ∧ k ≤ max m.start m.target) ∧
    (m.step + 1 = m.length → l.stepRamp = ({ l with coeff := m.target, ramp := none }, true))) ∧
  (∀ l : GainRec, l.ramp = none → l.stepRamp = (l, false)) ∧
  ∀ (id : Fin 128) (b : Fin 8) (s : State),
    (∀ m, (s.rme.route id).level.ramp = some m →
      ((s.rme.route id).state ≠ .releasing → exec (.rampEnd (.route id)) s = .next { s with
        rme := s.rme.putRoute id { s.rme.route id with
          level := { (s.rme.route id).level with coeff := m.target, ramp := none } } }) ∧
      ((s.rme.route id).state = .releasing → exec (.rampEnd (.route id)) s = .next
        (notify (.routeReleased id (s.rme.route id).source (s.rme.route id).dest .faded)
          { s with rme := s.rme.putRoute id Route.freeEntry }))) ∧
    ((s.rme.route id).level.ramp = none → exec (.rampEnd (.route id)) s = .next s) ∧
    (∀ m, (s.rme.bus b).ramp = some m → exec (.rampEnd (.bus b)) s = .next { s with
      rme := s.rme.putBus b { s.rme.bus b with coeff := m.target, ramp := none } })

/-- R44, R57, R60, R74, R78, R86, R87, R88, R111, R113, R114, R116, R117, R118, R121, R123: a studio frame advances the counter,
draws one playback frame, takes one frame from each FOLLOW port, computes the buses in order and every destination from the
coefficients as they stood, delivers them, then steps every ramp, measures the meter slots and counts the frame, the 1024th
ending the meter period (order of the parts, log 31; a DRIVE port's frame begins here, log 14; the muted port's line, log 15; a
DRIVE port's first samples, log 39; a slot without a point, log 25). -/
def Obligations.StudioFrame : Prop :=
  ∀ s : State, Sound s → NothingLeft s →
    let held := fun (v : Int) => max (-8388608) (min 8388607 v)
    let counter := s.cku.counter + 1
    let last := 1023 ≤ s.rme.frameCount
    ∃ (t : State) (i : Inputs) (outs : List Int), exec .evaluateStudioFrame s = .next t ∧
      KeepsBut ([.cku, .stu, .ptu, .rme, .records, .fresh] ++ if last then [.sbc, .sou] else []) s t ∧
      t.cku = { s.cku with counter := counter } ∧
      t.stu.playback = (s.stu.playback.draw counter).1 ∧
      i.play = (s.stu.playback.draw counter).2.1.getD [] ∧
      i.ports = (List.range 4).map (fun p => Safety.portRead (s.port p) p counter) ∧
      outs.length = 8 ∧
      (∀ b < 8, outs.getD b 0 =
        held ((sumInto s.rme.routes i outs (.busIn b) * (s.rme.bus b).coeff + 2 ^ 19) / 2 ^ 20)) ∧
      t.stu.capture = Safety.captureAfterFrame s.stu.capture counter
        ((List.range s.stu.capture.effective).map (fun c => held (sumInto s.rme.routes i outs (.recCh c)))) ∧
      t.stu.ring = s.stu.ring ∧ t.stu.lastReport = s.stu.lastReport ∧
      t.ptu = (List.range 4).map (fun p => Safety.portAfterFrame (s.port p)
        ((List.range (s.port p).slots).map (fun k => held (sumInto s.rme.routes i outs (.pout p k))))) ∧
      t.rme.overload = t.ptu.map Port.handsOverload ∧
      t.rme.routes = s.rme.routes.map (fun r =>
        if r.state = .releasing ∧ r.level.stepRamp.2 = true then Route.freeEntry
        else { r with level := r.level.stepRamp.1 }) ∧
      t.rme.buses = s.rme.buses.map (fun l => l.stepRamp.1) ∧
      t.rme.holdTime = s.rme.holdTime ∧ t.rme.rampLength = s.rme.rampLength ∧
      ((∀ x ∈ s.rme.slots, ∀ b, x.point = some (.bus b) ∨ x.point = some (.busIn b) → b < 8) →
        t.rme.slots = (Safety.slotsMeasured s.rme i outs).map (fun x =>
          if last then Safety.slotEnded s.rme.holdTime x else x)) ∧
      t.rme.frameCount = (if last then 0 else s.rme.frameCount + 1) ∧
      (last → Safety.metersSent s t)

/-- R121, R123, R124, R125: a measurement raises the period peak to a greater magnitude and latches a clip from full scale or
a mark; the end of a meter period gives every assigned slot its code, moves its hold and clears its peak, restarts the
frame count, reports the codes and hold codes of the subscribed slots, and sends the displaying modules theirs. A period that
ended at its studio frame does not end again (log 4). A slot without a point stays as it is (log 25). -/
def Obligations.MeterPeriods : Prop :=
  (∀ (x : MeterSlot) (value : Int) (marked : Bool), x.measure value marked =
    { x with
      peak := if x.peak < value.natAbs then value.natAbs else x.peak
      clip := x.clip || decide (8388607 ≤ value.natAbs) || marked }) ∧
  ∀ s : State, NothingLeft s →
    (s.rme.frameCount = 0 → exec .meterPeriodEnd s = .next s) ∧
    (s.rme.frameCount ≠ 0 → ∃ t, exec .meterPeriodEnd s = .next t ∧
      KeepsBut [.rme, .records, .sou, .sbc] s t ∧
      t.rme = { s.rme with frameCount := 0, slots := s.rme.slots.map (Safety.slotEnded s.rme.holdTime) } ∧
      (OutputSound s → ModulesSound s → Safety.metersSent s t) ∧
      (Safety.HasRoom 1 s → (∃ x ∈ s.rme.slots, x.point ≠ none ∧ x.subscribed = true) →
        Safety.Heard (.meterReport (s.cku.counter.setWidth 32)
          (((List.range s.rme.slots.length).filter (fun n =>
            (s.rme.slot n).point.isSome && (s.rme.slot n).subscribed)).map (fun n =>
              ⟨n, (t.rme.slot n).code, meterCode (t.rme.slot n).hold, (t.rme.slot n).clip⟩))) t))

/-- R126, R127, R128: METER_ASSIGN unassigns a slot, or gives it a point and a display position that no other slot has; a
slot keeps its measurements only with the point it had. METER_SUBSCRIBE replaces every subscription and the hold time;
METER_READ reports a run of slots and, with CLEAR, clears their latches and holds alone. -/
def Obligations.MeterCommands : Prop :=
  (∀ (tag slot address position : Byte) (point : PointCode) (p : Point) (a n : Nat) (s : State), s.takes = true →
    slot.toNat < 64 → s.rme.slots.length = 64 → pointOf point = some p → addressOf address = some a →
    indexBelow 16 position = some n →
    let x := s.rme.slot slot.toNat
    let fresh : MeterSlot := if x.point = some p then x else
      { x with point := some p, peak := 0, hold := 0, age := 0, code := 61, clip := false }
    let put := fun (y : MeterSlot) => { s with rme := { s.rme with slots := s.rme.slots.set slot.toNat y } }
    exec (.meterAssign tag slot 0 point address position) s = .next (queueReply ⟨0x30, tag, .ok, some (.meterPoint none none)⟩
      (put ⟨none, none, 0, 61, 0, 0, false, x.subscribed⟩)) ∧
    exec (.meterAssign tag slot 1 point address position) s = .next (queueReply
      ⟨0x30, tag, .ok, some (.meterPoint (some p) none)⟩ (put { fresh with display := none })) ∧
    ((∃ m < 64, m ≠ slot.toNat ∧ (s.rme.slot m).display = some (a, n)) →
      exec (.meterAssign tag slot 3 point address position) s = .next (queueReply ⟨0x30, tag, .inUse, none⟩ s)) ∧
    ((∀ m < 64, m ≠ slot.toNat → (s.rme.slot m).display ≠ some (a, n)) →
      exec (.meterAssign tag slot 3 point address position) s = .next (queueReply
        ⟨0x30, tag, .ok, some (.meterPoint (some p) (some (a, n)))⟩ (put { fresh with display := some (a, n) }))) ∧
    exec (.meterAssign tag slot 2 point address position) s = .next (queueReply ⟨0x30, tag, .outOfRange, none⟩ s)) ∧
  ∀ (tag holdTime first count clear : Byte) (set : BitVec 64) (b : Bool) (s : State), s.takes = true →
    s.rme.slots.length = 64 →
    (∃ t, exec (.meterSubscribe tag set holdTime) s = .next t ∧
      Answered 0x32 tag .ok (some (.subscriptions set holdTime.toNat)) s t ∧ KeepsBut [.replies, .rme] s t ∧
      t.rme = { s.rme with holdTime := holdTime.toNat, slots := t.rme.slots } ∧ t.rme.slots.length = 64 ∧
      ∀ n < 64, t.rme.slot n = { s.rme.slot n with subscribed := set.getLsbD n }) ∧
    (63 < first.toNat ∨ count.toNat = 0 ∨ 64 < first.toNat + count.toNat →
      exec (.meterRead tag first count clear) s = .next (queueReply ⟨0x31, tag, .outOfRange, none⟩ s)) ∧
    (flagOf clear = some b → first.toNat ≤ 63 → 1 ≤ count.toNat → first.toNat + count.toNat ≤ 64 →
      ∃ t, exec (.meterRead tag first count clear) s = .next t ∧ KeepsBut [.replies, .rme] s t ∧
        Answered 0x31 tag .ok (some (.meters ((List.range count.toNat).map (fun k =>
          let x := s.rme.slot (first.toNat + k)
          ⟨first.toNat + k, x.point, x.display, x.code, meterCode x.hold, x.clip, x.subscribed⟩)))) s t ∧
        t.rme = { s.rme with slots := t.rme.slots } ∧ t.rme.slots.length = 64 ∧
        ∀ n < 64, t.rme.slot n =
          if b = true ∧ first.toNat ≤ n ∧ n < first.toNat + count.toNat then
            { s.rme.slot n with clip := false, hold := 0, age := 0 }
          else s.rme.slot n)

/-! ## Reading the part -/

/-- R42, R51, R85, R108, R163, R170, R200: the commands that only read answer with what they name and change nothing. A
page of ROUTE_LIST continues beyond the last entry listed and not beyond the next non-FREE one: that clause is the model's
choice, a free value within those bounds (log 35). So is the ramp target of a listed route entry whose ramp is absent, on which
nothing is said here (log 46). -/
def Obligations.StatusReads : Prop :=
  ∀ (tag n : Byte) (s : State), s.takes = true →
    exec (.clockStatus tag) s = .next (queueReply ⟨0x12, tag, .ok, some (.clock s.cku.rate s.cku.clock s.cku.source
      s.cku.fallback s.cku.mode s.cku.fixedSource s.cku.revert s.cku.priority
      (if s.cku.clock = .switching then s.cku.lockTimer.getD 0 + s.cku.settleTimer.getD 0
       else if s.cku.clock = .holdover then s.cku.holdoverTimer.getD 0 else 0)
      s.cku.counter (s.cku.sources.map (fun r => ⟨r.standing, r.quality, r.revert, r.lastEdges⟩)))⟩ s) ∧
    (2 ≤ n.toNat → exec (.streamStatus tag n) s = .next (queueReply ⟨0x1B, tag, .outOfRange, none⟩ s)) ∧
    (n.toNat = 0 → let p := s.stu.playback
      exec (.streamStatus tag n) s = .next (queueReply ⟨0x1B, tag, .ok, some (.stream p.state p.configured p.effective
        p.depth (p.depth / 2) p.buffer.length p.underruns p.overruns p.malformed p.recentres p.repeatRun p.lastResidence
        p.maxResidence p.arrivals.length p.unlisted 0 s.stu.ring.length s.stu.lastReport)⟩ s)) ∧
    (n.toNat = 1 → let c := s.stu.capture
      exec (.streamStatus tag n) s = .next (queueReply ⟨0x1B, tag, .ok, some (.stream c.state c.configured c.effective
        c.depth (c.depth / 2) c.buffer.length c.underruns c.overruns 0 0 0 0 0 0 0 c.headStamp s.stu.ring.length
        s.stu.lastReport)⟩ s)) ∧
    (4 ≤ n.toNat → exec (.portStatus tag n) s = .next (queueReply ⟨0x24, tag, .outOfRange, none⟩ s)) ∧
    (n.toNat < 4 → let p := s.port n.toNat
      exec (.portStatus tag n) s = .next (queueReply ⟨0x24, tag, .ok, some (.port p.mode p.slots p.mute p.state
        (decide (p.state = .off ∨ p.state = .starting ∨ p.state = .conflict)) (decide (p.state ≠ .running ∨ p.mute = true))
        p.overload (p.resetTimer.getD 0) p.settle (if p.mode = .drive then 0 else p.inBuf.length)
        (if p.mode = .drive then 0 else p.outBuf.length) p.underSlips p.overSlips)⟩ s)) ∧
    (128 ≤ n.toNat → exec (.routeList tag n) s = .next (queueReply ⟨0x2C, tag, .outOfRange, none⟩ s)) ∧
    (n.toNat < 128 → s.rme.routes.length = 128 →
      let level := fun (absent : Nat) (l : GainRec) => (⟨l.gain, l.mute, l.coeff, (l.ramp.map (fun m => m.target)).getD absent,
        (l.ramp.map (fun m => m.length - m.step)).getD 0, l.holder⟩ : LevelReport)
      let ids := (List.range 128).filter (fun id => decide (n.toNat ≤ id ∧ (s.rme.route id).state ≠ .free))
      ∃ (next : Nat) (absent : Nat → Nat), exec (.routeList tag n) s = .next (queueReply ⟨0x2C, tag, .ok, some (.routes s.rme.rampLength
          (s.rme.buses.map (level 0)) (min 16 ids.length) next ((ids.take 16).map (fun id => let r := s.rme.route id
            ⟨id, r.state, r.source, r.dest, r.invert, level (absent id) r.level⟩)))⟩ s) ∧
        (ids.length ≤ 16 → next = 128) ∧
        (∀ last more, ids[15]? = some last → ids[16]? = some more → last < next ∧ next ≤ more)) ∧
    exec (.moduleList tag) s = .next (queueReply ⟨0x41, tag, .ok,
      some (.modules s.mtb.entries.length s.mtb.discarded s.mtb.entries)⟩ s) ∧
    exec (.filterList tag) s = .next (queueReply ⟨0x44, tag, .ok, some (.filters s.evf.default s.evf.filters)⟩ s) ∧
    (8 ≤ n.toNat → exec (.faderStatus tag n) s = .next (queueReply ⟨0x56, tag, .outOfRange, none⟩ s)) ∧
    (n.toNat < 8 → let f := s.fsv.channel n.toNat
      exec (.faderStatus tag n) s = .next (queueReply ⟨0x56, tag, .ok, some (.fader ⟨f.enable, f.kp, f.deadband, f.minDuty,
        f.maxDuty, f.rest, f.limit⟩ f.state f.touch f.target f.position f.reported f.duty f.motion f.overRun f.openRun
        f.fault s.fsv.supplyGood)⟩ s))

/-! ## Surface bus (07) -/

/-- R144, R149, R150, R160: SURFACE_SETUP is refused for an on/off value that is neither, else stores its settings as clamped and
stops or starts the bus when enable changes it; a search step in flight at the stop runs to its end (log 21), and a free
bus that starts may begin a transaction at once (log 18). SURFACE_STATUS
reports, and clears the four counts on demand. -/
def Obligations.SurfaceSettings : Prop :=
  ∀ (tag enable period lifetime auto clear : Byte) (s : State), s.takes = true →
    (flagOf enable = none ∨ flagOf auto = none →
      exec (.surfaceSetup tag enable period lifetime auto) s = .next (queueReply ⟨0x38, tag, .outOfRange, none⟩ s)) ∧
    (∀ e a, flagOf enable = some e → flagOf auto = some a →
      let p := min 3 period.toNat
      let l := max 1 (min 120 lifetime.toNat)
      let stored := { s.sbc with enable := e, periodCode := p, lifetime := l, auto := a }
      ∃ t, exec (.surfaceSetup tag enable period lifetime auto) s = .next t ∧
        Answered 0x38 tag (if 3 < period.toNat ∨ lifetime.toNat = 0 ∨ 120 < lifetime.toNat then .adjusted else .ok)
          (some (.surfaceSettings e p l a)) s t ∧
        (e = true ∧ s.sbc.bus ≠ .off ∨ e = false ∧ s.sbc.bus = .off →
          t.sbc = stored ∧ KeepsBut [.replies, .sbc] s t) ∧
        (e = false → s.sbc.bus ≠ .off →
          t.sbc = { stored with
            bus := .off, stuckTimer := false, attempt := 0, faultTimer := none, faultAttempt := false, roundList := []
            search := t.sbc.search } ∧
          t.sbc.search.stack = [] ∧ t.sbc.search.answer = none ∧ t.sbc.search.step = s.sbc.search.step ∧
          (s.sbc.search.step = none → t.sbc.search.running = false) ∧
          (Safety.HasRoom 1 s → Safety.Heard (.busState s.sbc.bus .off .disabled s.sbc.stucks) t) ∧
          KeepsBut [.replies, .records, .sbc] s t) ∧
        (e = true → s.sbc.bus = .off →
          let started := { stored with
            bus := .running, stuckTimer := s.sbc.lineBreak && decide (s.txnPhase ≠ some .sending) }
          t.sbc = { started with
            txn := t.sbc.txn, free := t.sbc.free, startUp := t.sbc.startUp, roundList := t.sbc.roundList
            search := t.sbc.search, cutShort := t.sbc.cutShort } ∧
          (s.sbc.free = false ∨ s.sbc.txn ≠ none → t.sbc = started) ∧
          (∀ x ∈ t.mtb.entries, x.state ≠ .joining → x.expiry = s.sbc.millis + BitVec.ofNat 32 (l * 500)) ∧
          (Safety.HasRoom 1 s → Safety.Heard (.busState .off .running .enabled s.sbc.stucks) t) ∧
          KeepsBut [.replies, .records, .rme, .sbc, .mtb, .sou, .bdt, .fresh] s t ∧
          (s.sbc.search.answer = none → Safety.expiriesMoved l s t ∧
            KeepsBut [.replies, .records, .sbc, .mtb, .sou] s t))) ∧
    (flagOf clear = none → exec (.surfaceStatus tag clear) s = .next (queueReply ⟨0x39, tag, .outOfRange, none⟩ s)) ∧
    (∀ b, flagOf clear = some b → exec (.surfaceStatus tag clear) s = .next (queueReply ⟨0x39, tag, .ok,
      some (.surface s.sbc.bus s.sbc.enable s.sbc.periodCode s.sbc.lifetime s.sbc.auto s.sbc.millis s.sbc.roundCounter
        s.sbc.roundList.length (s.sbc.txn.map (fun x => (x.frame.address, x.frame.kind, x.phase))) s.sbc.attempt
        (s.sbc.faultTimer.getD 0) s.sbc.search.running s.sbc.search.stack.length s.sbc.noReplies s.sbc.corrupts
        s.sbc.overruns s.sbc.stucks)⟩
      (if b then { s with sbc := { s.sbc with noReplies := 0, corrupts := 0, overruns := 0, stucks := 0 } } else s)))

/-- R140, R141, R149, R154, R155, R162: at a multiple of the poll period a poll boundary counts an overrun, or removes the
SILENT entries whose expiry has passed and starts a round over the rest. A search starts at a nonzero multiple of 250 ms or by
DISCOVER, unless one runs (logs 10 and 36; the rows at other counts, log 41). -/
def Obligations.RoundsAndSearches : Prop :=
  ∀ (tag : Byte) (s : State),
    let boundary := s.sbc.millis.toNat % 2 ^ s.sbc.periodCode = 0
    let due := s.sbc.millis.toNat ≠ 0 ∧ s.sbc.millis.toNat % 250 = 0
    (s.phase ≠ .running ∨ s.sbc.bus ≠ .running ∨ ¬ boundary → exec .pollBoundary s = .next s) ∧
    (s.phase = .running → s.sbc.bus = .running → boundary → s.sbc.roundList ≠ [] →
      exec .pollBoundary s = .next { s with sbc := { s.sbc with overruns := min 65535 (s.sbc.overruns + 1) } }) ∧
    (s.phase = .running → s.sbc.bus = .running → boundary → s.sbc.roundList = [] → s.sbc.search.answer = none →
      ModulesSound s →
      ∃ t, exec .pollBoundary s = .next t ∧ t.sbc.roundCounter = s.sbc.roundCounter + 1 ∧
        t.mtb = { s.mtb with entries := s.mtb.entries.filter (fun e =>
          !decide (e.state = .silent ∧ (s.sbc.millis - e.expiry).toNat < 2 ^ 31)) } ∧
        (∀ round, round = (t.mtb.entries.filter (fun e => decide (e.state = .online ∨ e.state = .suspect ∨
            e.state = .silent ∧ s.sbc.roundCounter.toNat % 16 = 0))).map (fun e => e.address) →
          t.sbc.roundList = round ∨
          ∃ a, round = a :: t.sbc.roundList ∧ t.sbc.txn = some ⟨⟨a, .poll, []⟩, .round, .sending⟩) ∧
        KeepsBut [.records, .rme, .sbc, .mtb, .sou, .bdt] s t) ∧
    (s.phase = .running → s.sbc.bus = .running → due → s.sbc.auto = true → s.sbc.search.running = false →
      ∃ t, exec .autoDiscoveryStart s = .next t ∧ Safety.searchBegan t ∧ KeepsBut [.sbc, .sou] s t) ∧
    (s.phase ≠ .running ∨ s.sbc.bus ≠ .running ∨ ¬ due ∨ s.sbc.auto = false ∨ s.sbc.search.running = true →
      exec .autoDiscoveryStart s = .next s) ∧
    (s.takes = true →
      (s.sbc.bus = .off → exec (.discover tag) s = .next (queueReply ⟨0x40, tag, .wrongState, none⟩ s)) ∧
      (s.sbc.bus ≠ .off → s.sbc.search.running = true → exec (.discover tag) s = .next (queueReply
        ⟨0x40, tag, .ok, some (.discovery false s.sbc.search.stack.length)⟩ s)) ∧
      (s.sbc.bus ≠ .off → s.sbc.search.running = false → ∃ t, exec (.discover tag) s = .next t ∧
        Safety.searchBegan t ∧ Answered 0x40 tag .ok (some (.discovery true 1)) s t ∧
        KeepsBut [.replies, .sbc, .sou] s t))

/-- R134, R139, R151, R177: when the bus becomes free, the scheduler picks the start-up RELEASE, then URGENT, the round,
the search, NORMAL, METER, the first that offers a frame, and sends that frame; with no offer the bus stays free (logs 10
and 18). A frame cut short by a RESET is no longer held once another starts (log 47). -/
def Obligations.SchedulerPicks : Prop :=
  ∀ s : State, s.sbc.txn = none → s.sbc.lineBreak = false →
    let none_ := fun (q : QueueId) => ∀ f, ¬ Safety.headOffered s q f
    let picks := fun (t : State) (f : BusFrame) (o : Owner) => t.sbc.txn = some ⟨f, o, .sending⟩ ∧ t.sbc.free = false ∧
      t.sbc.cutShort = none
    ∃ t, exec .busFree s = .next t ∧
      (s.phase ≠ .running ∨ s.sbc.bus ≠ .running → t = { s with sbc := { s.sbc with free := true } }) ∧
      (s.phase = .running → s.sbc.bus = .running →
        (s.sbc.startUp = true → picks t ⟨0, .release, []⟩ .controller ∧ t.sbc.startUp = false) ∧
        (s.sbc.startUp = false →
          (∀ f, Safety.headOffered s .urgent f → picks t f.frame (.output .urgent) ∧
            t.sou.urgent.head? = some { f with inFlight := true, attempts := f.attempts + 1 } ∧
            KeepsBut [.sbc, .sou] s t) ∧
          (none_ .urgent →
            (∀ a rest, s.sbc.roundList = a :: rest → picks t ⟨a, .poll, []⟩ .round ∧ t.sbc.roundList = rest ∧
              KeepsBut [.sbc] s t) ∧
            (s.sbc.roundList = [] →
              let steps := s.sbc.search.running = true ∧ s.sbc.search.step = none
              (steps → ∀ a, s.sbc.search.answer = some a → ∃ f, picks t f .search ∧ t.sbc.search.answer = none ∧
                f.address = 31 ∧ (f.kind = .assign ∨ f.kind = .refuse)) ∧
              (steps → s.sbc.search.answer = none → ∀ p rest, s.sbc.search.stack = p :: rest →
                picks t ⟨31, .call, BitVec.ofNat 8 p.length :: leBytes 6 p.value.toNat⟩ .search ∧
                t.sbc.search.stack = rest ∧ t.sbc.search.step = some (.call p)) ∧
              (¬ steps ∨ s.sbc.search.answer = none ∧ s.sbc.search.stack = [] →
                (∀ f, Safety.headOffered s .normal f → picks t f.frame (.output .normal)) ∧
                (none_ .normal → ∀ f, Safety.headOffered s .meter f → picks t f.frame (.output .meter)) ∧
                (none_ .normal → none_ .meter → t = { s with sbc := { s.sbc with free := true } }))))))

/-- R131, R132, R134 to R138, R147, R151: the phases of a transaction, its end by silence, corruption or a whole reply, and the
counts of ends. A reply window that opened on a line in break ends as CORRUPT alone. A whole reply is checked for its CRC, its
address, and the kind and length that suit the frame sent (a character outside any reply window makes the bus not
free, in a reply window it changes nothing, log 19; that a window opened on a line in break ends by its framing error, log 37; that
the stuck timer waits for the end of initialisation, log 10). With no transaction in flight the end of SENDING is that of a frame cut short by a
RESET (log 47). -/
def Obligations.TransactionPhases : Prop :=
  (∀ (xs : List Byte) (b : Byte),
    let shift := fun (x : Byte) => if x.msb then (x <<< 1) ^^^ 0x07 else x <<< 1
    crc8 [] = 0 ∧
    crc8 (xs ++ [b]) = shift (shift (shift (shift (shift (shift (shift (shift (crc8 xs ^^^ b))))))))) ∧
  (∀ (f : BusFrame) (address kind length crc : Byte) (payload : List Byte),
    length.toNat ≤ 32 → payload.length = length.toNat →
    replyResult f (address :: kind :: length :: (payload ++ [crc])) =
      some (Safety.replyJudged f address kind length payload crc)) ∧
  (∀ s : State,
    (s.txnPhase = none ∨ s.txnPhase = some .sending →
      exec .lineCharacter s = .next { s with sbc := { s.sbc with free := false } }) ∧
    (s.txnPhase = some .awaiting ∨ s.txnPhase = some .receiving → exec .lineCharacter s = .next s)) ∧
  (∀ s : State, s.sbc.txn = none → exec .frameSendingEnd s = .next { s with sbc := { s.sbc with cutShort := none } }) ∧
  ∀ (x : Txn) (s : State), s.sbc.txn = some x →
    let moved := fun (p : TxnPhase) => { s.sbc with txn := some { x with phase := p } }
    let ended := fun (r : TxnResult) (t : State) => t.sbc.txn = none ∧ t.sbc.free = false ∧
      t.sbc.noReplies = (if r = .noReply then min 65535 (s.sbc.noReplies + 1) else s.sbc.noReplies) ∧
      t.sbc.corrupts = (if r = .corrupt then min 65535 (s.sbc.corrupts + 1) else s.sbc.corrupts) ∧
      t.sbc.bus = s.sbc.bus ∧ KeepsBut [.records, .rme, .sbc, .mtb, .sou, .bdt, .fsv] s t
    (x.phase = .sending → x.frame.address ≠ 0 → x.frame.kind ≠ .refuse →
      exec .frameSendingEnd s = .next { s with sbc := { moved .awaiting with
        breakFound := s.sbc.lineBreak
        stuckTimer := s.sbc.stuckTimer || (s.sbc.lineBreak && decide (s.phase = .running ∧ s.sbc.bus = .running)) } }) ∧
    (x.phase = .sending → x.frame.address = 0 ∨ x.frame.kind = .refuse →
      ∃ t, exec .frameSendingEnd s = .next t ∧ ended .sent t) ∧
    (x.phase = .awaiting → s.sbc.breakFound = false → exec .replyStartBit s = .next { s with sbc := moved .receiving }) ∧
    (x.phase = .awaiting → s.sbc.breakFound = false →
      (∃ t, exec .replyWindowExpiry s = .next t ∧ ended .noReply t) ∧ exec .replyCorrupt s = .next s) ∧
    (s.sbc.breakFound = true → x.phase = .awaiting →
      exec .replyStartBit s = .next s ∧ exec .replyWindowExpiry s = .next s) ∧
    (x.phase = .receiving ∨ x.phase = .awaiting ∧ s.sbc.breakFound = true →
      ∃ t, exec .replyCorrupt s = .next t ∧ ended .corrupt t) ∧
    (x.phase = .receiving → ∀ characters r, replyResult x.frame characters = some r →
      ∃ t, exec (.replyComplete characters) s = .next t ∧ ended r t) ∧
    (x.phase ≠ .sending → exec .lineCharacter s = .next s) ∧
    (x.phase = .sending → exec .lineCharacter s = .next { s with sbc := { s.sbc with free := false } })

/-- R138, R142, R143, R165, R166: a poll that ends in silence or corruption adds 8 to the count of the module polled, one
answered by EMPTY or REPORT takes 1 off and moves the expiry, and so do ACK and NAK for a queued frame, while WAIT moves
neither; the state follows from the count, with its notice, and no other entry changes. The events of a REPORT are then taken
in order, each counted as discarded or delivered to the bindings and then to the filters. -/
def Obligations.ModuleJudgement : Prop :=
  (∀ (a : Nat) (e : Entry) (phase : TxnPhase) (s : State), 1 ≤ a → a ≤ 30 → ModulesSound s →
    s.mtb.entry a = some e → e.state ≠ .joining →
    let better := Safety.entryJudged a e (e.quality - 1) (s.sbc.millis + BitVec.ofNat 32 (s.sbc.lifetime * 500)) s
    let worse := Safety.entryJudged a e (min 255 (e.quality + 8)) e.expiry s
    let reply := fun (kind length : Byte) (payload : List Byte) =>
      Instr.replyComplete (BitVec.ofNat 8 a :: kind :: length :: (payload ++
        [crc8 (BitVec.ofNat 8 a :: kind :: length :: payload)]))
    (s.sbc.txn = some ⟨⟨a, .poll, []⟩, .round, phase⟩ →
      (phase = .awaiting → s.sbc.breakFound = false → ∃ t, exec .replyWindowExpiry s = .next t ∧ worse t) ∧
      (phase = .receiving → ∃ t, exec .replyCorrupt s = .next t ∧ worse t) ∧
      (phase = .receiving → ∃ t, exec (reply 0x82 0 []) s = .next t ∧ better t) ∧
      (phase = .receiving → ∀ (n : Byte) (payload : List Byte), payload.length = n.toNat → n.toNat ≤ 32 → n.toNat % 4 = 0 →
        ∃ t, better t ∧ t.sbc.txn = none ∧
          exec (reply 0x81 n payload) s = .next (takeEvents a (s.cku.counter.setWidth 32) payload t))) ∧
    (∀ (q : QueueId) (f : BusFrame), s.sbc.txn = some ⟨f, .output q, .receiving⟩ → f.address = a →
      f.kind = .write ∨ f.kind = .setControl ∨ f.kind = .meter ∨ f.kind = .release →
      (∃ t, better t ∧ t.sbc.txn = none ∧ exec (reply 0x85 0 []) s = .next (frameOutcome q (.reply .ack []) t)) ∧
      (∃ t, better t ∧ t.sbc.txn = none ∧ exec (reply 0x86 0 []) s = .next (frameOutcome q (.reply .nak []) t)) ∧
      (∃ t, t.sbc.txn = none ∧ KeepsBut [.sbc] s t ∧
        exec (reply 0x87 0 []) s = .next (frameOutcome q (.reply .wait []) t)))) ∧
  (∀ (a : Nat) (stamp : Word32) (s : State), takeEvents a stamp [] s = s) ∧
  ∀ (a : Nat) (stamp : Word32) (control kind low high : Byte) (rest : List Byte) (s : State),
    let more := takeEvents a stamp rest
    let known := ∃ e, s.mtb.entry a = some e ∧ e.state ≠ .joining ∧ control.toNat < e.controls
    (¬ known ∨ Safety.eventRead kind low high = none → takeEvents a stamp (control :: kind :: low :: high :: rest) s =
      more { s with mtb := { s.mtb with discarded := min 65535 (s.mtb.discarded + 1) } }) ∧
    (known → ∀ k v, Safety.eventRead kind low high = some (k, v) →
      let event : SurfaceEvent := ⟨⟨.remote a, control.toNat⟩, k, v, stamp⟩
      takeEvents a stamp (control :: kind :: low :: high :: rest) s = more (filterEvent event (bindingEvent event s)))

/-- R130, R137, R144 to R147: a spell of break ends a reply and runs the stuck timer; 2 ms of it clear the bus, three
failed attempts fault it, and a free line returns it to RUNNING with every expiry moved on. A millisecond counts on and
counts every ms timer down (log 7). That the start of a break makes an idle bus not free is log 19, and that the stuck timer
waits for the end of initialisation is log 10. -/
def Obligations.StuckBus : Prop :=
  ∀ (quiet : Bool) (s : State),
    let timed := s.sbc.stuckTimer ||
      decide (s.phase = .running ∧ s.sbc.bus = .running ∧ s.txnPhase ≠ some .sending)
    (s.txnPhase = none ∨ s.txnPhase = some .sending → exec .lineBreakStart s = .next { s with
      sbc := { s.sbc with lineBreak := true, free := false, stuckTimer := timed } }) ∧
    (s.txnPhase = some .awaiting ∨ s.txnPhase = some .receiving → ∃ t, exec .lineBreakStart s = .next t ∧
      t.sbc.lineBreak = true ∧ t.sbc.free = false ∧ t.sbc.stuckTimer = timed ∧ t.sbc.txn = none ∧
      t.sbc.corrupts = min 65535 (s.sbc.corrupts + 1)) ∧
    exec .lineBreakEnd s = .next { s with sbc := { s.sbc with lineBreak := false, stuckTimer := false } } ∧
    (s.sbc.bus = .running → s.sbc.stuckTimer = true → exec .stuckTimerExpiry s = .next (
      notify (.busState .running .clearing .stuck (min 65535 (s.sbc.stucks + 1)))
        { s with sbc := { s.sbc with
            bus := .clearing, stuckTimer := false, attempt := 1, stucks := min 65535 (s.sbc.stucks + 1) } })) ∧
    (s.sbc.bus ≠ .running ∨ s.sbc.stuckTimer = false → exec .stuckTimerExpiry s = .next s) ∧
    (s.sbc.bus = .off ∨ s.sbc.bus = .running ∨ s.sbc.bus = .fault ∧ s.sbc.faultAttempt = false →
      exec (.clearingCheckEnd quiet) s = .next s) ∧
    (s.sbc.bus = .clearing ∨ s.sbc.bus = .fault ∧ s.sbc.faultAttempt = true →
      (quiet = true → s.sbc.lineBreak = false → s.sbc.search.answer = none →
        ∃ t, exec (.clearingCheckEnd quiet) s = .next t ∧ t.sbc.bus = .running ∧ t.sbc.attempt = 0 ∧
          t.sbc.faultTimer = none ∧ t.sbc.faultAttempt = false ∧ Safety.expiriesMoved s.sbc.lifetime s t ∧
          KeepsBut [.records, .sbc, .mtb, .sou] s t ∧
          (Safety.HasRoom 1 s → Safety.Heard (.busState s.sbc.bus .running .cleared s.sbc.stucks) t)) ∧
      (quiet = false ∨ s.sbc.lineBreak = true →
        (s.sbc.bus = .clearing → s.sbc.attempt < 3 → exec (.clearingCheckEnd quiet) s = .next { s with
          sbc := { s.sbc with attempt := s.sbc.attempt + 1 } }) ∧
        (s.sbc.bus = .clearing → 3 ≤ s.sbc.attempt → exec (.clearingCheckEnd quiet) s = .next (
          notify (.busState .clearing .fault .clearFailed s.sbc.stucks) { s with sbc := { s.sbc with
            bus := .fault, attempt := 0, faultTimer := some 100, faultAttempt := false } })) ∧
        (s.sbc.bus = .fault → exec (.clearingCheckEnd quiet) s = .next { s with sbc := { s.sbc with
          attempt := 0, faultTimer := some 100, faultAttempt := false } }))) ∧
    (∀ n, s.sbc.bus = .fault → s.sbc.faultTimer = some n → exec .faultRetryExpiry s = .next { s with
      sbc := { s.sbc with faultTimer := none, faultAttempt := true } }) ∧
    (∃ t, exec .surfaceMillisecondTick s = .next t ∧ t.sbc = { s.sbc with
        millis := s.sbc.millis + 1, faultTimer := s.sbc.faultTimer.map (fun n => n - 1) } ∧
      t.cku = { s.cku with
        lockTimer := s.cku.lockTimer.map (fun n => n - 1), settleTimer := s.cku.settleTimer.map (fun n => n - 1)
        holdoverTimer := s.cku.holdoverTimer.map (fun n => n - 1) } ∧
      t.ptu = s.ptu.map (fun p => { p with resetTimer := p.resetTimer.map (fun n => n - 1) }) ∧
      KeepsBut [.sbc, .cku, .ptu] s t)

/-! ## Modules and surface events (08) -/

/-- R155 to R159, R192: what the result of a CALL does to the stack, and what the pick of an assign step does to the table: a
known serial rejoins at its address, and without touch capability its holds on routes and buses end; a new one takes the
lowest free address, in a full table in place of the SILENT entry whose expiry lies earliest, and a full table without one
refuses it (the expiry of a JOINING entry is free, log 34). CONFIRM makes the JOINING entry ONLINE and reattaches its bindings,
each with feedback being sent one; any other result removes it. -/
def Obligations.DiscoveryResults : Prop :=
  (∀ s : State, Sound s →
    (∀ p, s.sbc.search.step = some (.call p) → s.sbc.search.answer = none → s.sbc.search.ending = false →
      let x := s.sbc.search
      (stepResult .noReply s).sbc.search = (if x.stack = [] then Search.idle else { x with step := none }) ∧
      (∀ payload a, answerOf payload = some a → p.begins a.serial = true →
        (stepResult (.reply .answer payload) s).sbc.search = { x with step := none, answer := some a }) ∧
      (∀ r, r = .corrupt ∨ (∃ payload a, r = .reply .answer payload ∧ answerOf payload = some a ∧ p.begins a.serial = false) →
        (p.length < 48 → ∃ zero one : Stem, stepResult r s =
            { s with sbc := { s.sbc with search := { x with step := none, stack := zero :: one :: x.stack } } } ∧
          zero.length = p.length + 1 ∧ one.length = p.length + 1 ∧ zero.value = p.value ∧
          one.value = p.value ||| BitVec.twoPow 48 (47 - p.length)) ∧
        (p.length = 48 → (stepResult r s).sbc.search = (if x.stack = [] then Search.idle else { x with step := none }) ∧
          (Safety.HasRoom 1 s →
            Safety.Heard (.moduleState ⟨0, p.value, none, none, .refused, .duplicateSerial, 0⟩) (stepResult r s))))) ∧
    (∀ a : Answer,
      (∀ e ∈ s.mtb.entries, e.serial = a.serial → ∃ t f, assignStep a s = (t, f) ∧
        t.mtb = { s.mtb with entries := s.mtb.entries.map (fun x => if x.address = e.address then
          ⟨e.address, a.serial, a.kind, a.controls, a.touch, a.meters, .joining, 0, e.expiry⟩ else x) } ∧
        t.sbc.search.step = some (.assign e.address a.serial (some e.state)) ∧
        f = ⟨31, .assign, leBytes 6 a.serial.toNat ++ [BitVec.ofNat 8 e.address]⟩ ∧
        t.rme = (if a.touch = true then s.rme else { s.rme with
          routes := s.rme.routes.map (fun r => { r with level := Safety.letGo e.address r.level })
          buses := s.rme.buses.map (Safety.letGo e.address) })) ∧
      ((∀ e ∈ s.mtb.entries, e.serial ≠ a.serial) → s.mtb.entries.length < 16 →
        ∃ t f n expiry, assignStep a s = (t, f) ∧ 1 ≤ n ∧ n ≤ 30 ∧ s.addressFree n = true ∧
          (∀ m, 1 ≤ m → m < n → s.addressFree m = false) ∧ s.mtb.entry n = none ∧
          t.mtb.entry n = some ⟨n, a.serial, a.kind, a.controls, a.touch, a.meters, .joining, 0, expiry⟩ ∧
          t.mtb.entries.length = s.mtb.entries.length + 1 ∧ t.sbc.search.step = some (.assign n a.serial none) ∧
          f = ⟨31, .assign, leBytes 6 a.serial.toNat ++ [BitVec.ofNat 8 n]⟩) ∧
      (∀ e ∈ s.mtb.entries, (∀ x ∈ s.mtb.entries, x.serial ≠ a.serial) → s.mtb.entries.length = 16 → e.state = .silent →
        let due := fun (x : Entry) => (x.expiry - s.sbc.millis).toInt
        (∀ x ∈ s.mtb.entries, x.state = .silent → due e < due x ∨ due e = due x ∧ e.address ≤ x.address) →
        ∃ t f n expiry, assignStep a s = (t, f) ∧
          let unused := fun (m : Nat) => (∀ x ∈ s.mtb.entries, x.address = m → x = e) ∧
            ∀ q ∈ t.sou.urgent, ¬ (q.frame.kind = .release ∧ q.frame.address = m)
          Safety.moduleGone e .evicted s t ∧ 1 ≤ n ∧ n ≤ 30 ∧ unused n ∧ (∀ m, 1 ≤ m → m < n → ¬ unused m) ∧
          t.mtb.entry n = some ⟨n, a.serial, a.kind, a.controls, a.touch, a.meters, .joining, 0, expiry⟩ ∧
          t.mtb.entries.length = 16 ∧ (∀ x ∈ s.mtb.entries, x ≠ e → x ∈ t.mtb.entries) ∧
          t.sbc.search.step = some (.assign n a.serial none) ∧
          (s.sou.urgent.length < 8 → s.sou.used < 64 → (t.sou.urgent.map (fun q => q.frame)).getLast? =
            some ⟨e.address, .release, []⟩) ∧
          f = ⟨31, .assign, leBytes 6 a.serial.toNat ++ [BitVec.ofNat 8 n]⟩ ∧
          KeepsBut [.records, .rme, .sbc, .mtb, .sou, .bdt, .fresh] s t) ∧
      ((∀ e ∈ s.mtb.entries, e.serial ≠ a.serial ∧ e.state ≠ .silent) → s.mtb.entries.length = 16 →
        ∃ t, assignStep a s = (t, ⟨31, .refuse, leBytes 6 a.serial.toNat⟩) ∧ t.mtb = s.mtb ∧
          t.sbc.search.step = some (.refuse a.serial) ∧
          (Safety.HasRoom 1 s → Safety.Heard (.moduleState ⟨0, a.serial, none, none, .refused, .tableFull, 0⟩) t)))) ∧
  ∀ (n : Nat) (serial : Serial) (from_ : Option ModuleState) (s : State), Sound s →
    s.sbc.search.step = some (.assign n serial from_) → s.sbc.search.answer = none → s.sbc.search.ending = false →
    let settled := if s.sbc.search.stack = [] then Search.idle else { s.sbc.search with step := none }
    let named := fun (e : Entry) => s.mtb.entry n = some e ∧ e.state = .joining ∧ e.serial = serial
    ((∀ e, ¬ named e) → ∀ r, stepResult r s = { s with sbc := { s.sbc with search := settled } }) ∧
    ∀ e, named e →
      (∀ payload,
        let back := fun (b : Binding) => decide (b.state = .orphaned ∧ b.cause = .lostModule ∧
          b.control.origin = .remote n ∧ b.serial = some serial)
        ∃ t, t.sbc = { s.sbc with search := settled } ∧ KeepsBut [.records, .sbc, .mtb, .bdt] s t ∧
          t.mtb = { s.mtb with entries := s.mtb.entries.map (fun x => if x.address = n then
            { x with state := .online, expiry := s.sbc.millis + BitVec.ofNat 32 (s.sbc.lifetime * 500) } else x) } ∧
          t.bdt = s.bdt.map (fun b => if back b = true then { b with state := .active, cause := .none } else b) ∧
          (Safety.HasRoom 1 s → Safety.Heard (.moduleState ⟨n, serial, from_, some .online,
            if from_ = none then .joined else .rejoined, .none, e.quality⟩) t) ∧
          stepResult (.reply .confirm payload) s =
            (s.bdt.filter (fun b => back b && b.feedback)).foldl (fun u b => sendFeedback b u) t) ∧
      ∀ r, (∀ payload, r ≠ .reply .confirm payload) → ∃ t, t = stepResult r s ∧
        t.mtb = { s.mtb with entries := s.mtb.entries.filter (fun x => x.address != n) } ∧ t.sbc.search = settled ∧
        Safety.moduleGone e .noConfirm s t ∧
        (∀ f ∈ t.sou.urgent, ∃ g ∈ s.sou.urgent, g.frame = f.frame) ∧
        KeepsBut [.records, .rme, .sbc, .mtb, .sou, .bdt] s t

/-- R153, R164, R169, R179, R181, R182: MODULE_FORGET is refused for an address out of range, then for want of places for the
RELEASE frames; else the listed modules leave the table, the round and their ACTIVE bindings, and a RELEASE waits for each.
The purge of an address takes its frames out of the queues, but marks the one in flight, and the host frames among them leave
records, and notices where they ask for them. FILTER_SET replaces one filter whole, or the default action. -/
def Obligations.ForgetAndFilters : Prop :=
  (∀ (a : Nat) (s : State), s.sou.history.length ≤ 16 →
    let leaves := fun (f : QFrame) => decide (f.frame.address = a ∧ f.inFlight = false)
    let kept := fun (fs : List QFrame) => (fs.filter (fun f => !leaves f)).map (fun f =>
      if f.frame.address = a then { f with mark := some (f.mark.getD .purged) } else f)
    let gone := (s.sou.urgent ++ s.sou.normal ++ s.sou.meter).filter (fun f => leaves f && decide (f.origin = .host))
    let told := fun (f : QFrame) => (⟨f.tag, a, f.frame.kind, .purged, f.attempts, s.sbc.millis⟩ : HistoryRecord)
    purge a s = notifyAll ((gone.filter (fun f => f.notify)).map (fun f => .surfaceDone (told f))) { s with sou :=
      ⟨kept s.sou.urgent, kept s.sou.normal, kept s.sou.meter,
        (s.sou.history ++ gone.map told).drop (s.sou.history.length + gone.length - 16)⟩ }) ∧
  (∀ (tag : Byte) (addresses : List Byte) (s : State), s.takes = true → 1 ≤ addresses.length → addresses.length ≤ 30 →
    Sound s →
    let listed := fun (a : Nat) => addresses.any (fun b => b.toNat == a)
    let gone := (s.mtb.entries.map (fun e => e.address)).filter listed
    ((∃ b ∈ addresses, b.toNat = 0 ∨ 30 < b.toNat) →
      exec (.moduleForget tag addresses) s = .next (queueReply ⟨0x42, tag, .outOfRange, none⟩ s)) ∧
    ((∀ b ∈ addresses, 1 ≤ b.toNat ∧ b.toNat ≤ 30) → 8 - s.sou.urgent.length < gone.length →
      exec (.moduleForget tag addresses) s = .next (queueReply ⟨0x42, tag, .queueFull, none⟩ s)) ∧
    ((∀ b ∈ addresses, 1 ≤ b.toNat ∧ b.toNat ≤ 30) → gone.length ≤ 8 - s.sou.urgent.length →
      s.sbc.search.answer = none → ∃ t, exec (.moduleForget tag addresses) s = .next t ∧
        Answered 0x42 tag .ok (some (.forgotten gone)) s t ∧
        t.mtb = { s.mtb with entries := s.mtb.entries.filter (fun e => !listed e.address) } ∧
        (∀ a ∈ gone, a ∉ t.sbc.roundList ∧ (∃ f ∈ t.sou.urgent, f.frame = ⟨a, .release, []⟩ ∧ f.origin = .removal) ∧
          ∀ b ∈ t.bdt, b.state = .active → b.control.origin ≠ .remote a) ∧
        KeepsBut [.replies, .records, .rme, .sbc, .mtb, .sou, .bdt] s t)) ∧
  ∀ (tag number enable origin low high kinds action : Byte) (s : State), s.takes = true →
    let put := fun (n : Nat) (f : Filter) => { s with evf := { s.evf with filters := s.evf.filters.set n f } }
    (16 ≤ number.toNat → number.toNat ≠ 255 →
      exec (.filterSet tag number enable origin low high kinds action) s =
        .next (queueReply ⟨0x43, tag, .outOfRange, none⟩ s)) ∧
    (number.toNat = 255 → exec (.filterSet tag number enable origin low high kinds action) s = .next (
      if action.toNat = 0 then queueReply ⟨0x43, tag, .ok, some (.defaultAction .notify)⟩
        { s with evf := { s.evf with default := .notify } }
      else if action.toNat = 2 then queueReply ⟨0x43, tag, .ok, some (.defaultAction .discard)⟩
        { s with evf := { s.evf with default := .discard } }
      else queueReply ⟨0x43, tag, .outOfRange, none⟩ s)) ∧
    (number.toNat < 16 → flagOf enable = none ∨ filterOriginOf origin = none ∨ actionOf action = none →
      exec (.filterSet tag number enable origin low high kinds action) s =
        .next (queueReply ⟨0x43, tag, .outOfRange, none⟩ s)) ∧
    (number.toNat < 16 → ∀ e o act, flagOf enable = some e → filterOriginOf origin = some o → actionOf action = some act →
      let f : Filter := ⟨e, o, low.toNat, high.toNat, kinds.setWidth 5, act⟩
      exec (.filterSet tag number enable origin low high kinds action) s = .next (
        if low.toNat ≤ high.toNat ∧ high.toNat < 64 ∧ kinds.toNat < 32 then
          queueReply ⟨0x43, tag, .ok, some (.filter number.toNat f)⟩ (put number.toNat f)
        else queueReply ⟨0x43, tag, .outOfRange, none⟩ s))

/-! ## Ranges -/

/-- R8, R91, R202: a field outside its range refuses the command with OUT_OF_RANGE ahead of every other check, and
changes nothing. -/
def Obligations.RangeRefusals : Prop :=
  ∀ (tag a b c d e f : Byte) (source destination : PointCode) (gain : Half) (data : List Byte) (s : State),
    s.takes = true →
    let refused := fun (kind : Byte) (row : Instr) => exec row s = .next (queueReply ⟨kind, tag, .outOfRange, none⟩ s)
    let within := fun (x : PointCode) (k : Nat) (top : Nat) => x.kind.toNat = k ∧ x.index.toNat ≤ top
    let badGain := gain.toNat ≠ 0x8000 ∧ gain.toInt < -1200
    (¬ (within source 0 31 ∨ within source 1 63 ∨ within source 2 7) ∨
      ¬ (within destination 3 31 ∨ within destination 4 63 ∨ within destination 5 7) ∨ badGain ∨ 8 ≤ a.toNat →
      refused 0x28 (.routeAdd tag source destination gain a)) ∧
    (128 ≤ a.toNat ∨ badGain → refused 0x2A (.routeSetGain tag a gain)) ∧
    (128 ≤ a.toNat ∨ 2 ≤ b.toNat → refused 0x2B (.routeSetMute tag a b)) ∧
    (8 ≤ a.toNat ∨ 4 ≤ b.toNat ∨ b.toNat % 2 = 1 ∧ badGain ∨ 2 ≤ b.toNat ∧ 2 ≤ c.toNat →
      refused 0x2D (.busSet tag a b gain c)) ∧
    (4 ≤ a.toNat ∨ 2 ≤ b.toNat ∨ c.toNat ∉ [2, 4, 8, 16] → refused 0x20 (.portConfig tag a b c)) ∧
    (4 ≤ a.toNat → refused 0x21 (.portStart tag a) ∧ refused 0x22 (.portStop tag a)) ∧
    (4 ≤ a.toNat ∨ 2 ≤ b.toNat → refused 0x23 (.portMute tag a b)) ∧
    (2 ≤ a.toNat → refused 0x19 (.streamStart tag a) ∧ refused 0x1A (.streamStop tag a)) ∧
    (64 ≤ a.toNat ∨ 4 ≤ b.toNat → refused 0x30 (.meterAssign tag a b source c d)) ∧
    (2 ≤ c.toNat → refused 0x31 (.meterRead tag a b c)) ∧
    (data.length ≤ 32 → 31 ≤ a.toNat ∨ 2 ≤ b.toNat ∨ 2 ≤ c.toNat ∨ 4 ≤ d.toNat ∨ 2 ≤ e.toNat ∨
      b.toNat = 1 ∧ data.length ≠ 3 → refused 0x48 (.surfaceSend tag a b c d e data)) ∧
    (8 ≤ a.toNat ∨ 2 ≤ b.toNat ∨ 2 ≤ c.toNat → refused 0x53 (.faderConfig tag a b d e f d c d)) ∧
    (8 ≤ a.toNat → refused 0x54 (.faderMove tag a gain))

/-! ## Surface output (09) -/

/-- R172, R174, R175, R176, R177: SURFACE_SEND is refused for an address without a module, a full queue and a pool that
cannot make room; else the frame joins the tail of its queue, and frames are dropped only when the free blocks do not hold it,
METER before NORMAL and URGENT never. An internal frame handed over gives its payload to a queued METER frame of its address,
or FEEDBACK frame of its address and control; else it joins the tail, or is discarded without a place or blocks. A delay that
passes leaves the queues as they are (logs 18 and 22). -/
def Obligations.SurfaceSends : Prop :=
  (∀ (tag address kind priority retries notify : Byte) (data : List Byte) (k : FrameKind) (q : QueueId) (w : Bool)
    (s : State), s.takes = true → NothingLeft s → data.length ≤ 32 → address.toNat ≤ 30 → sendKindOf kind = some k →
    priorityOf priority = some q → retries.toNat ≤ 3 → flagOf notify = some w → sendDataOk k data = true →
    let row := Instr.surfaceSend tag address kind priority retries notify data
    let known := address.toNat = 0 ∨ (s.mtb.entry address.toNat).isSome = true
    let place := (s.sou.queue q).length < queueCapacity q
    let blocks := (data.length + 19) / 16
    let used := fun (fs : List QFrame) => (fs.map (fun f => (f.frame.payload.length + 19) / 16)).sum
    let free := 64 - (used s.sou.urgent + used s.sou.normal + used s.sou.meter)
    let spare := fun (fs : List QFrame) => used (fs.filter (fun f => !f.inFlight))
    let new : BusFrame := ⟨address.toNat, k, data⟩
    let joins := fun (p : QueueId) (t : State) => (t.sou.queue p).map (fun f => f.frame) =
      (s.sou.queue p).map (fun f => f.frame) ++ if p = q then [new] else []
    (¬ known → exec row s = .next (queueReply ⟨0x48, tag, .notFound, none⟩ s)) ∧
    (known → ¬ place → exec row s = .next (queueReply ⟨0x48, tag, .queueFull, none⟩ s)) ∧
    (known → place → free + spare s.sou.meter + spare s.sou.normal < blocks →
      exec row s = .next (queueReply ⟨0x48, tag, .noRoom, none⟩ s)) ∧
    (known → place → blocks ≤ free → ∃ t, exec row s = .next t ∧
      Answered 0x48 tag .ok (some (.queued q (s.sou.queue q).length blocks 0)) s t ∧ (∀ p, joins p t) ∧
      (∀ f ∈ (t.sou.queue q).getLast?, f.origin = .host ∧ f.retries = retries.toNat ∧ f.notify = w ∧ f.tag = some tag) ∧
      t.sou.history = s.sou.history ∧ KeepsBut [.replies, .sou, .sbc] s t) ∧
    (known → place → free < blocks → blocks ≤ free + spare s.sou.meter + spare s.sou.normal →
      ∃ t position dropped, exec row s = .next t ∧ 1 ≤ dropped ∧
        Answered 0x48 tag .ok (some (.queued q position blocks dropped)) s t ∧ joins .urgent t ∧
        (blocks ≤ free + spare s.sou.meter → joins .normal t) ∧
        ((t.sou.queue q).map (fun f => f.frame)).getLast? = some new ∧ KeepsBut [.replies, .records, .sou, .sbc] s t)) ∧
  (∀ (q : QueueId) (f : QFrame) (s : State),
    let merges := fun (x : QFrame) => x.frame.address = f.frame.address ∧
      (f.origin = .meter ∧ x.origin = .meter ∨
       f.origin = .feedback ∧ x.origin = .feedback ∧ x.frame.payload.head? = f.frame.payload.head?)
    let blocks := (f.frame.payload.length + 19) / 16
    let spare := fun (fs : List QFrame) => ((fs.filter (fun x => !x.inFlight)).map
      (fun x => (x.frame.payload.length + 19) / 16)).sum
    let given := spare s.sou.meter + if q = .meter then 0 else spare s.sou.normal
    (∀ before x after, s.sou.queue q = before ++ x :: after → merges x → (∀ y ∈ before, ¬ merges y) →
      handFrame q f s = { s with sou := s.sou.putQueue q (before ++ { x with
        frame := { x.frame with payload := f.frame.payload }, renewed := x.renewed || x.inFlight } :: after) }) ∧
    ((∀ x ∈ s.sou.queue q, ¬ merges x) →
      (queueCapacity q ≤ (s.sou.queue q).length ∨ 64 - s.sou.used + given < blocks → handFrame q f s = s) ∧
      ((s.sou.queue q).length < queueCapacity q → blocks ≤ 64 - s.sou.used →
        handFrame q f s = { s with sou := s.sou.putQueue q (s.sou.queue q ++ [f]) }) ∧
      ((s.sou.queue q).length < queueCapacity q → blocks ≤ 64 - s.sou.used + given →
        ((handFrame q f s).sou.queue q).getLast? = some f ∧ KeepsBut [.sou, .records] s (handFrame q f s)))) ∧
  ∀ (q : QueueId) (s : State), NothingLeft s → ∃ t, exec (.frameDelayExpiry q) s = .next t ∧
    (∀ p, (t.sou.queue p).map (fun f => f.frame) = (s.sou.queue p).map (fun f => f.frame)) ∧
    (∀ f ∈ (t.sou.queue q).head?, f.delay = none) ∧ t.sou.history = s.sou.history ∧ KeepsBut [.sou, .sbc] s t

/-- R174, R178, R180, R181, R182, R183: the fate of the head frame by the result of its transaction, without marks, with
an end mark, and renewed. SURFACE_ABORT takes the HOST frames it names out of their queues but the one in flight, which
it marks. SURFACE_HISTORY reports records and queues, and removes the records it reports. The 500 µs that a WAIT's delay
holds are the model's choice (log 22); of a marked frame the results but SENT are said. -/
def Obligations.FrameFates : Prop :=
  (∀ (q : QueueId) (f : QFrame) (rest : List QFrame) (s : State), s.sou.queue q = f :: rest →
    let after := fun (r : TxnResult) => frameOutcome q r s
    let ends := fun (result : FrameResult) (r : TxnResult) => Safety.endsAs q f rest result s (after r)
    let stays := fun (g : QFrame) (r : TxnResult) => after r = { s with sou := s.sou.putQueue q (g :: rest) }
    (f.mark = none → f.renewed = false →
      ends .sent .sent ∧ ends .delivered (.reply .ack []) ∧ ends .refused (.reply .nak []) ∧
      (f.waits < 4 → stays { f with inFlight := false, waits := f.waits + 1, delay := some 500 } (.reply .wait [])) ∧
      (4 ≤ f.waits → ends .moduleBusy (.reply .wait [])) ∧
      (∀ r, r = .noReply ∨ r = .corrupt → 0 < f.retries →
        stays { f with inFlight := false, retries := f.retries - 1, delay := none } r) ∧
      (f.retries = 0 → ends .noReply .noReply ∧ ends .corrupt .corrupt)) ∧
    (∀ m, f.mark = some m →
      let named : FrameResult := match m with
        | .purged => .purged
        | .aborted => .aborted
      ends .delivered (.reply .ack []) ∧ ends .refused (.reply .nak []) ∧
      (f.waits < 4 → ends named (.reply .wait [])) ∧ (4 ≤ f.waits → ends .moduleBusy (.reply .wait [])) ∧
      (0 < f.retries → ends named .noReply ∧ ends named .corrupt) ∧
      (f.retries = 0 → ends .noReply .noReply ∧ ends .corrupt .corrupt)) ∧
    (f.mark = none → f.renewed = true → f.origin = .feedback ∨ f.origin = .meter → ∀ r,
      stays { f with
        inFlight := false, renewed := false, waits := 0, attempts := 0
        retries := if f.origin = .feedback then 1 else 0
        delay := match r with
          | .reply .wait _ => some 500
          | _ => none } r)) ∧
  (∀ (tag selector named : Byte) (s : State), s.takes = true → NothingLeft s → s.sou.history.length ≤ 16 →
    (2 ≤ selector.toNat → exec (.surfaceAbort tag selector named) s = .next (queueReply ⟨0x49, tag, .outOfRange, none⟩ s)) ∧
    (selector.toNat < 2 →
      let names := fun (f : QFrame) => decide (f.origin = .host ∧ (selector.toNat = 1 ∨ f.tag = some named))
      let whole := s.sou.urgent ++ s.sou.normal ++ s.sou.meter
      let gone := whole.filter (fun f => names f && !f.inFlight)
      ∃ t, exec (.surfaceAbort tag selector named) s = .next t ∧
        Answered 0x49 tag .ok (some (.aborted gone.length (whole.any (fun f => names f && f.inFlight)))) s t ∧
        (∀ q, (t.sou.queue q).map (fun f => f.frame) =
          ((s.sou.queue q).filter (fun f => !(names f && !f.inFlight))).map (fun f => f.frame)) ∧
        (∀ q, ∀ f ∈ t.sou.queue q, names f = true → f.mark ≠ none) ∧
        t.sou.history.length = min 16 (s.sou.history.length + gone.length) ∧
        KeepsBut [.replies, .records, .sou, .sbc] s t)) ∧
  ∀ (tag count : Byte) (s : State), s.takes = true →
    (count.toNat = 0 ∨ 16 < count.toNat →
      exec (.surfaceHistory tag count) s = .next (queueReply ⟨0x4A, tag, .outOfRange, none⟩ s)) ∧
    (1 ≤ count.toNat → count.toNat ≤ 16 → exec (.surfaceHistory tag count) s = .next (queueReply ⟨0x4A, tag, .ok,
      some (.history (s.sou.history.take count.toNat)
        [s.sou.urgent.length, s.sou.normal.length, s.sou.meter.length]
        [blocksOf s.sou.urgent, blocksOf s.sou.normal, blocksOf s.sou.meter] (64 - s.sou.used) s.sou.inFlight)⟩
      { s with sou := { s.sou with history := s.sou.history.drop count.toNat } }))

/-! ## Bindings (10) -/

/-- R185, R186, R191, R197: BIND_SET is refused for a control bound elsewhere, a module that is not there and a route that is not
ACTIVE; else the binding replaces the one at its index, whose hold is released, and a motor fader bound with feedback
heads for its target's gain. BIND_CLEAR releases the hold and leaves the binding EMPTY. BIND_LIST reads. -/
def Obligations.BindingCommands : Prop :=
  ∀ (tag index : Byte) (s : State), s.takes = true → s.bdt.length = 32 →
    let i := index.toNat
    (32 ≤ i → exec (.bindClear tag index) s = .next (queueReply ⟨0x51, tag, .outOfRange, none⟩ s)) ∧
    (i < 32 → (s.binding i).state = .empty →
      exec (.bindClear tag index) s = .next (queueReply ⟨0x51, tag, .notFound, none⟩ s)) ∧
    (i < 32 → (s.binding i).state ≠ .empty → exec (.bindClear tag index) s = .next (queueReply ⟨0x51, tag, .ok, none⟩
      { s with bdt := s.bdt.set i Binding.emptyEntry, rme := Safety.unheldBy (s.binding i) s.rme })) ∧
    exec (.bindList tag) s = .next (queueReply ⟨0x52, tag, .ok, some (.bindings (s.bdt.map (fun b =>
      (b, decide (b.state ≠ .empty ∧ (s.rme.level b.target.ref).holder = some b.control)))))⟩ s) ∧
    ∀ (origin control targetKind targetIndex mode step feedback : Byte),
      let row := Instr.bindSet tag index origin control targetKind targetIndex mode step feedback
      (32 ≤ i ∨ controlOf origin control = none ∨ targetOf targetKind targetIndex = none ∨ bindModeOf mode = none ∨
        flagOf feedback = none → exec row s = .next (queueReply ⟨0x50, tag, .outOfRange, none⟩ s)) ∧
      ∀ c x m w, i < 32 → controlOf origin control = some c → targetOf targetKind targetIndex = some x →
        bindModeOf mode = some m → flagOf feedback = some w →
        let suits := (m = .toggle ↔ (∃ id, x = .routeMute id) ∨ ∃ n, x = .busMute n)
        let taken := ∃ n < 32, n ≠ i ∧ (s.binding n).state ≠ .empty ∧ (s.binding n).control = c
        let absent := ∃ a, c.origin = .remote a ∧ s.mtb.entry a = none
        let idle := ∃ id, x.ref = .route id ∧ (s.rme.route id).state ≠ .active
        (¬ suits → exec row s = .next (queueReply ⟨0x50, tag, .outOfRange, none⟩ s)) ∧
        (suits → taken → exec row s = .next (queueReply ⟨0x50, tag, .inUse, none⟩ s)) ∧
        (suits → ¬ taken → absent ∨ idle → exec row s = .next (queueReply ⟨0x50, tag, .notFound, none⟩ s)) ∧
        (suits → ¬ taken → ¬ absent → ¬ idle → NothingLeft s →
          ∃ t b, exec row s = .next t ∧
            Answered 0x50 tag (if step.toNat = 0 ∨ 60 < step.toNat then .adjusted else .ok) (some (.binding b)) s t ∧
            b.state = .active ∧ b.cause = .none ∧ b.control = c ∧ b.target = x ∧ b.mode = m ∧ b.feedback = w ∧
            b.step = max 1 (min 60 step.toNat) ∧ (c.origin = .bank → b.serial = none) ∧
            (∀ a e, c.origin = .remote a → s.mtb.entry a = some e → b.serial = some e.serial) ∧
            t.bdt = s.bdt.set i b ∧ t.rme = Safety.unheldBy (s.binding i) s.rme ∧
            KeepsBut [.replies, .records, .rme, .sbc, .sou, .bdt, .fsv] s t ∧
            (w = false → t.fsv = s.fsv ∧ t.sou = s.sou) ∧
            (w = true → c.origin = .bank → m ≠ .toggle → s.fsv.channels.length = 8 →
              (s.fsv.channel c.number).state ≠ .disabled → (s.fsv.channel c.number).touch = false →
              (t.fsv.channel c.number).target = inversePosition (s.rme.level x.ref).gain))

/-- R168, R187, R188, R189, R190, R191: what a surface event does at the ACTIVE binding of its control: the hold rule and
the taper of a fader, the turn of an encoder, the press of a button; an event without an ACTIVE binding changes nothing
here. The inverse position of a gain is the lowest that reaches it. The first filter that matches decides the notice. That
a FADER event of a holder without touch capability changes nothing is the model's choice (log 20: R188 says it cannot
arise). -/
def Obligations.EventsAtBindings : Prop :=
  (∀ (i : Nat) (b : Binding) (e : SurfaceEvent) (s : State), BindingsSound s → i < 32 → s.binding i = b →
    b.state = .active → b.control = e.control →
    let x := b.target.ref
    let l := s.rme.level x
    let held := fun (h : Option Control) => { s with rme := s.rme.putLevel x { l with holder := h } }
    (b.mode = .relative → bindingEvent e s =
      if e.kind = .encoder ∧ l.holder = none then setTarget x (some (Safety.turned l.gain e.value b.step)) none (some i) s
      else s) ∧
    (b.mode = .toggle → bindingEvent e s =
      if e.kind = .button ∧ e.value = 1 then setTarget x none (some (!l.mute)) (some i) s else s) ∧
    (b.mode = .absolute →
      (e.kind = .fader → ∀ p : Nat, e.value = p → p ≤ 1023 → bindingEvent e s =
        if l.holder = (if s.touchCapable e.control then some e.control else none) then
          setTarget x (some (taper p)) none (some i) s
        else s) ∧
      (e.kind = .touch → e.value = 1 → bindingEvent e s =
        if s.touchCapable e.control = true ∧ l.holder = none then held (some e.control) else s) ∧
      (e.kind = .touch → e.value = 0 → bindingEvent e s =
        if s.touchCapable e.control = true ∧ l.holder = some e.control then held none else s) ∧
      (e.kind ≠ .fader → e.kind ≠ .touch → bindingEvent e s = s))) ∧
  (∀ (e : SurfaceEvent) (s : State), (∀ b ∈ s.bdt, b.state = .active → b.control ≠ e.control) →
    bindingEvent e s = s) ∧
  (∀ p ≤ 1023, taper p = if p = 0 then .off else .tenths (
    if p ≤ 255 then -1200 + Int.fdiv ((p - 1 : Int) * 800) 254
    else if p ≤ 767 then -400 + Int.fdiv ((p - 256 : Int) * 400) 511 else Int.fdiv ((p - 768 : Int) * 100) 255)) ∧
  (inversePosition .off = 0 ∧ ∀ g : Int, -1200 ≤ g → g ≤ 120 → ∃ p, inversePosition (.tenths g) = p ∧ 1 ≤ p ∧ p ≤ 1023 ∧
    (∀ q, 1 ≤ q → q < p → ∃ n, taper q = .tenths n ∧ n < g) ∧ (g ≤ 100 → ∃ n, taper p = .tenths n ∧ g ≤ n) ∧
    (100 < g → p = 1023)) ∧
  ∀ (e : SurfaceEvent) (s : State),
    let hears := fun (f : Filter) => f.enable = true ∧ (f.origin = none ∨ f.origin = some e.control.origin) ∧
      f.low ≤ e.control.number ∧ e.control.number ≤ f.high ∧ f.kinds.getLsbD e.kind.code = true
    let decides := fun (n : Nat) (a : FilterAction) => filterEvent e s =
      if a = .discard then s else notify (.event n a e) s
    (∀ before f after, s.evf.filters = before ++ f :: after → hears f → (∀ g ∈ before, ¬ hears g) →
      decides before.length f.action) ∧
    ((∀ f ∈ s.evf.filters, ¬ hears f) → decides 255 s.evf.default)

/-! ## Faders (10) -/

/-- R193, R197, R199: FADER_CLEAR takes a channel out of FAULT with its target at its position, and nothing else but
disabling, RESET and power takes it out (TAKE_COMMAND carries those commands). FADER_MOVE is refused by a DISABLED and a
touched channel and else hands over a target. FADER_CONFIG stores its settings as clamped, enables and disables; the
deadband and rest mode in force stand until the next servo period reads those stored (log 42). The model's choice: enabling
takes touch from the sensor of the last servo period (log 16). -/
def Obligations.FaderCommands : Prop :=
  (∀ (c : Instr) (i : Nat) (s t : State), i < 8 → s.fsv.channels.length = 8 → (s.fsv.channel i).state = .fault →
    exec c s = .next t → (t.fsv.channel i).state ≠ .fault →
    c = .powerOn ∨ c = .takeCommand ∨ (∃ tag, c = .reset tag) ∨ (∃ tag n, c = .faderClear tag n ∧ n.toNat = i) ∨
    ∃ tag n kp deadband low high rest limit, c = .faderConfig tag n 0 kp deadband low high rest limit ∧ n.toNat = i) ∧
  ∀ (tag channel : Byte) (position : Half) (s : State), s.takes = true → s.fsv.channels.length = 8 →
    let i := channel.toNat
    let f := s.fsv.channel i
    let becomes := fun (g : Fader) (t : State) => t.fsv = { s.fsv with channels := s.fsv.channels.set i g }
    (8 ≤ i → exec (.faderClear tag channel) s = .next (queueReply ⟨0x55, tag, .outOfRange, none⟩ s)) ∧
    (i < 8 → f.state ≠ .fault →
      exec (.faderClear tag channel) s = .next (queueReply ⟨0x55, tag, .ok, some (.faderStanding f.state)⟩ s)) ∧
    (i < 8 → f.state = .fault → ∃ t st, st = (if s.fsv.supplyGood then FaderState.idle else .held) ∧
      exec (.faderClear tag channel) s = .next t ∧ Answered 0x55 tag .ok (some (.faderStanding st)) s t ∧
      becomes { f with state := st, fault := .none, target := f.position, duty := 0, overRun := 0, openRun := 0 } t ∧
      (Safety.HasRoom 1 s → Safety.Heard (.faderState i .fault st .cleared f.position f.position .none) t) ∧
      KeepsBut [.replies, .records, .fsv] s t) ∧
    (i < 8 → f.state = .disabled →
      exec (.faderMove tag channel position) s = .next (queueReply ⟨0x54, tag, .wrongState, none⟩ s)) ∧
    (i < 8 → f.state ≠ .disabled → f.touch = true →
      exec (.faderMove tag channel position) s = .next (queueReply ⟨0x54, tag, .heldBySurface, none⟩ s)) ∧
    (i < 8 → f.state ≠ .disabled → f.touch = false → ∃ t, exec (.faderMove tag channel position) s = .next t ∧
      Answered 0x54 tag (if 1023 < position.toNat then .adjusted else .ok)
        (some (.faderPosition (min 1023 position.toNat))) s t ∧
      becomes (Safety.headed f (min 1023 position.toNat)) t ∧ KeepsBut [.replies, .records, .fsv] s t) ∧
    ∀ (enable kp deadband minDuty maxDuty rest limit : Byte) (e : Bool) (r : RestMode), i < 8 → flagOf enable = some e →
      restOf rest = some r →
      let high := max 1 maxDuty.toNat
      let x : FaderSettings := ⟨e, max 1 (min 64 kp.toNat), max 1 (min 32 deadband.toNat), min minDuty.toNat high, high, r,
        max 1 limit.toNat⟩
      let stored := { f with
        enable := e, kp := x.kp, deadband := x.deadband, minDuty := x.minDuty, maxDuty := high, rest := r
        limit := x.limit }
      ∃ t, exec (.faderConfig tag channel enable kp deadband minDuty maxDuty rest limit) s = .next t ∧
        Answered 0x53 tag (if kp.toNat = x.kp ∧ deadband.toNat = x.deadband ∧ minDuty.toNat = x.minDuty ∧
          maxDuty.toNat = high ∧ limit.toNat = x.limit then .ok else .adjusted) (some (.faderSettings x)) s t ∧
        (e = true → f.state = .disabled → becomes { stored with
          state := if s.fsv.supplyGood then .idle else .held, target := f.position, reported := f.position, motion := 0
          overRun := 0, openRun := 0, fault := .none, duty := 0, touch := f.touchSensor } t) ∧
        (e = false → f.state ≠ .disabled → becomes { stored with state := .disabled, duty := 0, touch := false } t ∧
          (∀ q ∈ t.rme.routes, q.level.holder ≠ some ⟨.bank, i⟩) ∧ (∀ l ∈ t.rme.buses, l.holder ≠ some ⟨.bank, i⟩)) ∧
        (e = true ∧ f.state ≠ .disabled ∨ e = false ∧ f.state = .disabled → becomes stored t ∧ t.msu.notices = s.msu.notices) ∧
        (e = true ∨ f.state = .disabled → t.rme = s.rme) ∧ KeepsBut [.replies, .records, .rme, .fsv] s t

/-- R166, R193, R194, R195, R196, R198, R201: the motor terminals follow the channel's state by the table of R196. A servo period samples every channel, in DISABLED that is all; then touch is handled
channel 0 first, with its events, and a touch stops the motor; then every MOVING channel without a hand acts on its sample. The
motion timer stalls, and the supply input holds channels back and lets them go. The model's choices: the order across channels
and the touch sampling (log 16), that MOTION_TIMER_EXPIRY acts at its own word (log 4), that the SUPPLY rows act at a change of
level alone (log 38), that a servo period reads the settings stored at its start, which SUPPLY_BACK and the terminals then
follow until the next (log 42), and that the drive just ended is the duty standing at the sample (log 49). -/
def Obligations.FaderServo : Prop :=
  (∀ f : Fader,
    (f.state = .moving → 0 < f.duty → f.terminals = (.switched f.duty.toNat, .low)) ∧
    (f.state = .moving → f.duty < 0 → f.terminals = (.low, .switched (-f.duty).toNat)) ∧
    (f.state = .moving ∧ f.duty = 0 ∨ (f.state = .idle ∨ f.state = .stalled) ∧ f.touch = false → f.terminals =
      if f.restInForce = .brake then (.low, .low) else (.released, .released)) ∧
    (f.state = .idle ∧ f.touch = true ∨ f.state = .disabled ∨ f.state = .fault ∨ f.state = .held →
      f.terminals = (.released, .released))) ∧
  ∀ (samples : List FaderSample) (j : Fin 8) (s : State), FadersSound s.fsv → NothingLeft s →
    (Instr.servoPeriod samples).wellFormed = true →
    let ch := fun (n : Nat) => s.fsv.channel n
    let x := fun (n : Nat) => samples.getD n ⟨0, false, 0⟩
    let sampled := { s with fsv := { s.fsv with channels := (List.range 8).map (fun n =>
      { ch n with
        position := (x n).position, touchSensor := (x n).touch, deadbandInForce := (ch n).deadband
        restInForce := (ch n).rest }) } }
    exec (.servoPeriod samples) s = .next (schedule ((List.range 8).foldl
      (fun u n => Safety.channelDriven (fun m => (x m).current) n u)
      ((List.range 8).foldl (fun u n => Safety.handFollowed n u) sampled))) ∧
    (∃ t, exec (.servoPeriod samples) s = .next t ∧
      (∀ n x, samples[n]? = some x → (t.fsv.channel n).position = x.position ∧
        ((ch n).state = .disabled → t.fsv.channel n = { ch n with
          position := x.position, touchSensor := x.touch, deadbandInForce := (ch n).deadband, restInForce := (ch n).rest }) ∧
        ((ch n).state ≠ .disabled → (t.fsv.channel n).touch = x.touch ∧
          (x.touch = true → (t.fsv.channel n).duty = 0 ∧ (t.fsv.channel n).state =
            if (ch n).touch = true ∨ (ch n).state = .fault ∨ (ch n).state = .held then (ch n).state else .idle))) ∧
      ((∀ x ∈ samples, x.touch = false) → (∀ n < 8, (ch n).touch = false) → KeepsBut [.records, .fsv] s t ∧
        ∀ n x, samples[n]? = some x → t.fsv.channel n =
          Safety.driven { ch n with
            position := x.position, touchSensor := x.touch, deadbandInForce := (ch n).deadband
            restInForce := (ch n).rest } x.current)) ∧
    ((ch j).state ≠ .moving → exec (.motionTimerExpiry j) s = .next s) ∧
    ((ch j).state = .moving → ∃ t, exec (.motionTimerExpiry j) s = .next t ∧ KeepsBut [.records, .fsv] s t ∧
      t.fsv = { s.fsv with channels := s.fsv.channels.set j { ch j with
        state := .stalled, motion := 800, duty := 0, overRun := 0, openRun := 0 } }) ∧
    (s.fsv.supplyGood = false → exec .supplyLow s = .next s) ∧
    (s.fsv.supplyGood = true → exec .supplyBack s = .next s) ∧
    (s.fsv.supplyGood = true → ∃ t, exec .supplyLow s = .next t ∧ KeepsBut [.records, .fsv] s t ∧
      t.fsv.supplyGood = false ∧ t.fsv.channels = s.fsv.channels.map (fun f =>
        if f.state = .idle ∨ f.state = .moving ∨ f.state = .stalled then { f with state := .held, duty := 0 } else f)) ∧
    (s.fsv.supplyGood = false → ∃ t, exec .supplyBack s = .next t ∧ KeepsBut [.records, .fsv] s t ∧
      t.fsv.supplyGood = true ∧ t.fsv.channels = s.fsv.channels.map (fun f =>
        if f.state ≠ .held then f
        else if f.touch = false ∧ f.deadbandInForce < ((f.target : Int) - f.position).natAbs then
          { f with state := .moving, motion := 0, overRun := 0, openRun := 0 }
        else { f with state := .idle, duty := 0, overRun := 0, openRun := 0 }))

end Claims
end

