-- ==== Sys2Proof/Laws/State.lean ====
section
/-! SUPPORT. One lemma for each field under each update of a block, and how updates of one block compose. -/

namespace Sys2Proof.Machine.State

@[simp] theorem withPhase_phase (s : State) (x : Phase) : (s.withPhase x).phase = x := rfl
@[simp] theorem withPhase_lif (s : State) (x : Phase) : (s.withPhase x).lif = s.lif := rfl
@[simp] theorem withPhase_msu (s : State) (x : Phase) : (s.withPhase x).msu = s.msu := rfl
@[simp] theorem withPhase_cku (s : State) (x : Phase) : (s.withPhase x).cku = s.cku := rfl
@[simp] theorem withPhase_stu (s : State) (x : Phase) : (s.withPhase x).stu = s.stu := rfl
@[simp] theorem withPhase_ptu (s : State) (x : Phase) : (s.withPhase x).ptu = s.ptu := rfl
@[simp] theorem withPhase_rme (s : State) (x : Phase) : (s.withPhase x).rme = s.rme := rfl
@[simp] theorem withPhase_sbc (s : State) (x : Phase) : (s.withPhase x).sbc = s.sbc := rfl
@[simp] theorem withPhase_mtb (s : State) (x : Phase) : (s.withPhase x).mtb = s.mtb := rfl
@[simp] theorem withPhase_evf (s : State) (x : Phase) : (s.withPhase x).evf = s.evf := rfl
@[simp] theorem withPhase_sou (s : State) (x : Phase) : (s.withPhase x).sou = s.sou := rfl
@[simp] theorem withPhase_bdt (s : State) (x : Phase) : (s.withPhase x).bdt = s.bdt := rfl
@[simp] theorem withPhase_fsv (s : State) (x : Phase) : (s.withPhase x).fsv = s.fsv := rfl
@[simp] theorem withPhase_fresh (s : State) (x : Phase) : (s.withPhase x).fresh = s.fresh := rfl
@[simp] theorem withPhase_pending (s : State) (x : Phase) : (s.withPhase x).pending = s.pending := rfl
@[simp] theorem withPhase_withPhase (s : State) (x y : Phase) : (s.withPhase x).withPhase y = s.withPhase y := rfl
@[simp] theorem withPhase_self (s : State) : s.withPhase s.phase = s := rfl

@[simp] theorem withLif_phase (s : State) (x : Lif) : (s.withLif x).phase = s.phase := rfl
@[simp] theorem withLif_lif (s : State) (x : Lif) : (s.withLif x).lif = x := rfl
@[simp] theorem withLif_msu (s : State) (x : Lif) : (s.withLif x).msu = s.msu := rfl
@[simp] theorem withLif_cku (s : State) (x : Lif) : (s.withLif x).cku = s.cku := rfl
@[simp] theorem withLif_stu (s : State) (x : Lif) : (s.withLif x).stu = s.stu := rfl
@[simp] theorem withLif_ptu (s : State) (x : Lif) : (s.withLif x).ptu = s.ptu := rfl
@[simp] theorem withLif_rme (s : State) (x : Lif) : (s.withLif x).rme = s.rme := rfl
@[simp] theorem withLif_sbc (s : State) (x : Lif) : (s.withLif x).sbc = s.sbc := rfl
@[simp] theorem withLif_mtb (s : State) (x : Lif) : (s.withLif x).mtb = s.mtb := rfl
@[simp] theorem withLif_evf (s : State) (x : Lif) : (s.withLif x).evf = s.evf := rfl
@[simp] theorem withLif_sou (s : State) (x : Lif) : (s.withLif x).sou = s.sou := rfl
@[simp] theorem withLif_bdt (s : State) (x : Lif) : (s.withLif x).bdt = s.bdt := rfl
@[simp] theorem withLif_fsv (s : State) (x : Lif) : (s.withLif x).fsv = s.fsv := rfl
@[simp] theorem withLif_fresh (s : State) (x : Lif) : (s.withLif x).fresh = s.fresh := rfl
@[simp] theorem withLif_pending (s : State) (x : Lif) : (s.withLif x).pending = s.pending := rfl
@[simp] theorem withLif_withLif (s : State) (x y : Lif) : (s.withLif x).withLif y = s.withLif y := rfl
@[simp] theorem withLif_self (s : State) : s.withLif s.lif = s := rfl

@[simp] theorem withMsu_phase (s : State) (x : Msu) : (s.withMsu x).phase = s.phase := rfl
@[simp] theorem withMsu_lif (s : State) (x : Msu) : (s.withMsu x).lif = s.lif := rfl
@[simp] theorem withMsu_msu (s : State) (x : Msu) : (s.withMsu x).msu = x := rfl
@[simp] theorem withMsu_cku (s : State) (x : Msu) : (s.withMsu x).cku = s.cku := rfl
@[simp] theorem withMsu_stu (s : State) (x : Msu) : (s.withMsu x).stu = s.stu := rfl
@[simp] theorem withMsu_ptu (s : State) (x : Msu) : (s.withMsu x).ptu = s.ptu := rfl
@[simp] theorem withMsu_rme (s : State) (x : Msu) : (s.withMsu x).rme = s.rme := rfl
@[simp] theorem withMsu_sbc (s : State) (x : Msu) : (s.withMsu x).sbc = s.sbc := rfl
@[simp] theorem withMsu_mtb (s : State) (x : Msu) : (s.withMsu x).mtb = s.mtb := rfl
@[simp] theorem withMsu_evf (s : State) (x : Msu) : (s.withMsu x).evf = s.evf := rfl
@[simp] theorem withMsu_sou (s : State) (x : Msu) : (s.withMsu x).sou = s.sou := rfl
@[simp] theorem withMsu_bdt (s : State) (x : Msu) : (s.withMsu x).bdt = s.bdt := rfl
@[simp] theorem withMsu_fsv (s : State) (x : Msu) : (s.withMsu x).fsv = s.fsv := rfl
@[simp] theorem withMsu_fresh (s : State) (x : Msu) : (s.withMsu x).fresh = s.fresh := rfl
@[simp] theorem withMsu_pending (s : State) (x : Msu) : (s.withMsu x).pending = s.pending := rfl
@[simp] theorem withMsu_withMsu (s : State) (x y : Msu) : (s.withMsu x).withMsu y = s.withMsu y := rfl
@[simp] theorem withMsu_self (s : State) : s.withMsu s.msu = s := rfl

@[simp] theorem withCku_phase (s : State) (x : Cku) : (s.withCku x).phase = s.phase := rfl
@[simp] theorem withCku_lif (s : State) (x : Cku) : (s.withCku x).lif = s.lif := rfl
@[simp] theorem withCku_msu (s : State) (x : Cku) : (s.withCku x).msu = s.msu := rfl
@[simp] theorem withCku_cku (s : State) (x : Cku) : (s.withCku x).cku = x := rfl
@[simp] theorem withCku_stu (s : State) (x : Cku) : (s.withCku x).stu = s.stu := rfl
@[simp] theorem withCku_ptu (s : State) (x : Cku) : (s.withCku x).ptu = s.ptu := rfl
@[simp] theorem withCku_rme (s : State) (x : Cku) : (s.withCku x).rme = s.rme := rfl
@[simp] theorem withCku_sbc (s : State) (x : Cku) : (s.withCku x).sbc = s.sbc := rfl
@[simp] theorem withCku_mtb (s : State) (x : Cku) : (s.withCku x).mtb = s.mtb := rfl
@[simp] theorem withCku_evf (s : State) (x : Cku) : (s.withCku x).evf = s.evf := rfl
@[simp] theorem withCku_sou (s : State) (x : Cku) : (s.withCku x).sou = s.sou := rfl
@[simp] theorem withCku_bdt (s : State) (x : Cku) : (s.withCku x).bdt = s.bdt := rfl
@[simp] theorem withCku_fsv (s : State) (x : Cku) : (s.withCku x).fsv = s.fsv := rfl
@[simp] theorem withCku_fresh (s : State) (x : Cku) : (s.withCku x).fresh = s.fresh := rfl
@[simp] theorem withCku_pending (s : State) (x : Cku) : (s.withCku x).pending = s.pending := rfl
@[simp] theorem withCku_withCku (s : State) (x y : Cku) : (s.withCku x).withCku y = s.withCku y := rfl
@[simp] theorem withCku_self (s : State) : s.withCku s.cku = s := rfl

@[simp] theorem withStu_phase (s : State) (x : Stu) : (s.withStu x).phase = s.phase := rfl
@[simp] theorem withStu_lif (s : State) (x : Stu) : (s.withStu x).lif = s.lif := rfl
@[simp] theorem withStu_msu (s : State) (x : Stu) : (s.withStu x).msu = s.msu := rfl
@[simp] theorem withStu_cku (s : State) (x : Stu) : (s.withStu x).cku = s.cku := rfl
@[simp] theorem withStu_stu (s : State) (x : Stu) : (s.withStu x).stu = x := rfl
@[simp] theorem withStu_ptu (s : State) (x : Stu) : (s.withStu x).ptu = s.ptu := rfl
@[simp] theorem withStu_rme (s : State) (x : Stu) : (s.withStu x).rme = s.rme := rfl
@[simp] theorem withStu_sbc (s : State) (x : Stu) : (s.withStu x).sbc = s.sbc := rfl
@[simp] theorem withStu_mtb (s : State) (x : Stu) : (s.withStu x).mtb = s.mtb := rfl
@[simp] theorem withStu_evf (s : State) (x : Stu) : (s.withStu x).evf = s.evf := rfl
@[simp] theorem withStu_sou (s : State) (x : Stu) : (s.withStu x).sou = s.sou := rfl
@[simp] theorem withStu_bdt (s : State) (x : Stu) : (s.withStu x).bdt = s.bdt := rfl
@[simp] theorem withStu_fsv (s : State) (x : Stu) : (s.withStu x).fsv = s.fsv := rfl
@[simp] theorem withStu_fresh (s : State) (x : Stu) : (s.withStu x).fresh = s.fresh := rfl
@[simp] theorem withStu_pending (s : State) (x : Stu) : (s.withStu x).pending = s.pending := rfl
@[simp] theorem withStu_withStu (s : State) (x y : Stu) : (s.withStu x).withStu y = s.withStu y := rfl
@[simp] theorem withStu_self (s : State) : s.withStu s.stu = s := rfl

@[simp] theorem withPtu_phase (s : State) (x : List Port) : (s.withPtu x).phase = s.phase := rfl
@[simp] theorem withPtu_lif (s : State) (x : List Port) : (s.withPtu x).lif = s.lif := rfl
@[simp] theorem withPtu_msu (s : State) (x : List Port) : (s.withPtu x).msu = s.msu := rfl
@[simp] theorem withPtu_cku (s : State) (x : List Port) : (s.withPtu x).cku = s.cku := rfl
@[simp] theorem withPtu_stu (s : State) (x : List Port) : (s.withPtu x).stu = s.stu := rfl
@[simp] theorem withPtu_ptu (s : State) (x : List Port) : (s.withPtu x).ptu = x := rfl
@[simp] theorem withPtu_rme (s : State) (x : List Port) : (s.withPtu x).rme = s.rme := rfl
@[simp] theorem withPtu_sbc (s : State) (x : List Port) : (s.withPtu x).sbc = s.sbc := rfl
@[simp] theorem withPtu_mtb (s : State) (x : List Port) : (s.withPtu x).mtb = s.mtb := rfl
@[simp] theorem withPtu_evf (s : State) (x : List Port) : (s.withPtu x).evf = s.evf := rfl
@[simp] theorem withPtu_sou (s : State) (x : List Port) : (s.withPtu x).sou = s.sou := rfl
@[simp] theorem withPtu_bdt (s : State) (x : List Port) : (s.withPtu x).bdt = s.bdt := rfl
@[simp] theorem withPtu_fsv (s : State) (x : List Port) : (s.withPtu x).fsv = s.fsv := rfl
@[simp] theorem withPtu_fresh (s : State) (x : List Port) : (s.withPtu x).fresh = s.fresh := rfl
@[simp] theorem withPtu_pending (s : State) (x : List Port) : (s.withPtu x).pending = s.pending := rfl
@[simp] theorem withPtu_withPtu (s : State) (x y : List Port) : (s.withPtu x).withPtu y = s.withPtu y := rfl
@[simp] theorem withPtu_self (s : State) : s.withPtu s.ptu = s := rfl

@[simp] theorem withRme_phase (s : State) (x : Rme) : (s.withRme x).phase = s.phase := rfl
@[simp] theorem withRme_lif (s : State) (x : Rme) : (s.withRme x).lif = s.lif := rfl
@[simp] theorem withRme_msu (s : State) (x : Rme) : (s.withRme x).msu = s.msu := rfl
@[simp] theorem withRme_cku (s : State) (x : Rme) : (s.withRme x).cku = s.cku := rfl
@[simp] theorem withRme_stu (s : State) (x : Rme) : (s.withRme x).stu = s.stu := rfl
@[simp] theorem withRme_ptu (s : State) (x : Rme) : (s.withRme x).ptu = s.ptu := rfl
@[simp] theorem withRme_rme (s : State) (x : Rme) : (s.withRme x).rme = x := rfl
@[simp] theorem withRme_sbc (s : State) (x : Rme) : (s.withRme x).sbc = s.sbc := rfl
@[simp] theorem withRme_mtb (s : State) (x : Rme) : (s.withRme x).mtb = s.mtb := rfl
@[simp] theorem withRme_evf (s : State) (x : Rme) : (s.withRme x).evf = s.evf := rfl
@[simp] theorem withRme_sou (s : State) (x : Rme) : (s.withRme x).sou = s.sou := rfl
@[simp] theorem withRme_bdt (s : State) (x : Rme) : (s.withRme x).bdt = s.bdt := rfl
@[simp] theorem withRme_fsv (s : State) (x : Rme) : (s.withRme x).fsv = s.fsv := rfl
@[simp] theorem withRme_fresh (s : State) (x : Rme) : (s.withRme x).fresh = s.fresh := rfl
@[simp] theorem withRme_pending (s : State) (x : Rme) : (s.withRme x).pending = s.pending := rfl
@[simp] theorem withRme_withRme (s : State) (x y : Rme) : (s.withRme x).withRme y = s.withRme y := rfl
@[simp] theorem withRme_self (s : State) : s.withRme s.rme = s := rfl

@[simp] theorem withSbc_phase (s : State) (x : Sbc) : (s.withSbc x).phase = s.phase := rfl
@[simp] theorem withSbc_lif (s : State) (x : Sbc) : (s.withSbc x).lif = s.lif := rfl
@[simp] theorem withSbc_msu (s : State) (x : Sbc) : (s.withSbc x).msu = s.msu := rfl
@[simp] theorem withSbc_cku (s : State) (x : Sbc) : (s.withSbc x).cku = s.cku := rfl
@[simp] theorem withSbc_stu (s : State) (x : Sbc) : (s.withSbc x).stu = s.stu := rfl
@[simp] theorem withSbc_ptu (s : State) (x : Sbc) : (s.withSbc x).ptu = s.ptu := rfl
@[simp] theorem withSbc_rme (s : State) (x : Sbc) : (s.withSbc x).rme = s.rme := rfl
@[simp] theorem withSbc_sbc (s : State) (x : Sbc) : (s.withSbc x).sbc = x := rfl
@[simp] theorem withSbc_mtb (s : State) (x : Sbc) : (s.withSbc x).mtb = s.mtb := rfl
@[simp] theorem withSbc_evf (s : State) (x : Sbc) : (s.withSbc x).evf = s.evf := rfl
@[simp] theorem withSbc_sou (s : State) (x : Sbc) : (s.withSbc x).sou = s.sou := rfl
@[simp] theorem withSbc_bdt (s : State) (x : Sbc) : (s.withSbc x).bdt = s.bdt := rfl
@[simp] theorem withSbc_fsv (s : State) (x : Sbc) : (s.withSbc x).fsv = s.fsv := rfl
@[simp] theorem withSbc_fresh (s : State) (x : Sbc) : (s.withSbc x).fresh = s.fresh := rfl
@[simp] theorem withSbc_pending (s : State) (x : Sbc) : (s.withSbc x).pending = s.pending := rfl
@[simp] theorem withSbc_withSbc (s : State) (x y : Sbc) : (s.withSbc x).withSbc y = s.withSbc y := rfl
@[simp] theorem withSbc_self (s : State) : s.withSbc s.sbc = s := rfl

@[simp] theorem withMtb_phase (s : State) (x : Mtb) : (s.withMtb x).phase = s.phase := rfl
@[simp] theorem withMtb_lif (s : State) (x : Mtb) : (s.withMtb x).lif = s.lif := rfl
@[simp] theorem withMtb_msu (s : State) (x : Mtb) : (s.withMtb x).msu = s.msu := rfl
@[simp] theorem withMtb_cku (s : State) (x : Mtb) : (s.withMtb x).cku = s.cku := rfl
@[simp] theorem withMtb_stu (s : State) (x : Mtb) : (s.withMtb x).stu = s.stu := rfl
@[simp] theorem withMtb_ptu (s : State) (x : Mtb) : (s.withMtb x).ptu = s.ptu := rfl
@[simp] theorem withMtb_rme (s : State) (x : Mtb) : (s.withMtb x).rme = s.rme := rfl
@[simp] theorem withMtb_sbc (s : State) (x : Mtb) : (s.withMtb x).sbc = s.sbc := rfl
@[simp] theorem withMtb_mtb (s : State) (x : Mtb) : (s.withMtb x).mtb = x := rfl
@[simp] theorem withMtb_evf (s : State) (x : Mtb) : (s.withMtb x).evf = s.evf := rfl
@[simp] theorem withMtb_sou (s : State) (x : Mtb) : (s.withMtb x).sou = s.sou := rfl
@[simp] theorem withMtb_bdt (s : State) (x : Mtb) : (s.withMtb x).bdt = s.bdt := rfl
@[simp] theorem withMtb_fsv (s : State) (x : Mtb) : (s.withMtb x).fsv = s.fsv := rfl
@[simp] theorem withMtb_fresh (s : State) (x : Mtb) : (s.withMtb x).fresh = s.fresh := rfl
@[simp] theorem withMtb_pending (s : State) (x : Mtb) : (s.withMtb x).pending = s.pending := rfl
@[simp] theorem withMtb_withMtb (s : State) (x y : Mtb) : (s.withMtb x).withMtb y = s.withMtb y := rfl
@[simp] theorem withMtb_self (s : State) : s.withMtb s.mtb = s := rfl

@[simp] theorem withEvf_phase (s : State) (x : Evf) : (s.withEvf x).phase = s.phase := rfl
@[simp] theorem withEvf_lif (s : State) (x : Evf) : (s.withEvf x).lif = s.lif := rfl
@[simp] theorem withEvf_msu (s : State) (x : Evf) : (s.withEvf x).msu = s.msu := rfl
@[simp] theorem withEvf_cku (s : State) (x : Evf) : (s.withEvf x).cku = s.cku := rfl
@[simp] theorem withEvf_stu (s : State) (x : Evf) : (s.withEvf x).stu = s.stu := rfl
@[simp] theorem withEvf_ptu (s : State) (x : Evf) : (s.withEvf x).ptu = s.ptu := rfl
@[simp] theorem withEvf_rme (s : State) (x : Evf) : (s.withEvf x).rme = s.rme := rfl
@[simp] theorem withEvf_sbc (s : State) (x : Evf) : (s.withEvf x).sbc = s.sbc := rfl
@[simp] theorem withEvf_mtb (s : State) (x : Evf) : (s.withEvf x).mtb = s.mtb := rfl
@[simp] theorem withEvf_evf (s : State) (x : Evf) : (s.withEvf x).evf = x := rfl
@[simp] theorem withEvf_sou (s : State) (x : Evf) : (s.withEvf x).sou = s.sou := rfl
@[simp] theorem withEvf_bdt (s : State) (x : Evf) : (s.withEvf x).bdt = s.bdt := rfl
@[simp] theorem withEvf_fsv (s : State) (x : Evf) : (s.withEvf x).fsv = s.fsv := rfl
@[simp] theorem withEvf_fresh (s : State) (x : Evf) : (s.withEvf x).fresh = s.fresh := rfl
@[simp] theorem withEvf_pending (s : State) (x : Evf) : (s.withEvf x).pending = s.pending := rfl
@[simp] theorem withEvf_withEvf (s : State) (x y : Evf) : (s.withEvf x).withEvf y = s.withEvf y := rfl
@[simp] theorem withEvf_self (s : State) : s.withEvf s.evf = s := rfl

@[simp] theorem withSou_phase (s : State) (x : Sou) : (s.withSou x).phase = s.phase := rfl
@[simp] theorem withSou_lif (s : State) (x : Sou) : (s.withSou x).lif = s.lif := rfl
@[simp] theorem withSou_msu (s : State) (x : Sou) : (s.withSou x).msu = s.msu := rfl
@[simp] theorem withSou_cku (s : State) (x : Sou) : (s.withSou x).cku = s.cku := rfl
@[simp] theorem withSou_stu (s : State) (x : Sou) : (s.withSou x).stu = s.stu := rfl
@[simp] theorem withSou_ptu (s : State) (x : Sou) : (s.withSou x).ptu = s.ptu := rfl
@[simp] theorem withSou_rme (s : State) (x : Sou) : (s.withSou x).rme = s.rme := rfl
@[simp] theorem withSou_sbc (s : State) (x : Sou) : (s.withSou x).sbc = s.sbc := rfl
@[simp] theorem withSou_mtb (s : State) (x : Sou) : (s.withSou x).mtb = s.mtb := rfl
@[simp] theorem withSou_evf (s : State) (x : Sou) : (s.withSou x).evf = s.evf := rfl
@[simp] theorem withSou_sou (s : State) (x : Sou) : (s.withSou x).sou = x := rfl
@[simp] theorem withSou_bdt (s : State) (x : Sou) : (s.withSou x).bdt = s.bdt := rfl
@[simp] theorem withSou_fsv (s : State) (x : Sou) : (s.withSou x).fsv = s.fsv := rfl
@[simp] theorem withSou_fresh (s : State) (x : Sou) : (s.withSou x).fresh = s.fresh := rfl
@[simp] theorem withSou_pending (s : State) (x : Sou) : (s.withSou x).pending = s.pending := rfl
@[simp] theorem withSou_withSou (s : State) (x y : Sou) : (s.withSou x).withSou y = s.withSou y := rfl
@[simp] theorem withSou_self (s : State) : s.withSou s.sou = s := rfl

@[simp] theorem withBdt_phase (s : State) (x : List Binding) : (s.withBdt x).phase = s.phase := rfl
@[simp] theorem withBdt_lif (s : State) (x : List Binding) : (s.withBdt x).lif = s.lif := rfl
@[simp] theorem withBdt_msu (s : State) (x : List Binding) : (s.withBdt x).msu = s.msu := rfl
@[simp] theorem withBdt_cku (s : State) (x : List Binding) : (s.withBdt x).cku = s.cku := rfl
@[simp] theorem withBdt_stu (s : State) (x : List Binding) : (s.withBdt x).stu = s.stu := rfl
@[simp] theorem withBdt_ptu (s : State) (x : List Binding) : (s.withBdt x).ptu = s.ptu := rfl
@[simp] theorem withBdt_rme (s : State) (x : List Binding) : (s.withBdt x).rme = s.rme := rfl
@[simp] theorem withBdt_sbc (s : State) (x : List Binding) : (s.withBdt x).sbc = s.sbc := rfl
@[simp] theorem withBdt_mtb (s : State) (x : List Binding) : (s.withBdt x).mtb = s.mtb := rfl
@[simp] theorem withBdt_evf (s : State) (x : List Binding) : (s.withBdt x).evf = s.evf := rfl
@[simp] theorem withBdt_sou (s : State) (x : List Binding) : (s.withBdt x).sou = s.sou := rfl
@[simp] theorem withBdt_bdt (s : State) (x : List Binding) : (s.withBdt x).bdt = x := rfl
@[simp] theorem withBdt_fsv (s : State) (x : List Binding) : (s.withBdt x).fsv = s.fsv := rfl
@[simp] theorem withBdt_fresh (s : State) (x : List Binding) : (s.withBdt x).fresh = s.fresh := rfl
@[simp] theorem withBdt_pending (s : State) (x : List Binding) : (s.withBdt x).pending = s.pending := rfl
@[simp] theorem withBdt_withBdt (s : State) (x y : List Binding) : (s.withBdt x).withBdt y = s.withBdt y := rfl
@[simp] theorem withBdt_self (s : State) : s.withBdt s.bdt = s := rfl

@[simp] theorem withFsv_phase (s : State) (x : Fsv) : (s.withFsv x).phase = s.phase := rfl
@[simp] theorem withFsv_lif (s : State) (x : Fsv) : (s.withFsv x).lif = s.lif := rfl
@[simp] theorem withFsv_msu (s : State) (x : Fsv) : (s.withFsv x).msu = s.msu := rfl
@[simp] theorem withFsv_cku (s : State) (x : Fsv) : (s.withFsv x).cku = s.cku := rfl
@[simp] theorem withFsv_stu (s : State) (x : Fsv) : (s.withFsv x).stu = s.stu := rfl
@[simp] theorem withFsv_ptu (s : State) (x : Fsv) : (s.withFsv x).ptu = s.ptu := rfl
@[simp] theorem withFsv_rme (s : State) (x : Fsv) : (s.withFsv x).rme = s.rme := rfl
@[simp] theorem withFsv_sbc (s : State) (x : Fsv) : (s.withFsv x).sbc = s.sbc := rfl
@[simp] theorem withFsv_mtb (s : State) (x : Fsv) : (s.withFsv x).mtb = s.mtb := rfl
@[simp] theorem withFsv_evf (s : State) (x : Fsv) : (s.withFsv x).evf = s.evf := rfl
@[simp] theorem withFsv_sou (s : State) (x : Fsv) : (s.withFsv x).sou = s.sou := rfl
@[simp] theorem withFsv_bdt (s : State) (x : Fsv) : (s.withFsv x).bdt = s.bdt := rfl
@[simp] theorem withFsv_fsv (s : State) (x : Fsv) : (s.withFsv x).fsv = x := rfl
@[simp] theorem withFsv_fresh (s : State) (x : Fsv) : (s.withFsv x).fresh = s.fresh := rfl
@[simp] theorem withFsv_pending (s : State) (x : Fsv) : (s.withFsv x).pending = s.pending := rfl
@[simp] theorem withFsv_withFsv (s : State) (x y : Fsv) : (s.withFsv x).withFsv y = s.withFsv y := rfl
@[simp] theorem withFsv_self (s : State) : s.withFsv s.fsv = s := rfl

@[simp] theorem withFresh_phase (s : State) (x : Nat) : (s.withFresh x).phase = s.phase := rfl
@[simp] theorem withFresh_lif (s : State) (x : Nat) : (s.withFresh x).lif = s.lif := rfl
@[simp] theorem withFresh_msu (s : State) (x : Nat) : (s.withFresh x).msu = s.msu := rfl
@[simp] theorem withFresh_cku (s : State) (x : Nat) : (s.withFresh x).cku = s.cku := rfl
@[simp] theorem withFresh_stu (s : State) (x : Nat) : (s.withFresh x).stu = s.stu := rfl
@[simp] theorem withFresh_ptu (s : State) (x : Nat) : (s.withFresh x).ptu = s.ptu := rfl
@[simp] theorem withFresh_rme (s : State) (x : Nat) : (s.withFresh x).rme = s.rme := rfl
@[simp] theorem withFresh_sbc (s : State) (x : Nat) : (s.withFresh x).sbc = s.sbc := rfl
@[simp] theorem withFresh_mtb (s : State) (x : Nat) : (s.withFresh x).mtb = s.mtb := rfl
@[simp] theorem withFresh_evf (s : State) (x : Nat) : (s.withFresh x).evf = s.evf := rfl
@[simp] theorem withFresh_sou (s : State) (x : Nat) : (s.withFresh x).sou = s.sou := rfl
@[simp] theorem withFresh_bdt (s : State) (x : Nat) : (s.withFresh x).bdt = s.bdt := rfl
@[simp] theorem withFresh_fsv (s : State) (x : Nat) : (s.withFresh x).fsv = s.fsv := rfl
@[simp] theorem withFresh_fresh (s : State) (x : Nat) : (s.withFresh x).fresh = x := rfl
@[simp] theorem withFresh_pending (s : State) (x : Nat) : (s.withFresh x).pending = s.pending := rfl
@[simp] theorem withFresh_withFresh (s : State) (x y : Nat) : (s.withFresh x).withFresh y = s.withFresh y := rfl
@[simp] theorem withFresh_self (s : State) : s.withFresh s.fresh = s := rfl

@[simp] theorem withPending_phase (s : State) (x : List Instr) : (s.withPending x).phase = s.phase := rfl
@[simp] theorem withPending_lif (s : State) (x : List Instr) : (s.withPending x).lif = s.lif := rfl
@[simp] theorem withPending_msu (s : State) (x : List Instr) : (s.withPending x).msu = s.msu := rfl
@[simp] theorem withPending_cku (s : State) (x : List Instr) : (s.withPending x).cku = s.cku := rfl
@[simp] theorem withPending_stu (s : State) (x : List Instr) : (s.withPending x).stu = s.stu := rfl
@[simp] theorem withPending_ptu (s : State) (x : List Instr) : (s.withPending x).ptu = s.ptu := rfl
@[simp] theorem withPending_rme (s : State) (x : List Instr) : (s.withPending x).rme = s.rme := rfl
@[simp] theorem withPending_sbc (s : State) (x : List Instr) : (s.withPending x).sbc = s.sbc := rfl
@[simp] theorem withPending_mtb (s : State) (x : List Instr) : (s.withPending x).mtb = s.mtb := rfl
@[simp] theorem withPending_evf (s : State) (x : List Instr) : (s.withPending x).evf = s.evf := rfl
@[simp] theorem withPending_sou (s : State) (x : List Instr) : (s.withPending x).sou = s.sou := rfl
@[simp] theorem withPending_bdt (s : State) (x : List Instr) : (s.withPending x).bdt = s.bdt := rfl
@[simp] theorem withPending_fsv (s : State) (x : List Instr) : (s.withPending x).fsv = s.fsv := rfl
@[simp] theorem withPending_fresh (s : State) (x : List Instr) : (s.withPending x).fresh = s.fresh := rfl
@[simp] theorem withPending_pending (s : State) (x : List Instr) : (s.withPending x).pending = x := rfl
@[simp] theorem withPending_withPending (s : State) (x y : List Instr) : (s.withPending x).withPending y = s.withPending y := rfl
@[simp] theorem withPending_self (s : State) : s.withPending s.pending = s := rfl

end Sys2Proof.Machine.State
end

