-- ==== Sys2Proof/Laws/Records.lean ====
section
/-! SUPPORT. What the shared operations of Ops can do: notices reach the MSU alone, a command row answers or waits. -/

namespace Sys2Proof.Machine

/-! ## Lists -/

@[simp] theorem updateAt_length (xs : List α) (i : Nat) (d : α) (f : α → α) : (updateAt xs i d f).length = xs.length := by
  simp [updateAt]

theorem updateAt_getD_self {xs : List α} {i : Nat} (h : i < xs.length) (d : α) (f : α → α) :
    (updateAt xs i d f).getD i d = f (xs.getD i d) := by simp [updateAt, h]

theorem updateAt_getD_ne (xs : List α) {i j : Nat} (h : i ≠ j) (d : α) (f : α → α) :
    (updateAt xs i d f).getD j d = xs.getD j d := by simp [updateAt, h]

@[simp] theorem replaceFirst_length (test : α → Bool) (f : α → α) (xs : List α) :
    (replaceFirst test f xs).length = xs.length := by
  induction xs with
  | nil => rfl
  | cons x rest ih => by_cases h : test x <;> simp [replaceFirst, h, ih]

/-- The first element that passes is the one replaced. -/
theorem replaceFirst_append (test : α → Bool) (f : α → α) (before : List α) (x : α) (after : List α)
    (h : ∀ y ∈ before, test y = false) (hx : test x = true) :
    replaceFirst test f (before ++ x :: after) = before ++ f x :: after := by
  induction before with
  | nil => simp [replaceFirst, hx]
  | cons y rest ih =>
    have hy : test y = false := h y (by simp)
    simp [replaceFirst, hy, ih (fun z hz => h z (by simp [hz]))]

/-- Nothing changes where nothing passes. -/
theorem replaceFirst_none (test : α → Bool) (f : α → α) (xs : List α) (h : ∀ y ∈ xs, test y = false) :
    replaceFirst test f xs = xs := by
  induction xs with
  | nil => rfl
  | cons y rest ih =>
    have hy : test y = false := h y (by simp)
    simp [replaceFirst, hy, ih (fun z hz => h z (by simp [hz]))]

@[simp] theorem numbered_length (n : Nat) (xs : List α) : (numbered n xs).length = xs.length := by
  induction xs generalizing n with
  | nil => rfl
  | cons x rest ih => simp [numbered, ih]

@[simp] theorem numbered_snd (n : Nat) (xs : List α) : (numbered n xs).map Prod.snd = xs := by
  induction xs generalizing n with
  | nil => rfl
  | cons x rest ih => simp [numbered, ih]

theorem mem_numbered {n i : Nat} {x : α} {xs : List α} : (i, x) ∈ numbered n xs ↔ n ≤ i ∧ xs[i - n]? = some x := by
  induction xs generalizing n with
  | nil => simp [numbered]
  | cons y rest ih =>
    simp only [numbered, List.mem_cons, Prod.mk.injEq, ih]
    rcases Nat.lt_trichotomy i n with h | h | h
    · exact ⟨by rintro (h' | h') <;> omega, by rintro ⟨h', -⟩; omega⟩
    · subst h
      simp [eq_comm]
    · rw [show i - n = (i - (n + 1)) + 1 by omega, List.getElem?_cons_succ]
      exact ⟨by rintro (h' | h')
                · omega
                · exact ⟨by omega, h'.2⟩,
        fun h' => .inr ⟨by omega, h'.2⟩⟩

/-! ## Notices -/

/-- R10 as one case analysis. -/
theorem enqueue_cases (m : Msu) (b : NoticeBody) :
    (m.masked b = true ∧ m.enqueue b = m) ∨
    (m.masked b = false ∧ (∃ q ∈ m.notices, b.coalesces q.body = true) ∧ m.enqueue b =
      { m with notices := replaceFirst (fun q => b.coalesces q.body) (fun q => { q with body := b }) m.notices }) ∨
    (m.masked b = false ∧ (∀ q ∈ m.notices, b.coalesces q.body = false) ∧ 64 ≤ m.notices.length ∧
      m.enqueue b = { m with gap := true }) ∨
    (m.masked b = false ∧ (∀ q ∈ m.notices, b.coalesces q.body = false) ∧ m.notices.length < 64 ∧
      m.enqueue b = { m with notices := m.notices ++ [⟨m.gap, b⟩], gap := false }) := by
  cases hm : m.masked b
  · by_cases hc : ∃ q ∈ m.notices, b.coalesces q.body = true
    · have : m.notices.any (fun q => b.coalesces q.body) = true := by simpa using hc
      exact .inr (.inl ⟨rfl, hc, by simp only [Msu.enqueue, hm, this]; rfl⟩)
    · have hn : ∀ q ∈ m.notices, b.coalesces q.body = false := by simpa using hc
      have : m.notices.any (fun q => b.coalesces q.body) = false := by simpa using hn
      by_cases hl : 64 ≤ m.notices.length
      · exact .inr (.inr (.inl ⟨rfl, hn, hl, by simp [Msu.enqueue, hm, this, hl]⟩))
      · exact .inr (.inr (.inr ⟨rfl, hn, by omega, by simp [Msu.enqueue, hm, this, hl]⟩))
  · exact .inl ⟨rfl, by simp [Msu.enqueue, hm]⟩

/-- An arriving notice touches the queue and the gap flag alone. -/
theorem enqueue_rest (m : Msu) (b : NoticeBody) :
    m.enqueue b = { m with notices := (m.enqueue b).notices, gap := (m.enqueue b).gap } := by
  obtain ⟨-, h⟩ | ⟨-, -, h⟩ | ⟨-, -, -, h⟩ | ⟨-, -, -, h⟩ := enqueue_cases m b <;> rw [h]

/-- A notice changes the MSU alone. -/
theorem notify_eq (b : NoticeBody) (s : State) :
    notify b s = s.withMsu (if s.phase = .resetting then s.msu else s.msu.enqueue b) := by
  unfold notify; split <;> simp

/-- Notices one after another change the MSU alone. -/
theorem notifyAll_eq (bs : List NoticeBody) (s : State) :
    notifyAll bs s = s.withMsu (if s.phase = .resetting then s.msu else bs.foldl Msu.enqueue s.msu) := by
  induction bs generalizing s with
  | nil => simp [notifyAll]
  | cons b rest ih => rw [notifyAll, ih, notify_eq]; by_cases h : s.phase = .resetting <;> simp [h]

/-- The notices of four blocks at one event change the MSU and the model's own counter alone. -/
theorem notifyMerged_eq (a b c d : List NoticeBody) (s : State) :
    notifyMerged a b c d s = (s.withMsu (if s.phase = .resetting then s.msu else
      (mergeNotices s.fresh a b c d).foldl Msu.enqueue s.msu)).withFresh (s.fresh + 1) := by
  simp [notifyMerged, notifyAll_eq]

/-- An interleaving holds what its two parts hold. -/
theorem interleave_perm (event place k : Nat) (xs ys : List α) :
    (interleave event place k xs ys).Perm (xs ++ ys) := by
  induction xs generalizing k ys with
  | nil => cases ys <;> simp [interleave]
  | cons x xs ih =>
    cases ys with
    | nil => simp [interleave]
    | cons y ys =>
      rw [interleave]
      refine ((List.Perm.cons x (ih _ _)).append_left _).trans ?_
      refine List.perm_middle.trans (.cons x ?_)
      refine (List.perm_append_comm_assoc _ _ _).trans ?_
      rw [List.take_append_drop]
      exact List.Perm.refl _

/-- The notices of one event are those of its blocks, each once. -/
theorem mergeNotices_perm (event : Nat) (a b c d : List α) : (mergeNotices event a b c d).Perm (a ++ (b ++ (c ++ d))) :=
  (interleave_perm ..).trans (((interleave_perm ..).trans ((interleave_perm ..).append_left b)).append_left a)

/-! ## Commands -/

@[simp] theorem queueReply_replies (r : Reply) (s : State) : (queueReply r s).msu.replies = s.msu.replies ++ [r] := rfl

/-- A command row goes on: it answers where R6 lets the MSU take, and waits otherwise (log 1). -/
theorem takeRow_cases (kind tag : Byte) (handle : State → Handled) (s : State) :
    (s.takes = true ∧ takeRow kind tag handle s =
      .next (queueReply ⟨kind, tag, (handle s).status, (handle s).result⟩ (handle s).state)) ∨
    (s.takes = false ∧ takeRow kind tag handle s = .next s) := by
  cases h : s.takes
  · exact .inr ⟨rfl, by simp [takeRow, h]⟩
  · exact .inl ⟨rfl, by simp [takeRow, h, Handled.answered]⟩

end Sys2Proof.Machine
end

