-- ==== Sys2Proof/Laws/Clock.lean ====
section
/-! SUPPORT. What the shared operations of the ports, the clock events and the route records can do. -/

namespace Sys2Proof.Machine

@[simp] theorem withPorts_ptu (ps : List Port) (s : State) : (withPorts ps s).ptu = ps := rfl
@[simp] theorem withPorts_overload (ps : List Port) (s : State) :
    (withPorts ps s).rme.overload = ps.map Port.handsOverload := rfl
@[simp] theorem withPorts_cku (ps : List Port) (s : State) : (withPorts ps s).cku = s.cku := rfl
@[simp] theorem withPorts_stu (ps : List Port) (s : State) : (withPorts ps s).stu = s.stu := rfl

@[simp] theorem portsBy_length (op : Nat → Port → Port × Option PortReason) (ps : List Port) :
    (portsBy op ps).1.length = ps.length := by simp [portsBy]

/-- A changed port: its record, the overload lines and the MSU alone change (R80, R89). -/
theorem changePort_eq (i : Nat) (op : Port → Port × Option PortReason) (s : State) :
    changePort i op s = (withPorts (s.ptu.set i (op (s.port i)).1) s).withMsu (changePort i op s).msu := by
  simp only [changePort]
  split
  · simp [notify_eq, withPorts]
  · rfl

/-- A change of the clock reaches the Clock, Stream and Port units, the overload lines, the MSU and the model's counter
(R45). -/
theorem clockChange_eq (after : Cku) (reason : Option ClockReason) (stu ptu : List NoticeBody) (s : State) :
    clockChange after reason stu ptu s =
      (((withPorts (portsBy (portAtClock s.cku after) s.ptu).1
        ((s.withCku after).withStu (s.stu.clockEvent s.cku.clock after.clock reason.isSome))).withMsu
        (clockChange after reason stu ptu s).msu)).withFresh (s.fresh + 1) := by
  simp [clockChange, notifyMerged_eq, withPorts]

/-- A clock event changes nothing, or changes the clock. -/
theorem clockEvent_cases (r : Cku × Option ClockReason) (s : State) :
    (r.1 = s.cku ∧ r.2 = none ∧ clockEvent r s = s) ∨
      (¬ (r.1 = s.cku ∧ r.2 = none) ∧ clockEvent r s = clockChange r.1 r.2 [] [] s) := by
  by_cases h : r.1 = s.cku ∧ r.2 = none
  · exact .inl ⟨h.1, h.2, by simp [clockEvent, h]⟩
  · exact .inr ⟨h, by simp [clockEvent, h]⟩

/-- After a clock event the Clock Unit is as the event leaves it. -/
@[simp] theorem clockEvent_cku (r : Cku × Option ClockReason) (s : State) : (clockEvent r s).cku = r.1 := by
  obtain ⟨hc, -, h⟩ | ⟨-, h⟩ := clockEvent_cases r s
  · rw [h, hc]
  · rw [h, clockChange_eq]; rfl

/-- A source that was present and is not loses its presence at the clock; otherwise only the notices go out (R23). -/
theorem losePresence_cases (x : ClockSource) (was : Bool) (stu ptu : List NoticeBody) (s : State) :
    (was = true ∧ s.present x = false ∧
      losePresence x was stu ptu s = clockChange (s.cku.lose x).1 (s.cku.lose x).2 stu ptu s) ∨
    (¬ (was = true ∧ s.present x = false) ∧ losePresence x was stu ptu s = notifyAll (stu ++ ptu) s) := by
  by_cases h : was = true ∧ s.present x = false
  · exact .inl ⟨h.1, h.2, by simp [losePresence, h]⟩
  · refine .inr ⟨h, if_neg fun h' => h ?_⟩
    simpa using h'

/-! ## Route and bus records -/

@[simp] theorem putRoute_route_self {m : Rme} {id : Nat} (h : id < m.routes.length) (r : Route) :
    (m.putRoute id r).route id = r := by simp [Rme.putRoute, Rme.route, h]

theorem putRoute_route_ne (m : Rme) {id n : Nat} (h : id ≠ n) (r : Route) : (m.putRoute id r).route n = m.route n := by
  simp [Rme.putRoute, Rme.route, h]

@[simp] theorem putRoute_bus (m : Rme) (id b : Nat) (r : Route) : (m.putRoute id r).bus b = m.bus b := rfl
@[simp] theorem putRoute_buses (m : Rme) (id : Nat) (r : Route) : (m.putRoute id r).buses = m.buses := rfl
@[simp] theorem putRoute_rampLength (m : Rme) (id : Nat) (r : Route) : (m.putRoute id r).rampLength = m.rampLength := rfl

@[simp] theorem putBus_bus_self {m : Rme} {b : Nat} (h : b < m.buses.length) (l : GainRec) :
    (m.putBus b l).bus b = l := by simp [Rme.putBus, Rme.bus, h]

theorem putBus_bus_ne (m : Rme) {b n : Nat} (h : b ≠ n) (l : GainRec) : (m.putBus b l).bus n = m.bus n := by
  simp [Rme.putBus, Rme.bus, h]

@[simp] theorem putBus_route (m : Rme) (b id : Nat) (l : GainRec) : (m.putBus b l).route id = m.route id := rfl
@[simp] theorem putBus_routes (m : Rme) (b : Nat) (l : GainRec) : (m.putBus b l).routes = m.routes := rfl

/-- The set-target rule keeps the holder (R95). -/
@[simp] theorem setTarget_holder (l : GainRec) (g : Option Gain) (m : Option Bool) (n : Nat) :
    (l.setTarget g m n).holder = l.holder := by
  unfold GainRec.setTarget; simp only []; split
  · rfl
  · unfold GainRec.rampTo; split <;> rfl

/-- The set-target rule stores what it is given (R95). -/
@[simp] theorem setTarget_gain (l : GainRec) (g : Option Gain) (m : Option Bool) (n : Nat) :
    (l.setTarget g m n).gain = g.getD l.gain := by
  unfold GainRec.setTarget; simp only []; split
  · rfl
  · unfold GainRec.rampTo; split <;> rfl

@[simp] theorem setTarget_mute (l : GainRec) (g : Option Gain) (m : Option Bool) (n : Nat) :
    (l.setTarget g m n).mute = m.getD l.mute := by
  unfold GainRec.setTarget; simp only []; split
  · rfl
  · unfold GainRec.rampTo; split <;> rfl

/-! ## The link reference -/

/-- A service interval gives the edges that its rate and what is left over make, and leaves over less than one (R22). -/
theorem LinkReference.interval_spec (x : LinkReference) (rate : Rate) :
    8000 * (x.interval rate).due + (x.interval rate).fraction = x.fraction + rate.hertz ∧ (x.interval rate).fraction < 8000 := by
  simp only [LinkReference.interval]; omega

/-- An interval has at most 24 edges (R22). -/
theorem LinkReference.interval_due_le (x : LinkReference) (rate : Rate) (h : x.fraction < 8000) : (x.interval rate).due ≤ 24 := by
  have : rate.hertz ≤ 192000 := by cases rate <;> decide
  simp only [LinkReference.interval]; omega

/-- Counting edges touches the Clock Unit alone (R22). -/
theorem countEdges_eq (x : ClockSource) (n : Nat) (s : State) : countEdges x n s = s.withCku (countEdges x n s).cku := by
  unfold countEdges; split <;> rfl

/-- A service-interval start reaches the Clock Unit and the link reference alone (R22). -/
theorem referenceInterval_eq (s : State) :
    referenceInterval s = (s.withCku (countEdges .link s.lif.reference.due s).cku).withLif
      { s.lif with reference := s.lif.reference.interval (countEdges .link s.lif.reference.due s).cku.rate } := by
  rw [referenceInterval, countEdges_eq]; rfl

end Sys2Proof.Machine
end

