-- ==== Sys2Proof/Laws/Surface.lean ====
section
/-! SUPPORT. What the shared operations of the surface bus, the Surface Output and the Fader Servo can do. -/

namespace Sys2Proof.Machine

/-! ## Queues -/

@[simp] theorem putQueue_queue_self (o : Sou) (q : QueueId) (fs : List QFrame) : (o.putQueue q fs).queue q = fs := by
  cases q <;> rfl

theorem putQueue_queue_ne (o : Sou) {q p : QueueId} (h : p ≠ q) (fs : List QFrame) :
    (o.putQueue q fs).queue p = o.queue p := by
  cases q <;> cases p <;> first | rfl | exact absurd rfl h

@[simp] theorem putQueue_history (o : Sou) (q : QueueId) (fs : List QFrame) : (o.putQueue q fs).history = o.history := by
  cases q <;> rfl

/-- The end of a frame touches the history and the MSU alone (R181, R182). -/
theorem endFrame_eq (f : QFrame) (r : FrameResult) (s : State) :
    endFrame f r s = (s.withSou { s.sou with history := (endFrame f r s).sou.history }).withMsu (endFrame f r s).msu := by
  unfold endFrame
  split
  · simp only []
    split
    · simp only [notify_eq]; rfl
    · rfl
  · rfl

/-- The ends of several frames touch the history and the MSU alone. -/
theorem endFrames_eq (r : FrameResult) (fs : List QFrame) (s : State) :
    endFrames r fs s = (s.withSou { s.sou with history := (endFrames r fs s).sou.history }).withMsu (endFrames r fs s).msu := by
  induction fs generalizing s with
  | nil => rfl
  | cons f rest ih =>
    rw [endFrames, ih, endFrame_eq f r s]
    rfl

/-- Handing over an internal frame touches the Surface Output and the MSU alone (R174, R175). -/
theorem handFrame_eq (q : QueueId) (f : QFrame) (s : State) :
    handFrame q f s = (s.withSou (handFrame q f s).sou).withMsu (handFrame q f s).msu := by
  unfold handFrame
  split
  · rfl
  · split
    · rw [endFrames_eq]; rfl
    · rfl
    · rfl

/-! ## The scheduler -/

/-- The scheduler leaves the state, or takes the first offer of a RUNNING and free bus (R139). -/
theorem schedule_cases (s : State) :
    (s.mayPick = false ∧ schedule s = s) ∨ (s.mayPick = true ∧ s.offer = none ∧ schedule s = s) ∨
      ∃ o, s.mayPick = true ∧ s.offer = some o ∧ schedule s = takeOffer o s := by
  cases h : s.mayPick
  · exact .inl ⟨rfl, by simp [schedule, h]⟩
  · cases ho : s.offer with
    | none => exact .inr (.inl ⟨rfl, rfl, by simp [schedule, h, ho]⟩)
    | some o => exact .inr (.inr ⟨o, rfl, rfl, by simp [schedule, h, ho]⟩)

/-- A free bus with a transaction, or none to start, is left alone. -/
theorem schedule_of_not_free {s : State} (h : s.sbc.free = false) : schedule s = s := by
  have : s.mayPick = false := by simp [State.mayPick, h]
  simp [schedule, this]

/-- A started transaction is in flight with its frame, and the bus is not free. -/
theorem startTxn_eq (f : BusFrame) (o : Owner) (s : State) :
    startTxn f o s = s.withSbc { s.sbc with txn := some ⟨f, o, .sending⟩, free := false, cutShort := none } := rfl

/-- After the scheduler the bus is not free, or nothing was offered. -/
theorem takeOffer_not_free (o : Offer) (s : State) : (takeOffer o s).sbc.free = false := by
  cases o <;> rfl

/-- Nothing is picked twice at one event. -/
theorem schedule_schedule (s : State) : schedule (schedule s) = schedule s := by
  obtain ⟨-, h⟩ | ⟨-, -, h⟩ | ⟨o, -, -, h⟩ := schedule_cases s
  · simp only [h]
  · simp only [h]
  · rw [h]; exact schedule_of_not_free (takeOffer_not_free o s)

/-- A change of the bus state touches the bus state and the MSU alone (R148). -/
theorem setBus_eq (st : BusState) (reason : BusReason) (s : State) :
    setBus st reason s = (s.withSbc { s.sbc with bus := st }).withMsu (setBus st reason s).msu := by
  simp [setBus, notify_eq]

/-! ## Faders -/

@[simp] theorem withFsv_channel_self {s : State} {i : Nat} (h : i < s.fsv.channels.length) (f : Fader) :
    ((s.withFsv { s.fsv with channels := s.fsv.channels.set i f }).fsv.channel i) = f := by
  simp [Fsv.channel, h]

/-- A changed channel: the Fader Servo's record of it and the MSU alone change (R201). -/
theorem changeFader_eq (i : Nat) (op : Fader → Fader × Option FaderReason) (s : State) :
    changeFader i op s =
      (s.withFsv { s.fsv with channels := s.fsv.channels.set i (op (s.fsv.channel i)).1 }).withMsu
        (changeFader i op s).msu := by
  simp only [changeFader]
  split
  · simp [notify_eq]
  · rfl

/-- A servo target reaches the Fader Servo and the MSU alone (R191, R197). -/
theorem aimFader_eq (i t : Nat) (s : State) :
    aimFader i t s = (s.withFsv (aimFader i t s).fsv).withMsu (aimFader i t s).msu := by
  unfold aimFader
  split
  · rw [changeFader_eq]; rfl
  · rfl

/-- One feedback reaches the Fader Servo, the Surface Output and the MSU alone (R191). -/
theorem sendFeedback_eq (b : Binding) (s : State) :
    sendFeedback b s =
      ((s.withFsv (sendFeedback b s).fsv).withSou (sendFeedback b s).sou).withMsu (sendFeedback b s).msu := by
  unfold sendFeedback
  simp only []
  split
  · rw [aimFader_eq]; rfl
  · split
    · rfl
    · rw [handFrame_eq]; rfl

/-- Feedback to every binding that hears of a change reaches the same three blocks (R191). -/
theorem feedbackAll_eq (x : LevelRef) (g m : Bool) (cause : Option Nat) (s : State) :
    feedbackAll x g m cause s = ((s.withFsv (feedbackAll x g m cause s).fsv).withSou
      (feedbackAll x g m cause s).sou).withMsu (feedbackAll x g m cause s).msu := by
  have key : ∀ (xs : List (Nat × Binding)) (t : State),
      let u := xs.foldl (fun s (p : Nat × Binding) =>
        if p.2.hears x g m && cause != some p.1 then sendFeedback p.2 s else s) t
      u = ((t.withFsv u.fsv).withSou u.sou).withMsu u.msu := by
    intro xs
    induction xs with
    | nil => intro t; rfl
    | cons p rest ih =>
      intro t
      simp only [List.foldl_cons] at ih ⊢
      rw [ih]
      split
      · rw [sendFeedback_eq]; rfl
      · rfl
  exact key (numbered 0 s.bdt) s

/-- The set-target rule changes the record it names and what its feedback reaches (R95, R191). -/
theorem setTarget_eq (x : LevelRef) (g : Option Gain) (m : Option Bool) (cause : Option Nat) (s : State) :
    setTarget x g m cause s =
      (((s.withRme (s.rme.putLevel x ((s.rme.level x).setTarget g m s.rme.rampLength))).withFsv
        (setTarget x g m cause s).fsv).withSou (setTarget x g m cause s).sou).withMsu (setTarget x g m cause s).msu := by
  rw [setTarget]
  rw [feedbackAll_eq]
  rfl

end Sys2Proof.Machine
end

