-- ==== Sys2Proof/Laws/Wire.lean ====
section
/-! SUPPORT. What the part sends is what it reads: the codes of a field's values are those that name them (R202), and the bits of
a link frame those of its slots (R74). How every record begins (R4), and where a frame cut short ends (R151). -/

namespace Sys2Proof.Machine

theorem flagOf_code (b : Bool) : flagOf (flagCode b) = some b := by cases b <;> rfl
theorem rateOf_code (x : Rate) : rateOf x.code = some x := by cases x <;> rfl
theorem sourceOf_code (x : ClockSource) : sourceOf (clockSourceCode x) = some x := by
  revert x; rintro (_ | _ | _ | p)
  · rfl
  · rfl
  · rfl
  · revert p; decide
theorem clockModeOf_code (x : ClockMode) : clockModeOf x.code = some x := by cases x <;> rfl
theorem lampOf_code (x : LampCondition) : lampOf x.code = some x := by cases x <;> rfl
theorem portModeOf_code (x : PortMode) : portModeOf x.code = some x := by cases x <;> rfl
theorem actionOf_code (x : FilterAction) : actionOf x.code = some x := by cases x <;> rfl
theorem restOf_code (x : RestMode) : restOf x.code = some x := by cases x <;> rfl
theorem streamOf_code (x : StreamId) : streamOf x.code = some x := by cases x <;> rfl
theorem bindModeOf_code (x : BindMode) : bindModeOf x.code = some x := by cases x <;> rfl
theorem moduleKindOf_code (x : ModuleKind) : moduleKindOf x.code = x := by cases x <;> rfl

/-- The bytes of a signal point within its ranges name it. -/
theorem pointOf_bytes (c : PointCode) (p : Point) (h : pointOf c = some p) : p.bytes = [c.kind, c.index] := by
  have key : ∀ k n : Byte, ∀ p ∈ pointOf ⟨k, n⟩, p.bytes = [k, n] := by
    intro k n p hp
    simp only [pointOf, Option.mem_def] at hp
    have hn : n = BitVec.ofNat 8 n.toNat := by simp
    have hm : n.toNat / 16 * 16 + n.toNat % 16 = n.toNat := by omega
    split at hp <;> rename_i hk <;> first
      | (simp only [Option.ite_none_right_eq_some, Option.some.injEq] at hp
         obtain ⟨-, rfl⟩ := hp
         have : k = BitVec.ofNat 8 k.toNat := by simp
         rw [hk] at this
         simp [Point.bytes, this, hm])
      | cases hp
  exact key c.kind c.index p h

/-- The bytes of a gain setting of a command name it again. -/
theorem gainOf_bytes (h : Half) (g : Gain) (hg : gainOf h = some g) : g.bytes = leBytes 2 h.toNat := by
  unfold gainOf at hg
  split at hg
  · cases hg; rename_i h1; rw [h1]; rfl
  · split at hg
    · cases hg
    · cases hg; simp [Gain.bytes]

/-- An origin of a command is sent as it was read. -/
theorem originOf_code (b : Byte) (o : Origin) (h : originOf b = some o) : o.code = b := by
  simp only [originOf] at h
  split at h
  · cases h
    rename_i h0
    exact BitVec.eq_of_toNat_eq (by simpa [Origin.code] using h0.symm)
  · simp only [addressOf, Option.map_eq_some_iff] at h
    obtain ⟨a, ha, rfl⟩ := h
    split at ha
    · cases ha; simp [Origin.code]
    · cases ha

/-! ## Records -/

/-- Every reply begins with its header and has its status as the first byte of its payload (R4). -/
theorem Reply.sentWith_opens (r : Reply) (result : List Byte) :
    (r.sentWith result).take 4 = [2, r.kind, r.tag, 0] ∧ (r.sentWith result)[6]? = some r.status.code := by
  constructor <;> rfl

/-- Every notice begins with its header (R4). -/
theorem Notice.sentWith_opens (n : Notice) (content : List Byte) :
    (n.sentWith content).take 4 = [3, BitVec.ofNat 8 n.body.code, 0, if n.gap then 1 else 0] := rfl

/-- A record laid out whole begins with the header of every record (R4). -/
theorem Record.bytes_head (x : Record) (bytes : List Byte) (h : x.bytes = some bytes) :
    bytes.take 4 = [x.head.cls, x.head.kind, x.head.tag, x.head.flags] := by
  cases x <;> simp only [Record.bytes, Reply.bytes, Notice.bytes, Option.map_eq_some_iff] at h <;>
    obtain ⟨b, -, rfl⟩ := h <;> rfl

/-! ## Lines -/

/-- A slot is 32 bits. -/
@[simp] theorem slotBits_length (w : Slot) : (slotBits w).length = 32 := by simp [slotBits]

/-- Bit `k` sent of a slot is its bit 31 − `k` (R74). -/
theorem slotBits_get (w : Slot) (k : Nat) (h : k < 32) : (slotBits w)[k]? = some (w.getLsbD (31 - k)) := by
  simp [slotBits, h, BitVec.getMsbD]

/-- The slot that a slot's bits stand for is that slot. -/
theorem slotOfBits_slotBits (w : Slot) : slotOfBits (slotBits w) = w := by
  apply BitVec.eq_of_getLsbD_eq
  intro i hi
  have : 31 - (31 - i) = i := by omega
  simp only [slotOfBits, BitVec.getLsbD_setWidth, hi, decide_true, Bool.true_and, BitVec.getLsbD_ofBoolListBE, slotBits_length,
    List.getD_eq_getElem?_getD, slotBits_get w (32 - 1 - i) (by omega)]
  simp [this]

/-- A link frame is 32 bits for each slot (R74). -/
@[simp] theorem linkBits_length (slots : List Slot) : (linkBits slots).length = 32 * slots.length := by
  induction slots with
  | nil => rfl
  | cons w rest ih => simp [linkBits, List.flatMap_cons] at ih ⊢; omega

/-- Slots follow in ascending order without gaps, each most significant bit first (R74). -/
theorem linkBits_get (slots : List Slot) (n k : Nat) (w : Slot) (h : slots[n]? = some w) (hk : k < 32) :
    (linkBits slots)[32 * n + k]? = some (w.getLsbD (31 - k)) := by
  induction slots generalizing n with
  | nil => simp at h
  | cons x rest ih =>
    have e : linkBits (x :: rest) = slotBits x ++ linkBits rest := rfl
    cases n with
    | zero =>
      simp at h
      rw [e, List.getElem?_append_left (by simpa using hk)]
      simpa [h] using slotBits_get x k hk
    | succ n =>
      rw [e, List.getElem?_append_right (by simp; omega), ← ih n (by simpa using h), slotBits_length]
      congr 1; omega

/-- The slots that a line's bits stand for are those that were sent (R74). -/
theorem slotsOfLine_linkBits (slots : List Slot) : slotsOfLine slots.length (linkBits slots) = slots := by
  induction slots with
  | nil => rfl
  | cons w rest ih =>
    have h : linkBits (w :: rest) = slotBits w ++ linkBits rest := rfl
    simp [slotsOfLine, h, slotOfBits_slotBits, ih]

/-- A frame cut short by a RESET is driven up to the next character boundary, and the line is released then (R151). -/
theorem Sbc.lineDriver_afterCut (b : Sbc) (f : BusFrame) (cut micros : Nat) (ht : b.sendingFrame = none)
    (hc : b.clears = false) (hf : b.cutShort = some f) :
    b.lineDriver cut micros = if micros / 10 ≤ cut / 10 then f.levels[micros]? else none := by
  simp only [Sbc.lineDriver, ht, hc, hf, Option.bind_some, List.getElem?_take, Bool.false_eq_true, if_false]
  have : micros < 10 * (cut / 10 + 1) ↔ micros / 10 ≤ cut / 10 := by omega
  simp [this]

end Sys2Proof.Machine
end

