-- ==== Sys2Proof/Tests/Slice0.lean ====
section
/-! SUPPORT. Tests: ill-formed terms are refused, values the spec works out, and for each statement with hypotheses a
state and operands that meet them, clause by clause. -/

namespace Sys2Proof.Tests

open Sys2Proof Sys2Proof.Machine Sys2Proof.Safety

set_option Elab.async false

/-! ## Ill-formed terms -/

theorem test_wellFormed_refuses_long_packet : (Instr.controlOutPacket (List.replicate 513 0)).wellFormed = false := by
  decide +kernel
theorem test_wellFormed_refuses_empty_source_list : (Instr.clockSetSources 0 0 0 0 []).wellFormed = false := by decide
theorem test_wellFormed_refuses_three_slots : (Instr.portInputFrameComplete 0 [0, 0, 0]).wellFormed = false := by decide
theorem test_wellFormed_refuses_short_reply : (Instr.replyComplete [5, 0x85, 1, 0]).wellFormed = false := by decide
theorem test_wellFormed_refuses_empty_forget : (Instr.moduleForget 0 []).wellFormed = false := by decide
theorem test_wellFormed_refuses_long_send :
    (Instr.surfaceSend 0 1 0 0 0 0 (List.replicate 33 0)).wellFormed = false := by decide
theorem test_wellFormed_refuses_seven_samples :
    (Instr.servoPeriod (List.replicate 7 ⟨0, false, 0⟩)).wellFormed = false := by decide
theorem test_wellFormed_refuses_position_1024 :
    (Instr.servoPeriod (⟨1024, false, 0⟩ :: List.replicate 7 ⟨0, false, 0⟩)).wellFormed = false := by decide
theorem test_wellFormed_refuses_internal_edge : (Instr.sourceEdge .internal).wellFormed = false := by decide

/-! ## Values that the spec works out -/

/-- R131's example: the CRC of 0x05, 0x10, 0x00 is 0x97. -/
theorem test_crc_example : crc8 [0x05, 0x10, 0x00] = 0x97 := by decide +kernel

/-- The table of R109. -/
theorem test_gain_table :
    [120, 60, 30, 0, -60, -200, -600, -1000, -1200].map (fun g => (Gain.tenths g).coeff) =
      [4174456, 2092184, 1481153, 1048576, 525533, 104858, 1049, 10, 1] := by decide +kernel

/-- The table of R122. -/
theorem test_meter_thresholds :
    [0, 1, 6, 7, 20, 40, 60].map meterThreshold = [8388607, 7476354, 4204263, 3747053, 838861, 83886, 8389] := by
  decide +kernel

/-- The examples of R122. -/
theorem test_meter_codes : [4194304, 8388608, 8388607, 8388, 7777343].map meterCode = [7, 0, 0, 61, 1] := by
  decide +kernel

/-- The table of 10, Positions and gains. -/
theorem test_taper_table :
    [0, 1, 128, 255, 512, 691, 767, 921, 1023].map taper = [.off, .tenths (-1200), .tenths (-800), .tenths (-400),
      .tenths (-200), .tenths (-60), .tenths 0, .tenths 60, .tenths 100] := by decide +kernel

/-- The table of 10, Positions and gains. -/
theorem test_inverse_table :
    [Gain.off, .tenths (-1200), .tenths (-800), .tenths (-200), .tenths (-60), .tenths 0, .tenths 60, .tenths 100,
      .tenths 120].map inversePosition = [0, 1, 128, 512, 691, 767, 921, 1023, 1023] := by decide +kernel

/-- The table of R63. -/
theorem test_nominal_reports :
    [Rate.r44, .r48, .r88, .r96, .r176, .r192].map Rate.nominal = [361267, 393216, 722534, 786432, 1445069, 1572864] := by
  decide +kernel

/-- The first steps of 06's worked example of a fade-in retargeted, and of the fade-out after it. -/
theorem test_ramp_values :
    [(⟨0, 1048576, 256, 0⟩ : Ramp).value 1, (⟨0, 1048576, 256, 0⟩ : Ramp).value 100,
      (⟨409600, 525533, 256, 0⟩ : Ramp).value 1, (⟨525533, 0, 256, 0⟩ : Ramp).value 1] =
    [4096, 409600, 410052, 523481] := by decide +kernel

/-- 06's worked example of one frame on a bus. -/
theorem test_products :
    (⟨.active, .pin 0 1, .busIn 2, false, ⟨.tenths (-60), false, 525533, none, none⟩⟩ : Route).contribution 5000000 =
      2505937 ∧
    (⟨.active, .play 4, .busIn 2, true, ⟨.tenths 0, false, 1048576, none, none⟩⟩ : Route).contribution (-3000000) =
      3000000 ∧
    scaled (5505937 * 1481153) = 7777343 ∧ scaled (5505937 * 2092184) = 10985788 := by decide +kernel

/-- 10's worked example of an encoder at the bottom of its range. -/
theorem test_encoder_example :
    [encoderGain (.tenths (-1190)) (-3) 5, encoderGain (.tenths (-1200)) (-1) 5, encoderGain .off (-2) 5,
      encoderGain .off 1 5, encoderGain (.tenths (-1200)) 63 5] =
    [.tenths (-1200), .off, .off, .tenths (-1200), .tenths (-885)] := by decide +kernel

/-- R204's examples: bytes 0xC0 0xFF give -64 and pass, 0x40 0x00 gives 64 and fails. -/
theorem test_encoder_value_bytes :
    EventKind.encoder.valueOf (half 0xC0 0xFF) = -64 ∧ EventKind.encoder.inRange (-64) = true ∧
    EventKind.encoder.valueOf (half 0x40 0x00) = 64 ∧ EventKind.encoder.inRange 64 = false := by decide +kernel

/-- The layouts of 11, section 11.2: a refusal is one byte of payload; ROUTE_ADD answers status, id and gain; an EVENT notice
carries eleven bytes. -/
theorem test_record_bytes :
    (⟨0x10, 7, .outOfRange, none⟩ : Reply).bytes = some [2, 0x10, 7, 0, 1, 0, 4] ∧
    (⟨0x28, 7, .adjusted, some (.routeAdded 9 (.tenths 120))⟩ : Reply).bytes = some [2, 0x28, 7, 0, 4, 0, 1, 9, 120, 0] ∧
    (⟨true, .event 255 .notify ⟨⟨.remote 5, 2⟩, .encoder, -64, 0x01020304⟩⟩ : Notice).bytes =
      some [3, 11, 0, 1, 11, 0, 255, 0, 5, 2, 3, 0xC0, 0xFF, 4, 3, 2, 1] := by decide +kernel

/-! ## States for single steps -/

/-- The part after initialisation, bus not yet free. -/
def ready : State := State.reset.withPhase .running

/-- The link in a state. -/
def onLink (l : LinkState) (s : State) : State := s.withLif { s.lif with link := l }

/-- The part on a configured link. -/
def linked : State := onLink .configured ready

/-- One command waits in the queue. -/
def given (c : Instr) (s : State) : State := s.withPending [c]

/-- The Surface Bus Controller changed. -/
def withBus (f : Sbc → Sbc) (s : State) : State := s.withSbc (f s.sbc)

/-- The reply queue filled with four replies. -/
def full (s : State) : State := s.withMsu { s.msu with replies := List.replicate 4 ⟨0x01, 0, .ok, none⟩ }

/-- A number of notices of one kind wait. -/
def noticed (n : Nat) (b : NoticeBody) (s : State) : State :=
  s.withMsu { s.msu with notices := List.replicate n ⟨false, b⟩ }

/-- A level at unity. -/
def unity : GainRec := ⟨.tenths 0, false, 1048576, none, none⟩

/-- A level at unity whose record fades to 0 from there. -/
def fading (step : Nat) : GainRec := { unity with coeff := (⟨1048576, 0, 256, step⟩ : Ramp).value step
                                                  ramp := some ⟨1048576, 0, 256, step⟩ }

/-- The state with some route entries from the first on, and the rest FREE. -/
def routed (rs : List Route) (s : State) : State :=
  s.withRme { s.rme with routes := rs ++ List.replicate (128 - rs.length) Route.freeEntry }

/-- The clock on a source in a state and a mode, with that source's record. -/
def onSource (x : ClockSource) (clock : ClockState) (mode : ClockMode) (r : SourceRec) : Cku :=
  { Cku.powerOn with
    sources := Cku.powerOn.sources.set (sourceCode x) r
    priority := [x, .internal], mode := mode, fixedSource := x, clock := clock, source := x
    lockTimer := if clock = .switching then some 0 else none
    holdoverTimer := if clock = .holdover then some 0 else none }

/-- A GOOD and an UNUSABLE record. -/
def goodRec : SourceRec := ⟨.good, 0, 0, 48, false, 48⟩
def badRec : SourceRec := ⟨.unusable, 200, 0, 48, false, 48⟩

/-- A control of the module at address 5. -/
def strip : Control := ⟨.remote 5, 0⟩

/-- The module at address 5. -/
def module5 (st : ModuleState) (q : Nat) : Entry := ⟨5, 0xA1B2, .faderStrip, 9, true, 4, st, q, 2000⟩

/-- An idle motor fader at a position. -/
def fader (st : FaderState) (position : Nat) : Fader :=
  { Fader.powerOn with enable := true, state := st, position := position, reported := position, target := position }

/-- A part at work: capture RUNNING, port 0 RUNNING, port 1 at the end of SETTLING, an ACTIVE and a RELEASING route of one
lane, a module that holds the ACTIVE one by a bound fader, and a motor fader. -/
def studio : State :=
  let s := routed [⟨.active, .play 0, .recCh 0, false, { unity with holder := some strip }⟩,
    ⟨.releasing, .play 1, .recCh 0, false, fading 9⟩] linked
  let s := s.withStu { s.stu with capture := { s.stu.capture with state := .running } }
  let s := s.withPtu [{ Port.powerOn false with state := .running }, { Port.powerOn false with state := .settling, settle := 1 },
    Port.powerOn false, Port.powerOn false]
  let s := s.withMtb ⟨[module5 .online 0], 0⟩
  let s := s.withBdt (⟨.active, .none, strip, some 0xA1B2, .routeGain 0, .absolute, 1, true⟩ ::
    List.replicate 31 Binding.emptyEntry)
  s.withFsv { s.fsv with channels := fader .idle 512 :: List.replicate 7 Fader.powerOn }

theorem room (s : State) (h : s.phase ≠ .resetting) (hm : s.msu.mask = 0) (hn : s.msu.notices.length + n ≤ 64) :
    HasRoom n s := ⟨h, hm, hn⟩

theorem studio_room : HasRoom 11 studio := room _ (by decide +kernel) (by decide +kernel) (by decide +kernel)

/-- The studio meets every law. -/
theorem studio_sound : Sound studio where
  records := by decide +kernel
  clock := by refine ⟨?_, ?_, ?_, ?_, ?_, ?_, ?_⟩ <;> decide +kernel
  presence := by decide +kernel
  streams := by decide +kernel
  ports := ⟨by decide +kernel, fun i hi => by interval_cases i <;> decide +kernel, by decide +kernel⟩
  routes := by refine ⟨?_, ?_, ?_, ?_, ?_, ?_⟩ <;> decide +kernel
  modules := by decide +kernel
  search := by decide +kernel
  output := ⟨List.forall_mem_cons.2 ⟨by decide +kernel, List.forall_mem_cons.2 ⟨by decide +kernel,
    List.forall_mem_cons.2 ⟨by decide +kernel, by simp⟩⟩⟩, by decide +kernel, by decide +kernel, by decide +kernel⟩
  bus := by decide +kernel
  bindings := by refine ⟨?_, ?_, ?_, ?_, ?_, ?_, ?_⟩ <;> decide +kernel
  faders := by decide +kernel

/-- The command queue is part of no law. -/
theorem given_sound (c : Instr) : Sound (given c studio) where
  records := studio_sound.records
  clock := studio_sound.clock
  presence := studio_sound.presence
  streams := studio_sound.streams
  ports := studio_sound.ports
  routes := studio_sound.routes
  modules := studio_sound.modules
  search := studio_sound.search
  output := studio_sound.output
  bus := studio_sound.bus
  bindings := studio_sound.bindings
  faders := studio_sound.faders

/-! ## Steps and invariants -/

/-- The invariants' witness: a lawful state whose next step releases the held route and orphans its binding. -/
abbrev working : State := given (.routeRemove 7 0) studio

theorem working_steps : ∃ t, step working = .next t := ⟨_, rfl⟩

theorem witness_StepRunsFrontCommand : working.pending = [.routeRemove 7 0] ∧ studio.pending = [] := by decide +kernel

theorem witness_RecordsLawKept : RecordsSound working.msu ∧ ∃ t, step working = .next t :=
  ⟨studio_sound.records, working_steps⟩
theorem witness_ClockLawKept : (∃ t, step working = .next t) ∧ ClockSound working.cku ∧ PresenceSound working :=
  ⟨working_steps, studio_sound.clock, studio_sound.presence⟩
theorem witness_StreamsLawKept : StreamsSound working ∧ ∃ t, step working = .next t :=
  ⟨studio_sound.streams, working_steps⟩
theorem witness_PortsLawKept : PortsSound working ∧ ∃ t, step working = .next t := ⟨studio_sound.ports, working_steps⟩
theorem witness_RoutesLawKept : Sound working ∧ (∀ c ∈ working.pending.head?, c.wellFormed = true) ∧
    ∃ t, step working = .next t := ⟨given_sound _, by decide +kernel, working_steps⟩
theorem witness_ModulesLawKept : Sound working ∧ ∃ t, step working = .next t := ⟨given_sound _, working_steps⟩
theorem witness_OutputLawKept : Sound working ∧ ∃ t, step working = .next t := ⟨given_sound _, working_steps⟩
theorem witness_BindingsLawKept : Sound working ∧ ∃ t, step working = .next t := ⟨given_sound _, working_steps⟩
theorem witness_FadersLawKept : FadersSound working.fsv ∧ (∀ c ∈ working.pending.head?, c.wellFormed = true) ∧
    ∃ t, step working = .next t := ⟨studio_sound.faders, by decide +kernel, working_steps⟩
theorem witness_SchedulerLeavesNothing : NothingLeft working ∧ ∃ t, step working = .next t :=
  ⟨by decide +kernel, working_steps⟩

/-! ## Power, link and records -/

theorem witness_PowerOnAndReset : studio.takes = true ∧ studio.txnPhase ≠ some .sending := by decide +kernel

/-- 63 notices are the most that leave room for READY. -/
theorem witness_SessionOpens :
    let s := noticed 63 (.streamSlip .playback 0 0 0) State.reset
    s.msu.notices.length < 64 ∧ s.phase = .powerUp ∧ (s.withPhase .resetting).phase = .resetting ∧
    ready.phase ≠ .powerUp ∧ ready.phase ≠ .resetting ∧ ready.msu.notices.length < 64 := by decide +kernel

theorem witness_LinkStateTable :
    Instr.resumeSignalling ∈ [Instr.busPowerConnection, .busReset, .busIdleSuspend, .resumeSignalling, .disconnection] ∧
    linkLeft .resumeSignalling (.suspended true) = false ∧ linked.lif.link = .configured ∧
    (onLink .attached ready).lif.link = .attached := by decide +kernel

/-- A link reset and a suspend, with capture running, so that LINK is present, and with no stream running. -/
theorem witness_LinkLossReachesOnlyItsBlocks :
    studio.cku.sources.length = 7 ∧ studio.ptu.length = 4 ∧ linkLeft .busReset studio.lif.link = true ∧
    linkLeft .busIdleSuspend studio.lif.link = true ∧ studio.present .link = true ∧
    (linked.cku.sources.length = 7 ∧ linked.ptu.length = 4 ∧ linkLeft .busReset linked.lif.link = true ∧
      linked.present .link = false) ∧
    studio.cku.source ≠ .link ∧ studio.rme.overload = studio.ptu.map Port.handsOverload ∧ ClockSound studio.cku :=
  ⟨by decide +kernel, by decide +kernel, by decide +kernel, by decide +kernel, by decide +kernel, by decide +kernel,
    by decide +kernel, by decide +kernel, studio_sound.clock⟩

/-- LINK as the clock source: in AUTO, in FIXED, and in FIXED and HOLDOVER. -/
theorem witness_LinkLossReachesOnlyItsBlocks_clock :
    let auto := onSource .link .locked .auto goodRec
    let fixed := onSource .link .locked .fixed goodRec
    let gone := onSource .link .holdover .fixed badRec
    (ClockSound auto ∧ ClockSound fixed ∧ ClockSound gone) ∧ (studio.withCku auto).present .link = true ∧
    auto.source = .link ∧ auto.mode = .auto ∧ fixed.mode = .fixed ∧ fixed.clock ≠ .holdover ∧
    gone.mode = .fixed ∧ gone.clock = .holdover ∧
    studio.stu.capture.state ≠ .idle ∧ (studio.withCku auto).stu.playback.state = .idle ∧
    (auto.record .link).standing ≠ .absent := by
  refine ⟨⟨?_, ?_, ?_⟩, ?_⟩
  · refine ⟨?_, ?_, ?_, ?_, ?_, ?_, ?_⟩ <;> decide +kernel
  · refine ⟨?_, ?_, ?_, ?_, ?_, ?_, ?_⟩ <;> decide +kernel
  · refine ⟨?_, ?_, ?_, ?_, ?_, ?_, ?_⟩ <;> decide +kernel
  · decide +kernel

/-- A command buffer of three records takes a fourth, one of four takes none. -/
theorem witness_ControlOutPackets :
    let three := linked.withMsu { linked.msu with commands := [[], [], []] }
    let four := linked.withMsu { linked.msu with commands := [[], [], [], []] }
    three.lif.link = .configured ∧ three.phase ≠ .resetting ∧ three.msu.commands.length < 4 ∧
    four.lif.link = .configured ∧ 4 ≤ four.msu.commands.length ∧ (linked.withPhase .resetting).lif.link = .configured := by
  decide +kernel

theorem witness_ControlInSender :
    let kept := linked.withLif { linked.lif with transmit := some (.notice ⟨false, .ready .powerOn⟩) }
    let told := noticed 1 (.ready .powerOn) linked
    kept.lif.link = .configured ∧ kept.lif.transmit = some (.notice ⟨false, .ready .powerOn⟩) ∧
    (full linked).lif.transmit = none ∧ (full linked).msu.replies ≠ [] ∧
    told.lif.transmit = none ∧ told.msu.replies = [] ∧ told.msu.notices ≠ [] ∧
    linked.lif.transmit = none ∧ linked.msu.replies = [] ∧ linked.msu.notices = [] := by decide +kernel

/-- Three replies waiting leave room for one, four leave none. -/
theorem witness_CommandsAnsweredOnce :
    commandOf (.clockSetRate 7 6) = some (0x10, 7) ∧ (full ready).takes = false ∧
    (ready.withMsu { ready.msu with replies := List.replicate 3 ⟨0x01, 0, .ok, none⟩ }).takes = true := by decide +kernel

theorem witness_RecordsRunTheirRows :
    recordOf 0xFF (.clockSetRate 7 6) = some [1, 0x10, 7, 0xFF, 1, 0, 6] ∧ (Instr.clockSetRate 7 6).wellFormed = true ∧
    ready.takes = true ∧
    (ready.withMsu { ready.msu with commands := [[1, 0x10, 7, 0xFF, 1, 0, 6]] }).msu.commands =
      [1, 0x10, 7, 0xFF, 1, 0, 6] :: [] := by decide +kernel

/-- Five bytes; a first byte that is not 1; a kind of no command; a length field that is off by one; a payload that is
one byte too long for its kind. -/
theorem witness_FramingChecks :
    (ready.withMsu { ready.msu with commands := [[1, 1, 7, 0, 0]] }).takes = true ∧
    ([1, 1, 7, 0, 0] : List Byte).length < 6 ∧ ([2, 1, 7, 0, 0, 0] : List Byte).head? ≠ some 1 ∧
    payloadSizes 0x05 = none ∧ payloadSizes 0x10 = some (1, 1) ∧ (half 2 0).toNat ≠ ([6] : List Byte).length ∧
    (half 2 0).toNat = ([6, 6] : List Byte).length ∧ 1 < ([6, 6] : List Byte).length := by decide +kernel

/-- The queue at 63 and at 64, a masked kind, READY, and a coalescing kind. -/
theorem witness_NoticeQueueing :
    let b := NoticeBody.streamSlip .playback 1 0 5
    let r := NoticeBody.ready .powerOn
    ready.phase ≠ .resetting ∧ b.code ≠ 0 ∧ (0x10 : Half).getLsbD b.code = true ∧ ready.msu.mask.getLsbD b.code = false ∧
    (noticed 1 b ready).msu.notices = [] ++ ⟨false, b⟩ :: [] ∧ b.coalesces b = true ∧
    (∀ x ∈ (noticed 64 r ready).msu.notices, b.coalesces x.body = false) ∧ 64 ≤ (noticed 64 r ready).msu.notices.length ∧
    (∀ x ∈ (noticed 63 r ready).msu.notices, r.coalesces x.body = false) ∧
    (noticed 63 r ready).msu.notices.length < 64 ∧ r.code = 0 := by decide +kernel

theorem witness_MsuCommands : ready.takes = true ∧ (lampOf 0).isSome = true ∧ (lampOf 6).isSome = true ∧
    7 ≤ (7 : Byte).toNat := by decide +kernel

/-! ## Studio clock -/

/-- The clock on WORDCLOCK in a state, WORDCLOCK being of a quality. -/
def onWord (clock : ClockState) (mode : ClockMode) (q : Nat) : Cku :=
  onSource .wordclock clock mode ⟨if q < 96 then .good else .unusable, q, 0, 48, false, 48⟩

/-- A switch whose target stays usable when charged 64, and one whose target does not, in FIXED and AUTO. -/
theorem witness_ClockEvents :
    (onWord .switching .auto 0).clock = .switching ∧ (onWord .locked .auto 0).clock = .locked ∧
    (onWord .holdover .fixed 200).clock = .holdover ∧ (onWord .holdover .fixed 200).holdoverTimer.isSome = true ∧
    (onWord .switching .fixed 0).lockTimer ≠ none ∧ (onWord .locked .fixed 0).lockTimer = none := by decide +kernel

theorem witness_ClockEvents_sound :
    ClockSound (onWord .switching .fixed 31) ∧ ClockSound (onWord .switching .fixed 95) ∧
    ClockSound (onWord .switching .auto 95) ∧ ClockSound (onWord .locked .fixed 0) := by
  refine ⟨?_, ?_, ?_, ?_⟩ <;> refine ⟨?_, ?_, ?_, ?_, ?_, ?_, ?_⟩ <;> decide +kernel

/-- A present source and a source that is not, in a judged and an unjudged period. -/
theorem witness_CheckPeriods :
    let s := ready.withCku (onWord .locked .auto 0)
    s.phase = .running ∧ s.present .wordclock = true ∧ s.present .link = false ∧ s.cku.unjudged = false ∧
    s.cku.mode = .auto ∧ ClockSource.wordclock ∈ externalSources := by decide +kernel

theorem witness_CheckPeriods_sound :
    ClockSound (onWord .locked .auto 0) ∧ ClockSound { onWord .locked .auto 0 with unjudged := true } := by
  refine ⟨?_, ?_⟩ <;> refine ⟨?_, ?_, ?_, ?_, ?_, ?_, ?_⟩ <;> decide +kernel

/-- R22: a service interval has 6 edges at 48 kHz; at 44.1 kHz 5.5125, so the first has 5 and leaves 4,100/8000, and 80 of them
(ten check periods) have 441. -/
theorem test_link_reference : (⟨0, 0⟩ : LinkReference).interval .r48 = ⟨6, 0⟩ ∧
    (⟨0, 0⟩ : LinkReference).interval .r44 = ⟨5, 4100⟩ ∧
    ((List.range 80).foldl (fun (x : Nat × LinkReference) _ => (x.1 + (x.2.interval .r44).due, x.2.interval .r44)) (0, ⟨0, 0⟩)).1 =
      441 := by decide +kernel

/-- What a check period makes of the studio's clock. -/
def periodGives (c : Cku) (judged : Cku → Bool) : Prop :=
  ClockSound c ∧ ∃ t, exec .checkPeriodEnd (studio.withCku c) = .next t ∧ judged t.cku = true

theorem periodGives_of {c : Cku} {judged : Cku → Bool} (hc : ClockSound c)
    (h : judged (c.periodEnd (studio.withCku c).present).1 = true) : periodGives c judged :=
  ⟨hc, clockEvent (c.periodEnd (studio.withCku c).present) (studio.withCku c), rfl, by rw [clockEvent_cku]; exact h⟩

/-- In AUTO: the source lost, an earlier source usable again after INTERNAL, an earlier source reverted to, nothing new. -/
theorem witness_CheckPeriods_auto :
    let word := fun (c : Cku) (r : SourceRec) =>
      { c.putRec .wordclock r with priority := ClockSource.wordclock :: c.priority, fixedSource := .internal }
    periodGives (onSource .wordclock .locked .auto { goodRec with edges := 0 }) (fun t => !t.usable .wordclock) ∧
    periodGives (word { Cku.powerOn with clock := .free } ⟨.unusable, 64, 0, 48, false, 48⟩) (fun t => t.usable .wordclock) ∧
    periodGives (word (onSource .link .locked .auto goodRec) { goodRec with revert := 499 })
      (fun t => t.usable .link && (t.record .wordclock).revert == 500) ∧
    periodGives (onSource .wordclock .locked .auto goodRec) (fun t => t.usable .wordclock) := by
  refine ⟨?_, ?_, ?_, ?_⟩ <;>
    exact periodGives_of (by refine ⟨?_, ?_, ?_, ?_, ?_, ?_, ?_⟩ <;> decide +kernel) (by decide +kernel)

/-- In FIXED: the fixed source's state unchanged, changed and still usable, usable again, lost further, and lost. -/
theorem witness_CheckPeriods_fixed :
    let stands := fun (x : Standing) (t : Cku) => decide ((t.record .wordclock).standing = x)
    periodGives (onSource .wordclock .locked .fixed goodRec) (stands .good) ∧
    periodGives (onSource .wordclock .locked .fixed ⟨.good, 88, 0, 40, false, 40⟩) (stands .degraded) ∧
    periodGives (onSource .wordclock .holdover .fixed ⟨.unusable, 64, 0, 48, false, 48⟩) (stands .good) ∧
    periodGives (onSource .wordclock .holdover .fixed { badRec with edges := 0 }) (stands .absent) ∧
    periodGives (onSource .wordclock .locked .fixed { goodRec with edges := 0 }) (stands .absent) := by
  refine ⟨?_, ?_, ?_, ?_, ?_⟩ <;>
    exact periodGives_of (by refine ⟨?_, ?_, ?_, ?_, ?_, ?_, ?_⟩ <;> decide +kernel) (by decide +kernel)

/-- A list of all seven sources, a source named twice, and a code just outside its range. -/
theorem witness_ClockSetSources :
    ready.takes = true ∧ ([0, 1, 2, 3, 4, 5, 6] : List Byte).length ≤ 7 ∧ clockModeOf 1 = some .fixed ∧
    sourceOf 6 = some (.port 3) ∧ flagOf 0 = some false ∧
    ([0, 1, 2, 3, 4, 5, 6] : List Byte).map sourceOf =
      ([.internal, .wordclock, .link, .port 0, .port 1, .port 2, .port 3] : List ClockSource).map some ∧
    ([.internal, .wordclock, .link, .port 0, .port 1, .port 2, .port 3] : List ClockSource).Nodup ∧
    ([1, 1] : List Byte).map sourceOf = ([.wordclock, .wordclock] : List ClockSource).map some ∧
    ¬ ([.wordclock, .wordclock] : List ClockSource).Nodup ∧ sourceOf 7 = none := by decide +kernel

/-- FIXED on INTERNAL, from INTERNAL and from another source; on a usable source, from it and from INTERNAL; on one that is
not usable, from it, in HOLDOVER on it, from INTERNAL after an expired holdover, and from another source. -/
theorem witness_ClockSetSources_fixed :
    let word := onWord .locked .fixed 0
    let bad := onSource .wordclock .locked .fixed badRec
    let held := onSource .wordclock .holdover .fixed badRec
    let fell := { bad with clock := .free, source := .internal, fallback := .holdoverExpired }
    let other := onSource .link .locked .fixed goodRec
    Cku.powerOn.clock = .free ∧ (word.clock = .locked ∧ word.source = .wordclock ∧ word.usable .wordclock = true) ∧
    { word with clock := .free, source := .internal }.source ≠ .wordclock ∧ bad.usable .wordclock = false ∧
    bad.clock = .locked ∧ bad.source = .wordclock ∧ held.clock = .holdover ∧ held.source = .wordclock ∧
    held.usable .wordclock = false ∧ fell.clock = .free ∧ fell.fallback = .holdoverExpired ∧
    other.usable .wordclock = false ∧ other.clock = .locked ∧ other.source ≠ .wordclock ∧ HasRoom 5 studio ∧
    studio.ptu.length = 4 := by
  refine ⟨?_, ?_, ?_, ?_, ?_, ?_, ?_, ?_, ?_, ?_, ?_, ?_, ?_, ?_, room _ ?_ ?_ ?_, ?_⟩ <;> decide +kernel

theorem witness_ClockSetSources_sound : ClockSound ready.cku := studio_sound.clock

theorem witness_ClockSetRate : studio.takes = true ∧ studio.cku.sources.length = 7 ∧ studio.ptu.length = 4 ∧
    6 ≤ (6 : Byte).toNat ∧ rateOf 1 = some studio.cku.rate ∧ rateOf 5 = some .r192 ∧ Rate.r192 ≠ studio.cku.rate := by
  decide +kernel

/-! ## Host streams -/

theorem witness_StreamCommands :
    linked.takes = true ∧ streamOf 2 = none ∧ streamOf 0 = some .playback ∧ streamOf 1 = some .capture ∧
    depthOf 16 = some 16 ∧ depthOf 256 = some 256 ∧ depthOf 17 = none ∧ 1 ≤ (32 : Byte).toNat ∧ (32 : Byte).toNat ≤ 32 ∧
    32 < (33 : Byte).toNat ∧ linked.stu.state .playback = .idle ∧ linked.lif.link = .configured ∧
    ready.lif.link ≠ .configured ∧ studio.stu.state .capture ≠ .idle ∧ studio.cku.sources.length = 7 := by decide +kernel

/-- The playback stream of two channels in a state. -/
def playing (st : StreamState) (fill : Nat) : Playback :=
  { Stu.powerOn.playback with
    state := st, buffer := List.replicate fill [0, 0], arrivals := if fill = 0 then [] else [⟨0, fill⟩] }

/-- The linked part with its playback stream so. -/
def withPlayback (p : Playback) : State := linked.withStu { linked.stu with playback := p }

/-- A recentring from just below half the target of 32, none at half and at one and a half, one from just above that, and a
stream that is not RUNNING. -/
theorem witness_ClockEvents_recentred :
    (playing .running 15).state = .running ∧ 2 * (playing .running 15).buffer.length < (playing .running 15).depth / 2 ∧
    (playing .running 16).depth / 2 ≤ 2 * (playing .running 16).buffer.length ∧
    2 * (playing .running 48).buffer.length ≤ 3 * ((playing .running 48).depth / 2) ∧
    3 * ((playing .running 49).depth / 2) < 2 * (playing .running 49).buffer.length ∧
    (∀ a ∈ (playing .running 49).arrivals, 1 ≤ a.count) ∧ (playing .priming 15).state ≠ .running := by decide +kernel

/-- IDLE, a size that is no multiple, one frame too many, and the most frames, the last into a full buffer. -/
theorem witness_PlaybackPackets :
    (withPlayback (playing .idle 0)).lif.link = .configured ∧ PlaybackSound .r48 (playing .idle 0) ∧
    PlaybackSound .r48 (playing .priming 31) ∧ PlaybackSound .r48 (playing .running 64) ∧
    (List.replicate 7 (0 : Byte)).length % (4 * 2) ≠ 0 ∧ Rate.r48.maxFrames < (List.replicate 64 (0 : Byte)).length / (4 * 2) ∧
    (List.replicate 56 (0 : Byte)).length % (4 * 2) = 0 ∧
    (List.replicate 56 (0 : Byte)).length / (4 * 2) ≤ Rate.r48.maxFrames := by
  refine ⟨?_, ?_, ?_, ?_, ?_, ?_, ?_, ?_⟩ <;> decide +kernel

/-- A packet of 7 frames makes 31 frames the target of 32, and passes the depth of 64. -/
theorem witness_PlaybackPackets_notices :
    (playing .priming 31).state = .priming ∧ (playing .priming 31).depth / 2 ≤ (playing .priming 31).buffer.length + 7 ∧
    (playing .running 64).depth < (playing .running 64).buffer.length + 7 := by decide +kernel

/-- A frame with its entry, a frame that no entry lists, and an empty buffer at the fourteenth and fifteenth repeat. -/
theorem witness_PlaybackDraws :
    (playing .running 2).state = .running ∧ (playing .running 2).buffer = [0, 0] :: [[0, 0]] ∧
    (playing .running 2).unlisted = 0 ∧ (playing .running 2).arrivals = ⟨0, 2⟩ :: [] ∧
    0 < { playing .running 2 with arrivals := [], unlisted := 2 }.unlisted ∧ (playing .running 0).buffer = [] ∧
    { playing .running 0 with repeatRun := 14 }.repeatRun < 15 ∧ ¬ { playing .running 0 with repeatRun := 15 }.repeatRun < 15 := by
  decide +kernel

/-- A ring one short of full and a full one, with playback RUNNING and IDLE. -/
theorem witness_CaptureAndReports :
    linked.lif.link = .configured ∧ (List.replicate 127 (0 : Stamp)).length < 128 ∧
    List.replicate 128 (0 : Stamp) = 0 :: List.replicate 127 0 ∧ 128 ≤ (List.replicate 128 (0 : Stamp)).length ∧
    (withPlayback (playing .running 2)).stu.playback.state = .running ∧ linked.stu.playback.state ≠ .running := by
  decide +kernel

/-- LINK present with an edge of its interval still to come, and with none. -/
theorem witness_CheckPeriods_link :
    let s := withPlayback (playing .running 2)
    let u := s.withLif { s.lif with reference := ⟨1, 7999⟩ }
    u.phase = .running ∧ ClockSound u.cku ∧ u.present .link = true ∧ 0 < u.lif.reference.due ∧ s.lif.reference.due = 0 ∧
    ClockSource.link ∈ externalSources := by
  refine ⟨?_, ?_, ?_, ?_, ?_, ?_⟩
  · decide +kernel
  · exact studio_sound.clock
  all_goals decide +kernel

/-! ## Converter ports -/

/-- A port in a mode and a state, 16 slots wide. -/
def porting (m : PortMode) (st : PortState) : Port := { Port.powerOn false with mode := m, state := st, slots := 16 }

/-- The ready part with one record for all four ports. -/
def withPort (p : Port) (s : State) : State := s.withPtu [p, p, p, p]

theorem witness_PortCommands :
    (withPort (porting .drive .off) ready).takes = true ∧ (withPort (porting .drive .off) ready).ptu.length = 4 ∧
    indexBelow 4 3 = some 3 ∧ portModeOf 1 = some .follow ∧ slotsOf 16 = some 16 ∧ slotsOf 2 = some 2 ∧
    ((withPort (porting .follow .held) ready).port 3).state ≠ .off ∧
    ((withPort (porting .follow .held) ready).port 3).state ≠ .conflict ∧
    ((withPort (porting .follow .conflict) ready).port 3).state = .conflict ∧
    ((withPort (porting .drive .off) ready).port 3).state = .off ∧ (16 : Nat) ≤ ready.cku.rate.maxSlots ∧
    Rate.r192.maxSlots < 16 ∧ ((withPort (porting .drive .off) ready).port 3).mode = .drive ∧ flagOf 1 = some true := by
  decide +kernel

/-- FOLLOW to DRIVE in OFF and in CONFLICT, with the port as the clock source and not. -/
theorem witness_PortCommands_loses_source :
    ClockSound ready.cku ∧ ClockSound (onSource (.port 3) .locked .auto goodRec) ∧ (3 : Fin 4).val = 3 ∧
    ((withPort (porting .follow .off) ready).port 3).mode = .follow ∧
    ((withPort (porting .follow .off) ready).port 3).state = .off ∧
    ((withPort (porting .follow .conflict) ready).port 3).mode = .follow ∧ portModeOf 0 = some .drive ∧
    ready.cku.source ≠ .port 3 := by
  refine ⟨studio_sound.clock, ?_, ?_⟩
  · refine ⟨?_, ?_, ?_, ?_, ?_, ?_, ?_⟩ <;> decide +kernel
  · decide +kernel

/-- A port in CONFLICT that stays in DRIVE, and one that stays in FOLLOW, with room for the record. -/
theorem witness_PortCommands_conflict :
    ((withPort (porting .drive .conflict) ready).port 3).state = .conflict ∧
    ((withPort (porting .drive .conflict) ready).port 3).mode = .drive ∧ slotsOf 2 = some 2 ∧ 2 ≤ ready.cku.rate.maxSlots ∧
    portModeOf 1 = some .follow ∧ HasRoom 1 (withPort (porting .drive .conflict) ready) :=
  ⟨by decide +kernel, by decide +kernel, by decide +kernel, by decide +kernel, by decide +kernel,
    room _ (by decide +kernel) (by decide +kernel) (by decide +kernel)⟩

/-- The end of the reset timer, of the settle count, and retime buffers empty, at 7 and full. -/
theorem witness_PortEvents :
    (withPort { porting .follow .starting with resetTimer := some 0 } ready).ptu.length = 4 ∧
    { porting .follow .starting with resetTimer := some 0 }.resetTimer.isSome = true ∧
    (porting .drive .settling).state = .settling ∧ (porting .follow .running).retimes = true ∧
    (porting .drive .running).retimes = false ∧ (porting .drive .running).state = .running ∧
    (porting .drive .held).state ≠ .running ∧ (porting .follow .off).retimes = false ∧ 8 ≤ (List.replicate 8 ([] : Frame)).length ∧
    ¬ 8 ≤ (List.replicate 7 ([] : Frame)).length ∧ (porting .follow .running).outBuf = [] ∧
    (porting .follow .conflict).state = .conflict ∧ (porting .follow .held).state = .held ∧
    (porting .follow .held).mode = .follow := by decide +kernel

/-- A port that sends a frame of its 16 slots on a link whose clocks the part drives. -/
theorem witness_PortEvents_line :
    let slots : List Slot := List.replicate 15 0 ++ [1]
    let p := { porting .drive .running with line := some slots }
    slots[15]? = some 1 ∧ p.line = some slots ∧ p.drivesClocks = true ∧ slots.length = p.slots := by decide +kernel

/-- R74: the sample −1 is sent as 24 ones and 8 zeros; 16 slots at 48 kHz need 24.576 MHz, as do 8 at 96 kHz. -/
theorem test_link_bits : slotBits (slotOfSample (-1)) = List.replicate 24 true ++ List.replicate 8 false ∧
    linkBits [0, slotOfSample (-8388608)] = List.replicate 32 false ++ true :: List.replicate 31 false ∧
    (porting .drive .running).drivenBitClock .r48 = some 24576000 ∧ (Port.powerOn false).bitClock 96000 = 24576000 := by
  decide +kernel

/-! ## Route table, buses and meters -/

/-- A route from PLAY 31 to a destination, at unity. -/
def playTo (dest : Point) : Route := ⟨.active, .play 31, dest, false, unity⟩

/-- Gain +121, which is clamped; bad order; a taken lane; a full table; the FREE entry of the lowest id. -/
theorem witness_RouteAdd :
    ready.takes = true ∧ sourcePointOf ⟨2, 7⟩ = some (.bus 7) ∧ destPointOf ⟨5, 7⟩ = some (.busIn 7) ∧
    gainOf 121 = some (.tenths 121) ∧ gainOf 0x8000 = some .off ∧ routeFlagsOf 3 = some (true, true, false) ∧
    badOrder (.bus 7) (.busIn 7) = true ∧ badOrder (.bus 6) (.busIn 7) = false ∧
    sourcePointOf ⟨0, 31⟩ = some (.play 31) ∧ destPointOf ⟨3, 31⟩ = some (.recCh 31) ∧
    (∃ r ∈ (routed [playTo (.recCh 31)] ready).rme.routes, r.state = .active ∧ r.inLane (.play 31) (.recCh 31) = true) ∧
    (∀ r ∈ (routed (List.replicate 128 (playTo (.recCh 0))) ready).rme.routes,
      ¬ (r.state = .active ∧ r.inLane (.play 31) (.recCh 31) = true) ∧ r.state ≠ .free) ∧
    (∀ r ∈ ready.rme.routes, ¬ (r.state = .active ∧ r.inLane (.play 31) (.recCh 31) = true)) ∧
    ready.rme.routes = [] ++ Route.freeEntry :: List.replicate 127 Route.freeEntry := by decide +kernel

/-- REPLACE into the lane of the studio's ACTIVE and RELEASING routes; the first id beyond the table, the last FREE one, the
RELEASING and the ACTIVE entry. -/
theorem witness_RouteReplaceAndRemove :
    studio.takes = true ∧ sourcePointOf ⟨0, 0⟩ = some (.play 0) ∧ destPointOf ⟨3, 0⟩ = some (.recCh 0) ∧
    gainOf 120 = some (.tenths 120) ∧ routeFlagsOf 4 = some (false, false, true) ∧
    badOrder (.play 0) (.recCh 0) = false ∧ studio.rme.rampLength ≠ 0 ∧ (studio.rme.route 0).state = .active ∧
    (studio.rme.route 0).inLane (.play 0) (.recCh 0) = true ∧ (∃ r ∈ studio.rme.routes, r.state = .free) ∧
    128 ≤ (128 : Byte).toNat ∧ (studio.rme.route 127).state = .free ∧ (studio.rme.route 1).state = .releasing := by
  decide +kernel

theorem witness_RouteReplaceAndRemove_sound : RoutesSound studio.rme := studio_sound.routes

/-- A full table of ACTIVE routes, one in each lane of PLAY 0 to 31 and BUSIN 0 to 3, with some last entry. -/
def fullTable (last : Route) (length : Nat) : Rme :=
  { Rme.powerOn with
    rampLength := length
    routes := (List.range 127).map (fun k => ⟨.active, .play (k % 32), .busIn (k / 32), false, unity⟩) ++ [last] }

/-- The last entry ACTIVE in a lane of its own, and RELEASING in the lane of entry 0. -/
def lastActive : Route := ⟨.active, .play 31, .busIn 3, false, unity⟩
def lastReleasing : Route := ⟨.releasing, .play 0, .busIn 0, false, fading 9⟩

theorem fullTable_active_sound : RoutesSound (fullTable lastActive 256) := by
  refine ⟨?_, ?_, ?_, ?_, ?_, ?_⟩ <;> decide +kernel

theorem witness_RouteReplaceAndRemove_full_sound :
    RoutesSound (fullTable lastActive 256) ∧ RoutesSound (fullTable lastActive 0) ∧ RoutesSound (fullTable lastReleasing 256) :=
  ⟨fullTable_active_sound, ⟨rfl, rfl, by decide, fullTable_active_sound.2.2.2⟩, by
    refine ⟨?_, ?_, ?_, ?_, ?_, ?_⟩ <;> decide +kernel⟩

/-- A lane without an ACTIVE route, in a full table and with the lowest FREE id between others; a lane with one in a full
table, without room, and with room by the ramp length and by the lane's RELEASING route. -/
theorem witness_RouteReplaceAndRemove_room :
    let free := fun (m : Rme) => decide (∃ r ∈ m.routes, r.state = .free)
    let cut := fun (m : Rme) => decide (∃ r ∈ m.routes, r.state = .releasing ∧ r.inLane (.play 0) (.busIn 0) = true)
    let full := fullTable lastActive 256
    free full = false ∧ (∀ r ∈ full.routes, r.state = .active → ¬ r.inLane (.play 0) (.recCh 31) = true) ∧
    (∀ r ∈ studio.rme.routes, r.state = .active → ¬ r.inLane (.play 0) (.recCh 31) = true) ∧
    (studio.rme.route 2).state = .free ∧ (∀ n < 2, (studio.rme.route n).state ≠ .free) ∧
    (full.route 0).state = .active ∧ (full.route 0).inLane (.play 0) (.busIn 0) = true ∧ full.rampLength ≠ 0 ∧
    cut full = false ∧ (fullTable lastActive 0).rampLength = 0 ∧ cut (fullTable lastReleasing 256) = true ∧
    free (fullTable lastReleasing 256) = false ∧ (studio.withRme full).takes = true ∧
    sourcePointOf ⟨0, 0⟩ = some (.play 0) ∧ destPointOf ⟨3, 31⟩ = some (.recCh 31) ∧
    badOrder (.play 0) (.recCh 31) = false ∧ destPointOf ⟨5, 0⟩ = some (.busIn 0) ∧
    badOrder (.play 0) (.busIn 0) = false := by decide +kernel

theorem witness_RouteGainAndMute :
    let free := routed [playTo (.recCh 0)] ready
    studio.takes = true ∧ (127 : Byte).toNat < 128 ∧ gainOf 121 = some (.tenths 121) ∧ flagOf 1 = some true ∧
    studio.rme.routes.length = 128 ∧ NothingLeft studio ∧ (studio.rme.route 127).state = .free ∧
    (studio.rme.route 1).state = .releasing ∧ (studio.rme.route 0).state = .active ∧
    (studio.rme.route 0).level.holder ≠ none ∧ free.takes = true ∧ free.rme.routes.length = 128 ∧ NothingLeft free ∧
    (free.rme.route 0).state = .active ∧ (free.rme.route 0).level.holder = none := by decide +kernel

/-- The ready part with bus 7 held. -/
def heldBus : State := ready.withRme { ready.rme with buses := ready.rme.buses.set 7 { unity with holder := some strip } }

theorem witness_BusSetAndRampSet :
    heldBus.takes = true ∧ (7 : Byte).toNat < 8 ∧ gainOf 121 = some (.tenths 121) ∧ flagOf 0 = some false ∧
    heldBus.rme.buses.length = 8 ∧ NothingLeft heldBus ∧ (heldBus.rme.bus 7).holder ≠ none ∧
    ready.rme.buses.length = 8 ∧ NothingLeft ready ∧ (ready.rme.bus 7).holder = none ∧
    rampLengthOf 65 = none ∧ rampLengthOf 0 = some 0 ∧ rampLengthOf 4096 = some 4096 := by decide +kernel

/-- Both ends of the range of settings. -/
theorem witness_GainCoefficients : (-1200 : Int) ≤ -1200 ∧ (-1200 : Int) ≤ 120 ∧ (-1200 : Int) ≤ 120 ∧ (120 : Int) ≤ 120 := by
  decide

theorem witness_MeterCodes : (60 : Nat) ≤ 60 ∧ meterCode 8389 = 60 ∧ meterCode 8388 = 61 := by decide +kernel

/-- The greatest coefficient, 0, and unity inverted, at both ends of the sample range. -/
theorem witness_RouteProducts :
    ({ unity with coeff := 4174456 } : GainRec).coeff ≤ 4174456 ∧ (-8388608 : Int) ≤ -8388608 ∧
    (8388607 : Int) ≤ 8388607 ∧ ({ unity with coeff := 0 } : GainRec).coeff = 0 ∧ unity.coeff = 1048576 ∧
    ({ playTo (.recCh 0) with invert := true } : Route).invert = true := by decide +kernel

/-- A ramp at its first step, at the step before its last, and the ramps of an ACTIVE route, a RELEASING route and a bus. -/
theorem witness_RampSteps :
    RampSound (fading 0).coeff ⟨1048576, 0, 256, 0⟩ ∧ RampSound (fading 255).coeff ⟨1048576, 0, 256, 255⟩ ∧
    0 + 1 < 256 ∧ 255 + 1 = 256 ∧ unity.ramp = none ∧
    (studio.rme.route 1).level.ramp = some ⟨1048576, 0, 256, 9⟩ ∧ (studio.rme.route 1).state = .releasing ∧
    (studio.rme.route 0).level.ramp = none ∧
    ((routed [{ playTo (.recCh 0) with level := fading 9 }] ready).rme.route 0).level.ramp = some ⟨1048576, 0, 256, 9⟩ ∧
    ((ready.rme.putBus 7 (fading 9)).bus 7).ramp = some ⟨1048576, 0, 256, 9⟩ := by decide +kernel

theorem witness_StudioFrame : Sound studio ∧ ¬ 1023 ≤ studio.rme.frameCount ∧ NothingLeft studio ∧
    studio.stu.capture.state = .running ∧ (studio.port 0).state = .running ∧ (studio.port 0).mode = .drive ∧
    (studio.port 1).state = .settling ∧ (studio.port 1).settle = 1 ∧ (studio.port 2).state ≠ .settling :=
  ⟨studio_sound, by decide +kernel, by decide +kernel, by decide +kernel, by decide +kernel, by decide +kernel,
    by decide +kernel, by decide +kernel, by decide +kernel⟩

/-- The studio before the last frame of a meter period, its slot 63 assigned, displayed and subscribed. -/
def metering : State := studio.withRme { studio.rme with
  frameCount := 1023
  slots := studio.rme.slots.set 63 { MeterSlot.powerOn with point := some (.bus 7), display := some (5, 15), subscribed := true } }

theorem metering_sound : Sound metering where
  records := studio_sound.records
  clock := studio_sound.clock
  presence := studio_sound.presence
  streams := studio_sound.streams
  ports := ⟨by decide +kernel, fun i hi => by interval_cases i <;> decide +kernel, by decide +kernel⟩
  routes := by refine ⟨?_, ?_, ?_, ?_, ?_, ?_⟩ <;> decide +kernel
  modules := studio_sound.modules
  search := studio_sound.search
  output := studio_sound.output
  bus := studio_sound.bus
  bindings := by refine ⟨?_, ?_, ?_, ?_, ?_, ?_, ?_⟩ <;> decide +kernel
  faders := studio_sound.faders

/-- The frame that ends the meter period, with places for the METER frame of the module at address 5. -/
theorem witness_StudioFrame_ends_period : Sound metering ∧ NothingLeft metering ∧ 1023 ≤ metering.rme.frameCount ∧
    (∀ x ∈ metering.rme.slots, ∀ b, x.point = some (.bus b) ∨ x.point = some (.busIn b) → b < 8) ∧
    metering.sou.meter.length + 1 ≤ 16 ∧ metering.sou.used + 2 * 1 ≤ 64 := by
  refine ⟨metering_sound, by decide +kernel, by decide +kernel, ?_, by decide +kernel, by decide +kernel⟩
  have h : ∀ x ∈ metering.rme.slots, x.point = none ∨ x.point = some (.bus 7) := by decide +kernel
  intro x hx b hb
  rcases h x hx with h | h <;> rw [h] at hb <;> simp at hb
  omega

theorem witness_MeterPeriods : NothingLeft metering ∧ metering.rme.frameCount ≠ 0 ∧ studio.rme.frameCount = 0 ∧
    NothingLeft studio ∧ OutputSound metering ∧ ModulesSound metering ∧
    (metering.rme.slot 63).point ≠ none ∧ (metering.rme.slot 0).point = none ∧ HasRoom 1 metering ∧
    ∃ x ∈ metering.rme.slots, x.point ≠ none ∧ x.subscribed = true :=
  ⟨by decide +kernel, by decide +kernel, by decide +kernel, by decide +kernel, metering_sound.output, metering_sound.modules,
    by decide +kernel, by decide +kernel, room _ (by decide +kernel) (by decide +kernel) (by decide +kernel), by decide +kernel⟩

theorem witness_MeterCommands :
    let taken := ready.withRme { ready.rme with slots := ready.rme.slots.set 62 { MeterSlot.powerOn with display := some (30, 15) } }
    ready.takes = true ∧ (63 : Byte).toNat < 64 ∧ ready.rme.slots.length = 64 ∧ pointOf ⟨5, 7⟩ = some (.busIn 7) ∧
    addressOf 30 = some 30 ∧ indexBelow 16 15 = some 15 ∧ (∀ m < 64, m ≠ 63 → (ready.rme.slot m).display ≠ some (30, 15)) ∧
    (taken.takes = true ∧ taken.rme.slots.length = 64 ∧ ∃ m < 64, m ≠ 63 ∧ (taken.rme.slot m).display = some (30, 15)) ∧
    63 < (64 : Byte).toNat ∧ 64 < (63 : Byte).toNat + (2 : Byte).toNat ∧ flagOf 1 = some true ∧ (63 : Byte).toNat ≤ 63 ∧
    1 ≤ (1 : Byte).toNat ∧ (63 : Byte).toNat + (1 : Byte).toNat ≤ 64 := by decide +kernel

/-! ## Reading the part -/

/-- A table of seventeen routes takes a second page. -/
theorem witness_StatusReads :
    let s := routed (List.replicate 17 (playTo (.recCh 0))) ready
    s.takes = true ∧ s.rme.routes.length = 128 ∧ 2 ≤ (2 : Byte).toNat ∧ 4 ≤ (4 : Byte).toNat ∧ (3 : Byte).toNat < 4 ∧
    128 ≤ (128 : Byte).toNat ∧ (127 : Byte).toNat < 128 ∧ 8 ≤ (8 : Byte).toNat ∧ (7 : Byte).toNat < 8 ∧
    ((List.range 128).filter (fun id => decide (0 ≤ id ∧ (s.rme.route id).state ≠ .free)))[15]? = some 15 ∧
    ((List.range 128).filter (fun id => decide (0 ≤ id ∧ (s.rme.route id).state ≠ .free)))[16]? = some 16 ∧
    ((List.range 128).filter (fun id => decide (1 ≤ id ∧ (s.rme.route id).state ≠ .free))).length ≤ 16 := by
  decide +kernel

/-! ## Surface bus -/

/-- The bus switched off. -/
def busOff : State := withBus (fun b => { b with bus := .off, enable := false }) ready

theorem witness_SurfaceSettings :
    ready.takes = true ∧ busOff.takes = true ∧ flagOf 2 = none ∧ flagOf 0 = some false ∧ flagOf 1 = some true ∧
    ready.sbc.bus ≠ .off ∧ busOff.sbc.bus = .off ∧ busOff.sbc.search.answer = none ∧ ready.sbc.search.step = none ∧
    HasRoom 1 ready ∧ HasRoom 1 busOff :=
  ⟨by decide +kernel, by decide +kernel, by decide +kernel, by decide +kernel, by decide +kernel, by decide +kernel,
    by decide +kernel, by decide +kernel, by decide +kernel, room _ (by decide +kernel) (by decide +kernel) (by decide +kernel),
    room _ (by decide +kernel) (by decide +kernel) (by decide +kernel)⟩

/-- The count at 0, at 250 and at 251, with the period of 2 ms. -/
theorem witness_RoundsAndSearches :
    let rounding := withBus (fun b => { b with roundList := [5] }) studio
    let searching := withBus (fun b => { b with search := Search.started, millis := 250 }) ready
    let manual := withBus (fun b => { b with auto := false }) ready
    let at_ := fun (n : Word32) => withBus (fun b => { b with millis := n }) studio
    let boundary := fun (s : State) => decide (s.sbc.millis.toNat % 2 ^ s.sbc.periodCode = 0)
    let due := fun (s : State) => decide (s.sbc.millis.toNat ≠ 0 ∧ s.sbc.millis.toNat % 250 = 0)
    busOff.sbc.bus ≠ .running ∧ rounding.phase = .running ∧ rounding.sbc.bus = .running ∧ rounding.sbc.roundList ≠ [] ∧
    boundary rounding = true ∧ boundary (at_ 250) = true ∧ boundary (at_ 251) = false ∧
    due (at_ 250) = true ∧ due (at_ 251) = false ∧ due (at_ 0) = false ∧
    (at_ 250).phase = .running ∧ (at_ 250).sbc.bus = .running ∧ (at_ 250).sbc.roundList = [] ∧
    (at_ 250).sbc.search.answer = none ∧ (at_ 250).sbc.auto = true ∧ (at_ 250).sbc.search.running = false ∧
    searching.sbc.search.running = true ∧ manual.sbc.auto = false ∧ studio.takes = true ∧ busOff.takes = true ∧
    busOff.sbc.bus = .off ∧ searching.takes = true ∧ searching.sbc.bus ≠ .off := by decide +kernel

theorem witness_RoundsAndSearches_sound : ModulesSound studio := studio_sound.modules

/-- A frame of the host waits at the head of a queue. -/
def hostFrame : QFrame := newFrame .host ⟨5, .write, [1, 2, 3]⟩ 3 true (some 9)

/-- The ready part with one frame in a queue. -/
def queued (q : QueueId) (f : QFrame) : State := ready.withSou (ready.sou.putQueue q [f])

theorem witness_SchedulerPicks :
    ready.sbc.txn = none ∧ ready.sbc.lineBreak = false ∧ ready.phase = .running ∧ ready.sbc.bus = .running ∧
    ready.sbc.startUp = false ∧ (withBus (fun b => { b with startUp := true }) ready).sbc.startUp = true ∧
    State.reset.phase ≠ .running ∧
    (withBus (fun b => { b with roundList := [1, 30] }) ready).sbc.roundList = 1 :: [30] ∧ ready.sbc.roundList = [] ∧
    (withBus (fun b => { b with search := Search.started }) ready).sbc.search.stack = ⟨0, 0⟩ :: [] ∧
    (withBus (fun b => { b with search := ⟨true, [], none, some ⟨1, .generic, 0, false, 0⟩, false⟩ }) ready).sbc.search.step =
      none ∧ ¬ (ready.sbc.search.running = true ∧ ready.sbc.search.step = none) := by decide +kernel

theorem witness_SchedulerPicks_heads :
    (∀ q, headOffered (queued q hostFrame) q hostFrame) ∧
    (∀ f, ¬ headOffered (queued .normal hostFrame) .urgent f) ∧
    (∀ f, ¬ headOffered (queued .meter hostFrame) .urgent f ∧ ¬ headOffered (queued .meter hostFrame) .normal f) := by
  refine ⟨fun q => ?_, fun f hf => ?_, fun f => ⟨fun hf => ?_, fun hf => ?_⟩⟩
  · cases q <;> exact ⟨[], rfl, rfl, rfl⟩
  all_goals
    obtain ⟨_, h, _⟩ := hf
    cases h

/-- The ready part with a transaction in flight. -/
def inFlight (f : BusFrame) (o : Owner) (p : TxnPhase) : State := withBus (fun b => { b with txn := some ⟨f, o, p⟩ }) ready

theorem witness_PowerOnAndReset_sending :
    (inFlight ⟨5, .poll, []⟩ .round .sending).takes = true ∧
    (inFlight ⟨5, .poll, []⟩ .round .sending).sbc.txn = some ⟨⟨5, .poll, []⟩, .round, .sending⟩ ∧
    ready.sbc.txn = none ∧ ready.txnPhase = none := by decide +kernel

/-- R129, R134, R151: a RESET in the second character of a frame leaves its stop bit on the line and releases it after, and the
end of the sending takes the frame from the state. -/
theorem test_reset_cuts_frame : ∃ t u, exec (.reset 7) (inFlight ⟨5, .poll, []⟩ .round .sending) = .next t ∧
    t.sbc.lineDriver 13 10 = some true ∧ t.sbc.lineDriver 13 19 = some false ∧ t.sbc.lineDriver 13 20 = none ∧
    exec .frameSendingEnd t = .next u ∧ u.sbc = Sbc.powerOn false :=
  ⟨_, _, rfl, rfl, rfl, rfl, rfl, by decide +kernel⟩

/-- Payloads of no byte and of 32, each phase, an unanswered broadcast and a REFUSE. -/
theorem witness_TransactionPhases :
    (0 : Byte).toNat ≤ 32 ∧ ([] : List Byte).length = (0 : Byte).toNat ∧ (32 : Byte).toNat ≤ 32 ∧
    (List.replicate 32 (0 : Byte)).length = (32 : Byte).toNat ∧
    (inFlight ⟨5, .poll, []⟩ .round .sending).sbc.txn = some ⟨⟨5, .poll, []⟩, .round, .sending⟩ ∧
    (⟨5, .poll, []⟩ : BusFrame).address ≠ 0 ∧ (⟨0, .release, []⟩ : BusFrame).address = 0 ∧
    (inFlight ⟨5, .poll, []⟩ .round .awaiting).sbc.breakFound = false ∧
    (withBus (fun b => { b with breakFound := true }) (inFlight ⟨5, .poll, []⟩ .round .awaiting)).sbc.breakFound = true ∧
    (inFlight ⟨5, .poll, []⟩ .round .receiving).sbc.txn = some ⟨⟨5, .poll, []⟩, .round, .receiving⟩ ∧
    replyResult ⟨5, .poll, []⟩ [5, 0x82, 0, crc8 [5, 0x82, 0]] = some (.reply .empty []) ∧
    replyResult ⟨5, .poll, []⟩ [6, 0x82, 0, crc8 [6, 0x82, 0]] = some .corrupt := by decide +kernel

/-- The studio polls its module. -/
def polling (st : ModuleState) (q : Nat) (p : TxnPhase) : State :=
  withBus (fun b => { b with txn := some ⟨⟨5, .poll, []⟩, .round, p⟩ }) (studio.withMtb ⟨[module5 st q], 0⟩)

/-- The counts at which an entry changes its state: 88 of ONLINE, 120 of SUSPECT, 64 of SILENT. -/
theorem witness_ModuleJudgement :
    ModulesSound (polling .online 88 .awaiting) ∧ ModulesSound (polling .suspect 120 .receiving) ∧
    ModulesSound (polling .silent 64 .receiving) ∧ (polling .online 88 .awaiting).mtb.entry 5 = some (module5 .online 88) ∧
    (module5 .online 88).state ≠ .joining ∧ (polling .online 88 .awaiting).sbc.breakFound = false ∧
    HasRoom 1 (polling .online 88 .awaiting) ∧ restated .online 96 ≠ .online ∧ restated .suspect 128 ≠ .suspect ∧
    restated .silent 63 ≠ .silent := by
  refine ⟨?_, ?_, ?_, ?_, ?_, ?_, room _ ?_ ?_ ?_, ?_, ?_, ?_⟩ <;> decide +kernel

/-- A REPORT of eight events, the reply to a queued frame, and events of the last control and beyond it, with values at their
bounds and past them. -/
theorem witness_ModuleJudgement_events :
    let sent := withBus (fun b => { b with txn := some ⟨⟨5, .write, [1]⟩, .output .normal, .receiving⟩ }) studio
    (32 : Byte).toNat ≤ 32 ∧ (32 : Byte).toNat % 4 = 0 ∧ (List.replicate 32 (0 : Byte)).length = (32 : Byte).toNat ∧
    sent.sbc.txn = some ⟨⟨5, .write, [1]⟩, .output .normal, .receiving⟩ ∧ ModulesSound sent ∧
    (∃ e, studio.mtb.entry 5 = some e ∧ e.state ≠ .joining ∧ (8 : Byte).toNat < e.controls) ∧
    (¬ ∃ e, studio.mtb.entry 5 = some e ∧ e.state ≠ .joining ∧ (9 : Byte).toNat < e.controls) ∧
    eventRead 0 0xFF 0x03 = some (.fader, 1023) ∧ eventRead 0 0x00 0x04 = none ∧ eventRead 3 0xC0 0xFF = some (.encoder, -64) ∧
    eventRead 3 0xBF 0xFF = none ∧ eventRead 5 0 0 = none :=
  ⟨by decide, by decide, by decide, rfl, by decide +kernel, ⟨_, rfl, by decide, by decide⟩, by
    rintro ⟨e, h, _, hc⟩
    cases h
    revert hc
    decide, by decide, by decide, by decide, by decide, by decide⟩

/-- The bus stuck, clearing at its first and third attempt, and in fault with and without an attempt. -/
theorem witness_StuckBus :
    let clearing := fun n => withBus (fun b => { b with bus := .clearing, attempt := n }) ready
    let failed := withBus (fun b => { b with bus := .fault, faultTimer := some 0 }) ready
    let again := withBus (fun b => { b with bus := .fault, faultAttempt := true }) ready
    ready.txnPhase = none ∧ (inFlight ⟨5, .poll, []⟩ .round .awaiting).txnPhase = some .awaiting ∧
    (withBus (fun b => { b with lineBreak := true, stuckTimer := true }) ready).sbc.stuckTimer = true ∧
    ready.sbc.stuckTimer = false ∧ ready.sbc.bus = .running ∧ (clearing 1).sbc.bus = .clearing ∧
    (clearing 1).sbc.attempt < 3 ∧ 3 ≤ (clearing 3).sbc.attempt ∧ (clearing 3).sbc.lineBreak = false ∧
    (clearing 3).sbc.search.answer = none ∧ failed.sbc.bus = .fault ∧ failed.sbc.faultAttempt = false ∧
    failed.sbc.faultTimer = some 0 ∧ again.sbc.bus = .fault ∧ again.sbc.faultAttempt = true := by decide +kernel

/-! ## Modules -/

/-- The ready part meets every law. -/
theorem ready_sound : Sound ready where
  records := by decide +kernel
  clock := studio_sound.clock
  presence := by decide +kernel
  streams := by decide +kernel
  ports := ⟨by decide +kernel, fun i hi => by interval_cases i <;> decide +kernel, by decide +kernel⟩
  routes := by refine ⟨?_, ?_, ?_, ?_, ?_, ?_⟩ <;> decide +kernel
  modules := by decide +kernel
  search := by decide +kernel
  output := studio_sound.output
  bus := by decide +kernel
  bindings := by refine ⟨?_, ?_, ?_, ?_, ?_, ?_, ?_⟩ <;> decide +kernel
  faders := by decide +kernel

/-- A CALL with a prefix is in flight above a stack. -/
def calling (p : Stem) (stack : List Stem) : State :=
  withBus (fun b => { b with
    txn := some ⟨⟨31, .call, BitVec.ofNat 8 p.length :: leBytes 6 p.value.toNat⟩, .search, .receiving⟩
    search := ⟨true, stack, some (.call p), none, false⟩ }) ready

theorem calling_sound : Sound (calling ⟨0, 0⟩ []) ∧ Sound (calling ⟨48, 0xA1B2⟩ [⟨1, 0⟩]) :=
  ⟨{ ready_sound with
      modules := by decide +kernel
      search := by decide +kernel
      output := ⟨List.forall_mem_cons.2 ⟨by decide +kernel, List.forall_mem_cons.2 ⟨by decide +kernel,
        List.forall_mem_cons.2 ⟨by decide +kernel, by simp⟩⟩⟩, ready_sound.output.2⟩
      bus := by decide +kernel },
   { ready_sound with
      modules := by decide +kernel
      search := by decide +kernel
      output := ⟨List.forall_mem_cons.2 ⟨by decide +kernel, List.forall_mem_cons.2 ⟨by decide +kernel,
        List.forall_mem_cons.2 ⟨by decide +kernel, by simp⟩⟩⟩, ready_sound.output.2⟩
      bus := by decide +kernel }⟩

/-- The prefixes of no bit and of 48, the last above a stack; answers that begin with the prefix and do not. -/
theorem witness_DiscoveryResults_calls :
    Sound (calling ⟨0, 0⟩ []) ∧ Sound (calling ⟨48, 0xA1B2⟩ [⟨1, 0⟩]) ∧
    (calling ⟨48, 0xA1B2⟩ [⟨1, 0⟩]).sbc.search.step = some (.call ⟨48, 0xA1B2⟩) ∧
    (calling ⟨48, 0xA1B2⟩ [⟨1, 0⟩]).sbc.search.answer = none ∧
    (answerOf [0xB2, 0xA1, 0, 0, 0, 0, 5, 64, 0, 16]).map (fun a => (a.serial, (⟨48, 0xA1B2⟩ : Stem).begins a.serial)) =
      some (0xA1B2, true) ∧
    (answerOf [0xB3, 0xA1, 0, 0, 0, 0, 5, 64, 0, 16]).map (fun a => (⟨48, 0xA1B2⟩ : Stem).begins a.serial) = some false :=
  ⟨calling_sound.1, calling_sound.2, by decide +kernel, by decide +kernel,
    by decide +kernel, by decide +kernel⟩

/-- The ready part with modules at the first addresses. -/
def tabled (n : Nat) : State := ready.withMtb ⟨(List.range n).map (fun k =>
  { module5 .online 0 with address := k + 1, serial := BitVec.ofNat 48 k }), 0⟩

/-- Tables of fifteen and of sixteen modules, and a serial that is in them and one that is not. -/
theorem witness_DiscoveryResults_joins :
    ModulesSound (tabled 15) ∧ ModulesSound (tabled 16) ∧ (tabled 15).mtb.entries.length < 16 ∧
    (tabled 16).mtb.entries.length = 16 ∧ (∃ e ∈ (tabled 16).mtb.entries, e.serial = 15) ∧
    (∀ e ∈ (tabled 16).mtb.entries, e.serial ≠ 16 ∧ e.state ≠ .silent) := by
  refine ⟨?_, ?_, ?_, ?_, ?_, ?_⟩ <;> decide +kernel

theorem witness_DiscoveryResults_sound : Sound (tabled 15) ∧ Sound (tabled 16) :=
  ⟨{ ready_sound with
      modules := witness_DiscoveryResults_joins.1
      bindings := by refine ⟨?_, ?_, ?_, ?_, ?_, ?_, ?_⟩ <;> decide +kernel },
   { ready_sound with
      modules := witness_DiscoveryResults_joins.2.1
      bindings := by refine ⟨?_, ?_, ?_, ?_, ?_, ?_, ?_⟩ <;> decide +kernel }⟩

/-- A table of sixteen modules, the first two SILENT and due at the same moment. -/
def silenced : State := ready.withMtb ⟨[⟨1, 0, .faderStrip, 9, true, 4, .silent, 200, 2000⟩,
  ⟨2, 1, .faderStrip, 9, true, 4, .silent, 200, 2000⟩] ++ (tabled 16).mtb.entries.drop 2, 0⟩

theorem silenced_sound : Sound silenced :=
  { ready_sound with
    modules := by refine ⟨?_, ?_, ?_, ?_, ?_, ?_, ?_, ?_⟩ <;> decide +kernel
    bindings := by refine ⟨?_, ?_, ?_, ?_, ?_, ?_, ?_⟩ <;> decide +kernel }

/-- The entry that goes, by its address, and an answer of a serial that is not in the table. -/
theorem witness_DiscoveryResults_eviction :
    let due := fun (x : Entry) => (x.expiry - silenced.sbc.millis).toInt
    let e : Entry := ⟨1, 0, .faderStrip, 9, true, 4, .silent, 200, 2000⟩
    Sound silenced ∧ e ∈ silenced.mtb.entries ∧ (∀ x ∈ silenced.mtb.entries, x.serial ≠ 16) ∧
    silenced.mtb.entries.length = 16 ∧ e.state = .silent ∧
    (∀ x ∈ silenced.mtb.entries, x.state = .silent → due e < due x ∨ due e = due x ∧ e.address ≤ x.address) ∧
    silenced.sou.urgent.length < 8 ∧ silenced.sou.used < 64 ∧ HasRoom 1 silenced :=
  ⟨silenced_sound, by decide +kernel, by decide +kernel, by decide +kernel, by decide +kernel, by decide +kernel,
    by decide +kernel, by decide +kernel, room _ (by decide +kernel) (by decide +kernel) (by decide +kernel)⟩

/-- The studio's module joins again: its ASSIGN is in flight, its entry in the table or gone, its binding orphaned. -/
def assigning (es : List Entry) : State :=
  withBus (fun b => { b with
    txn := some ⟨⟨31, .assign, leBytes 6 0xA1B2 ++ [5]⟩, .search, .receiving⟩
    search := ⟨true, [⟨1, 0⟩], some (.assign 5 0xA1B2 (some .silent)), none, false⟩ })
    ((studio.withMtb ⟨es, 0⟩).withBdt (⟨.orphaned, .lostModule, strip, some 0xA1B2, .routeGain 0, .absolute, 1, true⟩ ::
      List.replicate 31 Binding.emptyEntry))

theorem witness_DiscoveryResults_assign :
    Sound (assigning [module5 .joining 0]) ∧ Sound (assigning []) ∧
    (assigning []).sbc.search.step = some (.assign 5 0xA1B2 (some .silent)) ∧ (assigning []).sbc.search.answer = none ∧
    (assigning []).sbc.search.ending = false ∧ (assigning []).mtb.entry 5 = none ∧
    (assigning [module5 .joining 0]).mtb.entry 5 = some (module5 .joining 0) ∧ (module5 .joining 0).state = .joining ∧
    (module5 .joining 0).serial = 0xA1B2 ∧ HasRoom 1 (assigning [module5 .joining 0]) := by
  refine ⟨?_, ?_, by decide +kernel, by decide +kernel, by decide +kernel, by decide +kernel, by decide +kernel,
    by decide +kernel, by decide +kernel, room _ (by decide +kernel) (by decide +kernel) (by decide +kernel)⟩
  all_goals exact { studio_sound with
    modules := by refine ⟨?_, ?_, ?_, ?_, ?_, ?_, ?_, ?_⟩ <;> decide +kernel
    search := by refine ⟨?_, ?_, ?_, ?_, ?_, ?_, ?_, ?_, ?_⟩ <;> decide +kernel
    output := ⟨List.forall_mem_cons.2 ⟨by decide +kernel, List.forall_mem_cons.2 ⟨by decide +kernel,
      List.forall_mem_cons.2 ⟨by decide +kernel, by simp⟩⟩⟩, by decide +kernel, by decide +kernel, by decide +kernel⟩
    bus := by decide +kernel
    bindings := by refine ⟨?_, ?_, ?_, ?_, ?_, ?_, ?_⟩ <;> decide +kernel }

/-- A table with a module and an URGENT queue with no place left. -/
def crowded : State := (tabled 1).withSou { ready.sou with urgent := List.replicate 8 (releaseFrame 30) }

theorem witness_ForgetAndFilters :
    studio.sou.history.length ≤ 16 ∧ studio.takes = true ∧ ([5] : List Byte).length ≤ 30 ∧ (0 : Byte).toNat = 0 ∧ 30 < (31 : Byte).toNat ∧
    (∀ b ∈ ([5, 30] : List Byte), 1 ≤ b.toNat ∧ b.toNat ≤ 30) ∧
    ((studio.mtb.entries.map (fun e => e.address)).filter (fun a => ([5, 30] : List Byte).any (fun b => b.toNat == a))) = [5] ∧
    ([5] : List Nat).length ≤ 8 - studio.sou.urgent.length ∧ studio.sbc.search.answer = none ∧
    crowded.takes = true ∧ 8 - crowded.sou.urgent.length <
      ((crowded.mtb.entries.map (fun e => e.address)).filter (fun a => ([1] : List Byte).any (fun b => b.toNat == a))).length ∧
    16 ≤ (16 : Byte).toNat ∧ (16 : Byte).toNat ≠ 255 ∧ (255 : Byte).toNat = 255 ∧ (15 : Byte).toNat < 16 ∧
    flagOf 2 = none ∧ flagOf 1 = some true ∧ filterOriginOf 30 = some (some (.remote 30)) ∧ actionOf 2 = some .discard := by
  decide +kernel

theorem witness_ForgetAndFilters_sound : Sound studio ∧ Sound crowded :=
  ⟨studio_sound, { ready_sound with
    modules := by decide +kernel
    output := ⟨List.forall_mem_cons.2 ⟨by decide +kernel, List.forall_mem_cons.2 ⟨by decide +kernel,
      List.forall_mem_cons.2 ⟨by decide +kernel, by simp⟩⟩⟩, by decide +kernel, by decide +kernel, by decide +kernel⟩
    bindings := by refine ⟨?_, ?_, ?_, ?_, ?_, ?_, ?_⟩ <;> decide +kernel }⟩

theorem witness_RangeRefusals :
    ready.takes = true ∧ 32 ≤ (32 : Byte).toNat ∧ (0xFB4F : Half).toNat ≠ 0x8000 ∧ (0xFB4F : Half).toInt < -1200 ∧
    8 ≤ (8 : Byte).toNat ∧ 128 ≤ (128 : Byte).toNat ∧ 2 ≤ (2 : Byte).toNat ∧ 4 ≤ (4 : Byte).toNat ∧
    (17 : Byte).toNat ∉ [2, 4, 8, 16] ∧ 64 ≤ (64 : Byte).toNat ∧ 31 ≤ (31 : Byte).toNat ∧
    ([1, 2] : List Byte).length ≤ 32 ∧ (1 : Byte).toNat = 1 ∧ ([1, 2] : List Byte).length ≠ 3 ∧
    (3 : Byte).toNat % 2 = 1 := by decide +kernel

/-! ## Surface output -/

/-- A METER frame to address 1. -/
def meterTo1 : QFrame := newFrame .meter ⟨1, .meter, List.replicate 16 0⟩ 0 false none

/-- The queues set whole, beside one module at address 1. -/
def queues (u n m : List QFrame) : State := (tabled 1).withSou ⟨u, n, m, []⟩

/-- No module, a full URGENT queue, a pool with nothing to drop, a pool with room, a pool that a dropped METER frame makes
room in. -/
theorem witness_SurfaceSends :
    let used := fun (fs : List QFrame) => (fs.map (fun f => (f.frame.payload.length + 19) / 16)).sum
    let big := newFrame .host ⟨1, .write, List.replicate 1005 0⟩ 0 false (some 1)
    let placed := queues [] [] []
    let blocked := queues [big] [] []
    let dropping := queues [] [] (List.replicate 32 meterTo1)
    placed.takes = true ∧ NothingLeft placed ∧ (List.replicate 32 (0 : Byte)).length ≤ 32 ∧ sendKindOf 0 = some .write ∧
    priorityOf 1 = some .normal ∧ (3 : Byte).toNat ≤ 3 ∧ flagOf 1 = some true ∧
    sendDataOk .write (List.replicate 32 0) = true ∧ (placed.mtb.entry 1).isSome = true ∧ (placed.mtb.entry 30).isSome = false ∧
    ¬ (crowded.sou.queue .urgent).length < queueCapacity .urgent ∧ crowded.takes = true ∧ NothingLeft crowded ∧
    64 - used blocked.sou.urgent < (0 + 19) / 16 ∧ blocked.takes = true ∧ NothingLeft blocked ∧
    (32 + 19) / 16 ≤ 64 - used placed.sou.urgent ∧ dropping.takes = true ∧ NothingLeft dropping ∧
    64 - used dropping.sou.meter < (0 + 19) / 16 ∧ (0 + 19) / 16 ≤ 64 - used dropping.sou.meter +
      used (dropping.sou.meter.filter (fun f => !f.inFlight)) := by decide +kernel

/-- A FEEDBACK frame to control 8 of address 1. -/
def feedbackTo1 : QFrame := newFrame .feedback ⟨1, .setControl, [8, 0, 0]⟩ 1 false none

/-- METER and FEEDBACK frames that match a queued one; a full queue; blocks that no dropped frame gives, that are free, and
that a dropped METER frame gives. -/
theorem witness_SurfaceSends_handed :
    let merges := fun (f x : QFrame) => decide (x.frame.address = f.frame.address ∧
      (f.origin = .meter ∧ x.origin = .meter ∨
       f.origin = .feedback ∧ x.origin = .feedback ∧ x.frame.payload.head? = f.frame.payload.head?))
    let big := newFrame .host ⟨1, .write, List.replicate 1005 0⟩ 0 false (some 1)
    let spare := fun (fs : List QFrame) => ((fs.filter (fun x => !x.inFlight)).map
      (fun x => (x.frame.payload.length + 19) / 16)).sum
    let dropping := queues [] [] (List.replicate 32 meterTo1)
    (queues [] [] [meterTo1]).sou.queue .meter = [] ++ meterTo1 :: [] ∧ merges meterTo1 meterTo1 = true ∧
    merges feedbackTo1 feedbackTo1 = true ∧ merges feedbackTo1 meterTo1 = false ∧
    (∀ x ∈ crowded.sou.queue .urgent, merges (releaseFrame 1) x = false) ∧
    queueCapacity .urgent ≤ (crowded.sou.queue .urgent).length ∧
    64 - (queues [] [big] []).sou.used + spare (queues [] [big] []).sou.meter < (16 + 19) / 16 ∧
    (queues [] [] []).sou.queue .normal = [] ∧ (3 + 19) / 16 ≤ 64 - (queues [] [] []).sou.used ∧
    64 - dropping.sou.used < (3 + 19) / 16 ∧ (3 + 19) / 16 ≤ 64 - dropping.sou.used + spare dropping.sou.meter := by
  decide +kernel

theorem witness_FrameFates :
    (queued .normal hostFrame).sou.queue .normal = hostFrame :: [] ∧ hostFrame.mark = none ∧ hostFrame.renewed = false ∧
    { hostFrame with waits := 3 }.waits < 4 ∧ 4 ≤ { hostFrame with waits := 4 }.waits ∧ 0 < hostFrame.retries ∧
    { hostFrame with mark := some .aborted }.mark = some .aborted ∧
    { meterTo1 with renewed := true, inFlight := true }.renewed = true ∧ meterTo1.mark = none ∧ meterTo1.origin = .meter ∧
    meterTo1.retries = 0 ∧ (queued .normal hostFrame).takes = true ∧ NothingLeft (queued .normal hostFrame) ∧
    (queued .normal hostFrame).sou.history.length ≤ 16 ∧ 2 ≤ (2 : Byte).toNat ∧ (1 : Byte).toNat < 2 ∧
    16 < (17 : Byte).toNat ∧ 1 ≤ (16 : Byte).toNat ∧ (16 : Byte).toNat ≤ 16 := by decide +kernel

/-! ## Bindings -/

theorem witness_BindingCommands :
    studio.takes = true ∧ studio.bdt.length = 32 ∧ 32 ≤ (32 : Byte).toNat ∧ (studio.binding 31).state = .empty ∧
    (studio.binding 0).state ≠ .empty ∧ controlOf 0 8 = none ∧ controlOf 0 0 = some ⟨.bank, 0⟩ ∧
    controlOf 5 0 = some strip ∧ controlOf 6 63 = some ⟨.remote 6, 63⟩ ∧ targetOf 0 128 = none ∧
    targetOf 0 0 = some (.routeGain 0) ∧ targetOf 0 2 = some (.routeGain 2) ∧ targetOf 3 7 = some (.busMute 7) ∧
    bindModeOf 0 = some .absolute ∧ flagOf 1 = some true ∧ (studio.binding 0).control = strip ∧
    studio.mtb.entry 6 = none ∧ (studio.rme.route 2).state ≠ .active ∧ (studio.rme.route 0).state = .active ∧
    NothingLeft studio ∧ studio.fsv.channels.length = 8 ∧ (studio.fsv.channel 0).state ≠ .disabled ∧
    (studio.fsv.channel 0).touch = false := by decide +kernel

/-- The studio's binding in another mode, on a target of the same record. -/
def bound (m : BindMode) (x : Target) : State :=
  studio.withBdt (⟨.active, .none, strip, some 0xA1B2, x, m, 5, true⟩ :: List.replicate 31 Binding.emptyEntry)

theorem witness_EventsAtBindings :
    BindingsSound (bound .absolute (.routeGain 0)) ∧ BindingsSound (bound .relative (.routeGain 0)) ∧
    BindingsSound (bound .toggle (.routeMute 0)) := by
  refine ⟨?_, ?_, ?_⟩ <;> refine ⟨?_, ?_, ?_, ?_, ?_, ?_, ?_⟩ <;> decide +kernel

/-- Events of the bound control of each kind that matters, and of a control without a binding; filters that hear and that
do not. -/
theorem witness_EventsAtBindings_events :
    let e := fun (k : EventKind) (v : Int) => (⟨strip, k, v, 0⟩ : SurfaceEvent)
    let f : Filter := ⟨true, none, 0, 63, 1, .discard⟩
    let s := studio.withEvf ⟨[f], .notify⟩
    ((bound .toggle (.routeMute 0)).binding 0).control = (e .button 1).control ∧ (e .fader 1023).value = (1023 : Nat) ∧
    (∀ b ∈ studio.bdt, b.state = .active → b.control ≠ ⟨.bank, 7⟩) ∧ s.evf.filters = [] ++ f :: [] ∧
    f.low ≤ (e .fader 1023).control.number ∧ (e .fader 1023).control.number ≤ f.high ∧
    f.kinds.getLsbD (e .fader 1023).kind.code = true ∧ (∀ g ∈ studio.evf.filters, g.enable ≠ true) := by decide +kernel

/-! ## Faders -/

/-- The ready part with one fader channel. -/
def fading0 (f : Fader) : State := ready.withFsv ⟨f :: List.replicate 7 Fader.powerOn, true⟩

/-- FADER_CLEAR takes channel 0 out of FAULT. -/
theorem witness_FaderCommands_leaves_fault :
    ((fading0 { fader .fault 9 with fault := .openLoad }).fsv.channel 0).state = .fault ∧
    ∃ t, exec (.faderClear 7 0) (fading0 { fader .fault 9 with fault := .openLoad }) = .next t ∧
      (t.fsv.channel 0).state ≠ .fault := ⟨by decide +kernel, _, rfl, by decide +kernel⟩

theorem witness_FaderCommands :
    let s := fading0 (fader .idle 9)
    s.takes = true ∧ s.fsv.channels.length = 8 ∧ 8 ≤ (8 : Byte).toNat ∧ (7 : Byte).toNat < 8 ∧
    (s.fsv.channel 0).state ≠ .fault ∧ (s.fsv.channel 0).state ≠ .disabled ∧ (s.fsv.channel 0).touch = false ∧
    (s.fsv.channel 7).state = .disabled ∧ ((fading0 { fader .idle 9 with touch := true }).fsv.channel 0).touch = true ∧
    1023 < (1024 : Half).toNat ∧ flagOf 1 = some true ∧ flagOf 0 = some false ∧ restOf 1 = some .coast := by decide +kernel

/-- R193: a move by 9 after the deadband is stored as 20: the deadband of 4 is in force until a servo period. -/
theorem test_deadband_in_force :
    let stored := fun (f : Fader) => { f with deadband := 20 }
    ((stored (fader .idle 9)).aimed 18).1.state = .moving ∧
    ((stored (fader .idle 9)).settled.aimed 18).1.state = .idle := by decide +kernel

/-- Each sign of the duty of a MOVING channel, an untouched and a touched channel at rest, and a HELD one. -/
theorem witness_FaderServo_terminals :
    let moves := fun (d : Int) => { fader .moving 0 with duty := d }
    (moves 255).state = .moving ∧ 0 < (moves 255).duty ∧ (moves (-40)).duty < 0 ∧ (moves 0).duty = 0 ∧
    (fader .stalled 9).touch = false ∧ { fader .idle 9 with touch := true }.touch = true ∧ (fader .held 9).state = .held := by
  decide +kernel

/-- A channel MOVING at full distance, one at its last period before it stalls, and the supply input at each level. -/
theorem witness_FaderServo :
    let moving := fading0 { fader .moving 0 with target := 1023, motion := 799 }
    let low := ready.withFsv ⟨fader .held 9 :: List.replicate 7 Fader.powerOn, false⟩
    FadersSound moving.fsv ∧ NothingLeft moving ∧
    (Instr.servoPeriod (List.replicate 8 ⟨1023, false, 0⟩)).wellFormed = true ∧ (moving.fsv.channel 0).state = .moving ∧
    (moving.fsv.channel 7).state = .disabled ∧ (moving.fsv.channel 7).state ≠ .moving ∧ (∀ n < 8, (moving.fsv.channel n).touch = false) ∧
    moving.fsv.supplyGood = true ∧ FadersSound low.fsv ∧ low.fsv.supplyGood = false := by
  refine ⟨?_, ?_, ?_, ?_, ?_, ?_, ?_, ?_, ?_, ?_⟩ <;> decide +kernel

/-! ## One command, one status -/

/-- The status of the last reply after one command. -/
def statusOf (c : Instr) (s : State) : Option Status :=
  match exec c s with
  | .next t => t.msu.replies.getLast?.map (fun r => r.status)
  | _ => none

/-- R13: IDENTIFY answers part number 4820, revision 1. -/
theorem test_identify : (∃ t, exec (.identify 7) ready = .next t ∧ t.msu.replies =
    [⟨0x01, 7, .ok, some (.identity 4820 1 .powerOn 0 0 .clockGood .anyClip 0 false)⟩]) := ⟨_, rfl, by decide +kernel⟩

/-- R12: READY is cleared from a mask, and a flag of no notice kind refuses it. -/
theorem test_notice_mask : statusOf (.noticeMask 7 0x1FFF) ready = some .adjusted ∧
    statusOf (.noticeMask 7 0x2000) ready = some .outOfRange := by decide +kernel

/-- R40: the same source twice is IN_USE; R48, R49: a start on a link that is not CONFIGURED, 33 channels. -/
theorem test_clock_and_streams : statusOf (.clockSetSources 7 0 0 1 [1, 1]) ready = some .inUse ∧
    statusOf (.streamStart 7 0) ready = some .wrongState ∧ statusOf (.streamStart 7 0) linked = some .ok ∧
    statusOf (.streamConfig 7 0 33 64) ready = some .outOfRange := by decide +kernel

/-- R82: 16 slots do not fit at 192 kHz. -/
theorem test_port_start : statusOf (.portStart 7 3) (withPort (porting .drive .off)
    (ready.withCku { ready.cku with rate := .r192 })) = some .outOfRange := by decide +kernel

/-- R94: a bus feeds only later buses; R103: a held gain; R100: a FREE entry. -/
theorem test_routes : statusOf (.routeAdd 7 ⟨2, 3⟩ ⟨5, 3⟩ 0 0) ready = some .badOrder ∧
    statusOf (.routeAdd 7 ⟨2, 3⟩ ⟨5, 4⟩ 121 0) ready = some .adjusted ∧
    statusOf (.routeSetGain 7 0 0) studio = some .heldBySurface ∧ statusOf (.routeRemove 7 127) studio = some .notFound := by
  decide +kernel

/-- R106: a held bus refuses a gain and takes a mute; R128: slots 63 and 64. -/
theorem test_buses_and_meters : statusOf (.busSet 7 7 3 0 1) heldBus = some .heldBySurface ∧
    statusOf (.busSet 7 7 2 0 1) heldBus = some .ok ∧ statusOf (.meterRead 7 63 2 0) ready = some .outOfRange := by
  decide +kernel

/-- R162: no search while the bus is OFF; R176: no module at the address; R185: the same; R197: a DISABLED channel. -/
theorem test_surface : statusOf (.discover 7) busOff = some .wrongState ∧
    statusOf (.surfaceSend 7 6 0 1 0 0 []) studio = some .notFound ∧
    statusOf (.bindSet 7 1 6 0 2 0 0 1 0) studio = some .notFound ∧
    statusOf (.faderMove 7 7 512) studio = some .wrongState := by decide +kernel

/-- R143, 07's example of a cable pulled: the twelfth failure makes a module SUSPECT, the sixteenth SILENT. -/
theorem test_module_quality : restated .online (12 * 8) = .suspect ∧ restated .suspect (16 * 8) = .silent ∧
    ModuleState.reevaluated .online 95 = .online := by decide +kernel

end Sys2Proof.Tests
end

section
/-! PROOFS. The draws of the playback stream (03, section 3.4): how the arrival list accounts for a drawn frame (R56), what
a draw answers in each case (R57, R58), and the obligation on draws assembled from these. -/

namespace Sys2Proof.Machine

variable {p : Playback} {counter : Stamp}

/-! ## The arrival list's part -/

/-- R56: an unlisted frame is drawn unmeasured. -/
theorem Playback.account_of_unlisted (hu : 0 < p.unlisted) :
    p.account counter = { p with unlisted := p.unlisted - 1 } := by
  simp [Playback.account, hu]

/-- R56: the first frame of the oldest entry is measured, and the entry's other frames become unlisted. -/
theorem Playback.account_of_entry {a : Arrival} {others : List Arrival} (hu : p.unlisted = 0)
    (ha : p.arrivals = a :: others) :
    p.account counter = { p with
      arrivals := others
      unlisted := a.count - 1
      lastResidence := min 4294967295 (counter - a.stamp).toNat
      maxResidence := max p.maxResidence (min 4294967295 (counter - a.stamp).toNat) } := by
  simp [Playback.account, hu, ha]

/-- R56: with nothing unlisted and no entry there is nothing to account for. -/
theorem Playback.account_of_nothing (hu : p.unlisted = 0) (ha : p.arrivals = []) : p.account counter = p := by
  simp [Playback.account, hu, ha]

/-- What the accounting changes lies in the arrival list and the residences. -/
theorem Playback.account_frame (p : Playback) (counter : Stamp) :
    ∃ arrivals unlisted last longest, p.account counter = { p with
      arrivals := arrivals, unlisted := unlisted, lastResidence := last, maxResidence := longest } := by
  rcases Nat.eq_zero_or_pos p.unlisted with hu | hu
  · cases ha : p.arrivals with
    | nil => exact ⟨_, _, _, _, account_of_nothing hu ha⟩
    | cons a others => exact ⟨_, _, _, _, account_of_entry hu ha⟩
  · exact ⟨_, _, _, _, account_of_unlisted hu⟩

@[simp] theorem Playback.account_state (p : Playback) (counter : Stamp) : (p.account counter).state = p.state := by
  obtain ⟨_, _, _, _, h⟩ := p.account_frame counter
  rw [h]

@[simp] theorem Playback.account_underruns (p : Playback) (counter : Stamp) :
    (p.account counter).underruns = p.underruns := by
  obtain ⟨_, _, _, _, h⟩ := p.account_frame counter
  rw [h]

/-! ## The draw -/

/-- The record after an underrun that the last frame bridges (R58). -/
def Playback.bridged (p : Playback) : Playback :=
  { p with underruns := saturate16 (p.underruns + 1), repeatRun := p.repeatRun + 1 }

/-- The record after the underrun that ends the stream's run (R58). -/
def Playback.starved (p : Playback) : Playback := { p.bridged with state := .priming, repeatRun := 0 }

/-- R57: a buffer with frames gives its oldest. -/
theorem Playback.draw_of_frame {f : Frame} {rest : List Frame} (hs : p.state = .running) (hb : p.buffer = f :: rest) :
    p.draw counter = ({ p.account counter with buffer := rest, lastFrame := f, repeatRun := 0 }, some f, []) := by
  simp [Playback.draw, hs, hb]

/-- R58: before the sixteenth repeat the stream stays RUNNING. -/
theorem Playback.draw_of_bridged (hs : p.state = .running) (hb : p.buffer = []) (hr : p.repeatRun < 15) :
    p.draw counter = (p.bridged, some p.lastFrame, [p.bridged.slipNotice counter]) := by
  have short : ¬ 16 ≤ p.repeatRun + 1 := by omega
  simp [Playback.draw, Playback.bridged, hs, hb, short]

/-- R58: at the sixteenth repeat the stream starves in the same event. -/
theorem Playback.draw_of_starved (hs : p.state = .running) (hb : p.buffer = []) (hr : ¬ p.repeatRun < 15) :
    p.draw counter = (p.starved, some p.lastFrame,
      [p.starved.slipNotice counter, p.starved.stateNotice .running .starved]) := by
  have sixteenth : 16 ≤ p.repeatRun + 1 := by omega
  simp [Playback.draw, Playback.starved, Playback.bridged, hs, hb, sixteenth]

end Sys2Proof.Machine

open Sys2Proof.Machine in
/-- Settles O30, by the buffer that the draw finds: with a frame, by how the arrival list accounts for it; empty, by whether
this is the sixteenth repeat. -/
theorem playbackDraws : Obligations.PlaybackDraws := by
  intro p counter hs
  refine ⟨fun f rest hb => ?frame, fun hb => ?underrun⟩
  case frame =>
    refine ⟨_, Playback.draw_of_frame hs hb, rfl, rfl, rfl, ?_, p.account_underruns counter, fun hu => ?_,
      fun hu a others ha => ?_⟩
    · exact (p.account_state counter).trans hs
    · simp [Playback.account_of_unlisted hu]
    · simp [Playback.account_of_entry hu ha]
  case underrun =>
    by_cases hr : p.repeatRun < 15
    · refine ⟨p.bridged, ?_, ?_⟩
      · rw [Playback.draw_of_bridged hs hb hr, if_pos hr]
        rfl
      · simp [Playback.bridged, saturate16, hr, hs]
    · refine ⟨p.starved, ?_, ?_⟩
      · rw [Playback.draw_of_starved hs hb hr, if_neg hr]
        rfl
      · simp [Playback.starved, Playback.bridged, saturate16, hr]

end

section
/-! PROOFS. Meter codes (06, R122): the search for half a root ends on the nearest integer, so the thresholds are those of
R122; the search of a code ends on the first threshold that the peak reaches; the obligation on codes assembled from these. -/

namespace Sys2Proof.Machine

/-! ## The search for half a root -/

/-- The invariant of the search: its accumulator is not above half the root by more than one half, and a step of the current
size leads above it. At the end the step is 1. -/
theorem halfRoot_bracket {n num den : Nat} (bits acc : Nat) (low : (2 * acc - 1) ^ n * den ≤ num)
    (high : num < (2 * (acc + 2 ^ bits) - 1) ^ n * den) :
    (2 * halfRoot n num den bits acc - 1) ^ n * den ≤ num ∧
      num < (2 * halfRoot n num den bits acc + 1) ^ n * den := by
  induction bits generalizing acc with
  | zero => exact ⟨low, high⟩
  | succ bits ih =>
    simp only [halfRoot]
    split
    case isTrue reached =>
      have doubled : acc + 2 ^ bits + 2 ^ bits = acc + 2 ^ (bits + 1) := by ring
      exact ih _ reached (by rwa [doubled])
    case isFalse missed => exact ih _ low (not_le.mp missed)

/-- Where the search starts at 0 and its bits reach beyond half the root, it ends on an integer nearest to half the root. -/
theorem halfRoot_nearest {n num den bits : Nat} {v : ℝ} (hn : n ≠ 0) (hden : 0 < den) (hv : 0 ≤ v)
    (root : (2 * v) ^ n * den = num) (high : num < (2 * 2 ^ bits - 1) ^ n * den) :
    |(halfRoot n num den bits 0 : ℝ) - v| ≤ 1 / 2 := by
  obtain ⟨low, high⟩ := halfRoot_bracket (n := n) (num := num) (den := den) bits 0 (by simp [hn]) (by simpa using high)
  generalize halfRoot n num den bits 0 = r at low high ⊢
  have hden : (0 : ℝ) < den := by exact_mod_cast hden
  have le_root : ((2 * r - 1 : Nat) : ℝ) ≤ 2 * v := by
    have : ((2 * r - 1 : Nat) : ℝ) ^ n * den ≤ (2 * v) ^ n * den := by rw [root]; exact_mod_cast low
    exact le_of_pow_le_pow_left₀ hn (by positivity) (le_of_mul_le_mul_right this hden)
  have root_lt : 2 * v < 2 * r + 1 := by
    have : (2 * v) ^ n * den < (2 * r + 1) ^ n * den := by rw [root]; exact_mod_cast high
    exact lt_of_pow_lt_pow_left₀ n (by positivity) (lt_of_mul_lt_mul_right this hden.le)
  have cut : (2 * r : ℝ) ≤ (2 * r - 1 : Nat) + 1 := by exact_mod_cast (by omega : 2 * r ≤ 2 * r - 1 + 1)
  rw [abs_le]
  constructor <;> linarith

/-- R122: the 20-th power of twice the exact threshold, as the search is given it. -/
theorem exactThreshold_pow (a : Nat) :
    (2 * (8388607 * (10 : ℝ) ^ (-(a : ℝ) / 20))) ^ 20 * ((10 ^ a : Nat) : ℝ) = ((16777214 ^ 20 : Nat) : ℝ) := by
  have power : ((10 : ℝ) ^ (-(a : ℝ) / 20)) ^ 20 = ((10 : ℝ) ^ a)⁻¹ := by
    rw [← Real.rpow_mul_natCast (by norm_num), ← Real.rpow_natCast, ← Real.rpow_neg (by norm_num)]
    norm_num
  rw [← mul_assoc, mul_pow, power, Nat.cast_pow, Nat.cast_ofNat, inv_mul_cancel_right₀ (by positivity)]
  norm_num

/-- R122: T(a) is the nearest integer to its exact value, for every `a`. -/
theorem meterThreshold_nearest (a : Nat) :
    |(meterThreshold a : ℝ) - 8388607 * (10 : ℝ) ^ (-(a : ℝ) / 20)| ≤ 1 / 2 :=
  halfRoot_nearest (by norm_num) (by positivity) (by positivity) (exactThreshold_pow a)
    (lt_mul_of_lt_of_one_le (by norm_num) (Nat.one_le_pow _ _ (by norm_num)))

/-! ## The search of a code -/

/-- The search from `a` through `n` codes ends on the first whose threshold the peak reaches, or on `a + n`. -/
theorem meterCodeFrom_first (peak n a : Nat) :
    meterCodeFrom peak n a ≤ a + n ∧ (∀ b, a ≤ b → b < meterCodeFrom peak n a → peak < meterThreshold b) ∧
      (meterCodeFrom peak n a < a + n → meterThreshold (meterCodeFrom peak n a) ≤ peak) := by
  induction n generalizing a with
  | zero => exact ⟨le_rfl, fun b hab hb => absurd hb hab.not_gt, fun h => absurd h (lt_irrefl a)⟩
  | succ n ih =>
    simp only [meterCodeFrom]
    split
    case isTrue reached => exact ⟨by omega, by omega, fun _ => reached⟩
    case isFalse missed =>
      obtain ⟨bound, below, at_code⟩ := ih (a + 1)
      refine ⟨by omega, fun b hab hb => ?_, fun h => at_code (by omega)⟩
      rcases hab.eq_or_lt with rfl | hab
      · exact not_le.mp missed
      · exact below b hab hb

end Sys2Proof.Machine

open Sys2Proof.Machine in
/-- Settles O39, by the nearest integer that the search of a threshold ends on, and the first threshold that the search of a
code ends on. -/
theorem meterCodes : Obligations.MeterCodes := by
  refine ⟨fun a _ => meterThreshold_nearest a, fun peak => ?_⟩
  obtain ⟨bound, below, at_code⟩ := meterCodeFrom_first peak 61 0
  exact ⟨bound, fun a ha _ => below a a.zero_le ha, fun h => at_code (Nat.lt_succ_of_le h)⟩

end

section
/-! PROOFS. Route products (06, R115, R116): the rounding by 2^20 as a floor and its bounds, the signed coefficient of a
route, the sum into a destination route by route; the obligation on products assembled from these. -/

namespace Sys2Proof.Machine

/-! ## Rounding by 2^20 -/

/-- R115: the rounding is the floor of the quotient. -/
theorem scaled_eq_floor (v : Int) : scaled v = ⌊((v + 2 ^ 19 : Int) : ℚ) / 2 ^ 20⌋ := by
  rw [show (2 : ℚ) ^ 20 = ((2 ^ 20 : Nat) : ℚ) by norm_num, Rat.floor_intCast_div_natCast]
  rfl

/-- A whole multiple of 2^20 is divided without rounding. -/
theorem scaled_mul_unity (m : Int) : scaled (m * 1048576) = m := by
  unfold scaled
  omega

theorem scaled_mono {v w : Int} (h : v ≤ w) : scaled v ≤ scaled w := by
  unfold scaled
  omega

/-- A value within a whole multiple of 2^20 is rounded to within that multiple. -/
theorem scaled_abs_le {v m : Int} (h : |v| ≤ m * 1048576) : -m ≤ scaled v ∧ scaled v ≤ m := by
  obtain ⟨low, high⟩ := abs_le.mp h
  constructor
  · simpa only [← neg_mul, scaled_mul_unity] using scaled_mono low
  · simpa only [scaled_mul_unity] using scaled_mono high

/-! ## One route's contribution -/

/-- Invert leaves the magnitude of a route's coefficient. -/
theorem Route.abs_signedCoeff (r : Route) :
    |if r.invert then -(r.level.coeff : Int) else (r.level.coeff : Int)| = r.level.coeff := by
  split <;> simp

/-- R115: with K_cur at its greatest and a sample at its least, the product is 33,395,648 × 2^20 in magnitude. -/
theorem Route.contribution_bounds {r : Route} {x : Int} (hc : r.level.coeff ≤ 4174456) (low : -8388608 ≤ x)
    (high : x ≤ 8388607) : -33395648 ≤ r.contribution x ∧ r.contribution x ≤ 33395648 := by
  refine scaled_abs_le ?_
  rw [abs_mul, r.abs_signedCoeff]
  calc |x| * (r.level.coeff : Int)
      ≤ 8388608 * 4174456 := mul_le_mul (abs_le.mpr ⟨low, by omega⟩) (by omega) (by omega) (by norm_num)
    _ = 33395648 * 1048576 := by norm_num

/-- R115: a route at K_cur 0 is silent. -/
theorem Route.contribution_of_coeff_zero {r : Route} (h : r.level.coeff = 0) (x : Int) : r.contribution x = 0 := by
  simpa [Route.contribution, h] using scaled_mul_unity 0

/-- R115: an inverted route at unity gives the exact negative. -/
theorem Route.contribution_of_inverted_unity {r : Route} (h : r.level.coeff = 1048576) (inverted : r.invert = true)
    (x : Int) : r.contribution x = -x := by
  simpa [Route.contribution, h, inverted] using scaled_mul_unity (-x)

/-! ## The sum into a destination -/

theorem sumInto_eq_sum (routes : List Route) (i : Inputs) (outs : List Int) (dest : Point) :
    sumInto routes i outs dest = ((routes.filter (fun r => r.state != .free && r.dest == dest)).map
      (fun r => r.contribution (i.value outs r.source))).sum := by
  rw [sumInto, List.sum_eq_foldl, List.foldl_map]

/-- R116, R117: the first route adds its contribution where it is non-FREE and leads into the destination. -/
theorem sumInto_cons (r : Route) (routes : List Route) (i : Inputs) (outs : List Int) (dest : Point) :
    sumInto (r :: routes) i outs dest = sumInto routes i outs dest +
      if r.state ≠ .free ∧ r.dest = dest then r.contribution (i.value outs r.source) else 0 := by
  simp only [sumInto_eq_sum, List.filter_cons]
  by_cases h : r.state ≠ .free ∧ r.dest = dest
  · simp [h, add_comm]
  · rw [if_neg h, if_neg (by simpa using h), add_zero]

end Sys2Proof.Machine

open Sys2Proof.Machine in
/-- Settles O40, by the floor that the rounding is, its bounds and exact multiples, and the sum route by route. -/
theorem routeProducts : Obligations.RouteProducts := by
  intro r x
  exact ⟨scaled_eq_floor _, Route.contribution_bounds, fun h => Route.contribution_of_coeff_zero h x,
    fun h inverted => Route.contribution_of_inverted_unity h inverted x, sumInto_cons r⟩

end

section
/-! PROOFS. What an act on the state reaches: `Reaches` frames an act by the parts that it may change, and says that it keeps the
law of the records; one lemma for each operation that the rows share. -/

namespace Sys2Proof.Machine

open Sys2Proof.Safety

/-! ## The records' law under one notice (R10, R11) -/

/-- R11: of notices of one kind, those that match a third match each other. -/
theorem NoticeBody.coalesces_trans {a b c : NoticeBody} (hab : a.coalesces b = true) (hbc : b.coalesces c = true) :
    a.coalesces c = true := by
  unfold NoticeBody.coalesces at *
  split at hab <;> split at hbc <;> simp_all

/-- A notice that takes the place of the first queued one it matches leaves no two matching. -/
theorem pairwise_replaceFirst (b : NoticeBody) {ns : List Notice}
    (h : ns.Pairwise (fun earlier later => later.body.coalesces earlier.body = false)) :
    (replaceFirst (fun q => b.coalesces q.body) (fun q => { q with body := b }) ns).Pairwise
      (fun earlier later => later.body.coalesces earlier.body = false) := by
  have member : ∀ (xs : List Notice) (q : Notice),
      q ∈ replaceFirst (fun q => b.coalesces q.body) (fun q => { q with body := b }) xs → q.body = b ∨ q ∈ xs := by
    intro xs
    induction xs with
    | nil => simp [replaceFirst]
    | cons x rest ih =>
      intro q hq
      by_cases hx : b.coalesces x.body = true
      · simp only [replaceFirst, hx, if_true, List.mem_cons] at hq
        rcases hq with rfl | hq
        · exact .inl rfl
        · exact .inr (by simp [hq])
      · simp only [replaceFirst, hx, Bool.false_eq_true, if_false, List.mem_cons] at hq
        rcases hq with rfl | hq
        · exact .inr (by simp)
        · exact (ih q hq).imp id (by simp +contextual)
  induction ns with
  | nil => exact .nil
  | cons x rest ih =>
    obtain ⟨hx, hrest⟩ := List.pairwise_cons.mp h
    by_cases hm : b.coalesces x.body = true
    · simp only [replaceFirst, hm, if_true]
      refine List.pairwise_cons.mpr ⟨fun q hq => ?_, hrest⟩
      have apart := hx q hq
      by_contra hc
      simp [NoticeBody.coalesces_trans (by simpa using hc) hm] at apart
    · simp only [replaceFirst, hm, Bool.false_eq_true, if_false]
      refine List.pairwise_cons.mpr ⟨fun q hq => ?_, ih hrest⟩
      rcases member rest q hq with hq | hq
      · simpa [hq] using hm
      · exact hx q hq

/-- R10: an arriving notice keeps the law of the records. -/
theorem recordsSound_enqueue {m : Msu} (b : NoticeBody) (h : RecordsSound m) : RecordsSound (m.enqueue b) := by
  obtain ⟨commands, replies, notices, apart, ready⟩ := h
  obtain ⟨-, he⟩ | ⟨-, -, he⟩ | ⟨-, -, -, he⟩ | ⟨-, fresh, room, he⟩ := enqueue_cases m b <;> rw [he]
  · exact ⟨commands, replies, notices, apart, ready⟩
  · exact ⟨commands, replies, by simpa using notices, pairwise_replaceFirst b apart, ready⟩
  · exact ⟨commands, replies, notices, apart, ready⟩
  · refine ⟨commands, replies, by simpa using room, ?_, ready⟩
    exact List.pairwise_append.mpr ⟨apart, by simp, by simpa using fresh⟩

/-! ## Reach -/

/-- An act reaches the parts listed alone, and keeps the law of the records. -/
structure Reaches (parts : List Part) (s t : State) : Prop where
  frame : KeepsBut parts s t
  records : RecordsSound s.msu → RecordsSound t.msu

variable {ps qs rs : List Part} {s t u : State}

theorem Reaches.refl (s : State) : Reaches ps s s := ⟨fun p _ => by cases p <;> simp [Part.same], id⟩

theorem Reaches.to (h : Reaches ps s t) (sub : ps ⊆ qs := by decide) : Reaches qs s t :=
  ⟨fun p hp => h.frame p (fun hq => hp (sub hq)), h.records⟩

theorem Part.same_trans {p : Part} (h : p.same s t) (h' : p.same t u) : p.same s u := by
  cases p <;> simp_all [Part.same]

theorem Reaches.andThen (h : Reaches ps s t) (h' : Reaches qs t u) (sub : ps ++ qs ⊆ rs := by decide) : Reaches rs s u :=
  ⟨fun p hp => Part.same_trans (h.frame p fun hq => hp (sub (by simp [hq]))) (h'.frame p fun hq => hp (sub (by simp [hq]))),
    h'.records ∘ h.records⟩

/-- Acts one after another over a list reach what each of them reaches. -/
theorem Reaches.foldl {f : State → α → State} (xs : List α) (s : State) (h : ∀ s, ∀ x ∈ xs, Reaches ps s (f s x)) :
    Reaches ps s (xs.foldl f s) := by
  induction xs generalizing s with
  | nil => exact .refl s
  | cons x rest ih => exact (h s x (by simp)).andThen (ih _ fun s y hy => h s y (by simp [hy])) (by simp)

theorem Reaches.ite {c : Prop} [Decidable c] (h : c → Reaches ps s t) (h' : ¬ c → Reaches ps s u) :
    Reaches ps s (if c then t else u) := by
  split
  · exact h ‹_›
  · exact h' ‹_›

/-! ## Updates of one block -/

theorem reaches_withPhase (s : State) (x : Phase) : Reaches [.phase] s (s.withPhase x) :=
  ⟨fun p hp => by cases p <;> simp_all [Part.same], id⟩
theorem reaches_withCku (s : State) (x : Cku) : Reaches [.cku] s (s.withCku x) :=
  ⟨fun p hp => by cases p <;> simp_all [Part.same], id⟩
theorem reaches_withStu (s : State) (x : Stu) : Reaches [.stu] s (s.withStu x) :=
  ⟨fun p hp => by cases p <;> simp_all [Part.same], id⟩
theorem reaches_withPtu (s : State) (x : List Port) : Reaches [.ptu] s (s.withPtu x) :=
  ⟨fun p hp => by cases p <;> simp_all [Part.same], id⟩
theorem reaches_withRme (s : State) (x : Rme) : Reaches [.rme] s (s.withRme x) :=
  ⟨fun p hp => by cases p <;> simp_all [Part.same], id⟩
theorem reaches_withSbc (s : State) (x : Sbc) : Reaches [.sbc] s (s.withSbc x) :=
  ⟨fun p hp => by cases p <;> simp_all [Part.same], id⟩
theorem reaches_withMtb (s : State) (x : Mtb) : Reaches [.mtb] s (s.withMtb x) :=
  ⟨fun p hp => by cases p <;> simp_all [Part.same], id⟩
theorem reaches_withEvf (s : State) (x : Evf) : Reaches [.evf] s (s.withEvf x) :=
  ⟨fun p hp => by cases p <;> simp_all [Part.same], id⟩
theorem reaches_withSou (s : State) (x : Sou) : Reaches [.sou] s (s.withSou x) :=
  ⟨fun p hp => by cases p <;> simp_all [Part.same], id⟩
theorem reaches_withBdt (s : State) (x : List Binding) : Reaches [.bdt] s (s.withBdt x) :=
  ⟨fun p hp => by cases p <;> simp_all [Part.same], id⟩
theorem reaches_withFsv (s : State) (x : Fsv) : Reaches [.fsv] s (s.withFsv x) :=
  ⟨fun p hp => by cases p <;> simp_all [Part.same], id⟩
theorem reaches_withFresh (s : State) (x : Nat) : Reaches [.fresh] s (s.withFresh x) :=
  ⟨fun p hp => by cases p <;> simp_all [Part.same], id⟩

theorem reaches_withPorts (ps : List Port) (s : State) : Reaches [.ptu, .rme] s (withPorts ps s) :=
  (reaches_withPtu s ps).andThen (reaches_withRme _ _)

/-! ## Notices -/

theorem reaches_notify (b : NoticeBody) (s : State) : Reaches [.records] s (notify b s) := by
  unfold notify
  refine .ite (fun _ => .refl s) fun _ => ⟨fun p hp => ?_, recordsSound_enqueue b⟩
  have rest := enqueue_rest s.msu b
  cases p <;> first | (exact absurd (by decide) hp) | rfl | (simp only [Part.same, State.withMsu_msu]; rw [rest])
  exact ⟨rfl, rfl, rfl, rfl⟩

theorem reaches_notifyAll (bs : List NoticeBody) (s : State) : Reaches [.records] s (notifyAll bs s) := by
  induction bs generalizing s with
  | nil => exact .refl s
  | cons b rest ih => exact (reaches_notify b s).andThen (ih _)

theorem reaches_notifyMerged (a b c d : List NoticeBody) (s : State) :
    Reaches [.records, .fresh] s (notifyMerged a b c d s) :=
  (reaches_notifyAll _ s).andThen (reaches_withFresh _ _)

/-! ## Surface Output (09) -/

theorem reaches_endFrame (f : QFrame) (r : FrameResult) (s : State) : Reaches [.records, .sou] s (endFrame f r s) := by
  unfold endFrame
  refine .ite (fun _ => ?_) fun _ => .refl s
  exact .ite (fun _ => (reaches_withSou s _).andThen (reaches_notify _ _)) fun _ => (reaches_withSou s _).to

theorem reaches_endFrames (r : FrameResult) (fs : List QFrame) (s : State) :
    Reaches [.records, .sou] s (endFrames r fs s) := by
  induction fs generalizing s with
  | nil => exact .refl s
  | cons f rest ih => exact (reaches_endFrame f r s).andThen (ih _)

theorem reaches_handFrame (q : QueueId) (f : QFrame) (s : State) : Reaches [.records, .sou] s (handFrame q f s) := by
  unfold handFrame
  refine .ite (fun _ => (reaches_withSou s _).to) fun _ => ?_
  split
  · exact (reaches_withSou s _).andThen (reaches_endFrames ..)
  · exact .refl s
  · exact .refl s

theorem reaches_frameOutcome (q : QueueId) (r : TxnResult) (s : State) :
    Reaches [.records, .sou] s (frameOutcome q r s) := by
  unfold frameOutcome
  split
  · exact .refl s
  · split
    · exact (reaches_withSou s _).andThen (reaches_endFrame ..)
    · exact (reaches_withSou s _).to

theorem reaches_purge (a : Nat) (s : State) : Reaches [.records, .sou] s (purge a s) :=
  (reaches_withSou s _).andThen (reaches_endFrames ..)

theorem reaches_abortFrames (named : QFrame → Bool) (s : State) : Reaches [.records, .sou] s (abortFrames named s).1 :=
  (reaches_withSou s _).andThen (reaches_endFrames ..)

/-! ## Faders and feedback (10) -/

theorem reaches_changeFader (i : Nat) (op : Fader → Fader × Option FaderReason) (s : State) :
    Reaches [.records, .fsv] s (changeFader i op s) := by
  simp only [changeFader]
  split
  · exact (reaches_withFsv s _).andThen (reaches_notify _ _)
  · exact (reaches_withFsv s _).to

theorem reaches_changeAllFaders (op : Fader → Fader × Option FaderReason) (s : State) :
    Reaches [.records, .fsv] s (changeAllFaders op s) :=
  .foldl _ s fun s i _ => reaches_changeFader i op s

theorem reaches_aimFader (i t : Nat) (s : State) : Reaches [.records, .fsv] s (aimFader i t s) :=
  .ite (fun _ => reaches_changeFader ..) fun _ => .refl s

theorem reaches_sendFeedback (b : Binding) (s : State) : Reaches [.records, .sou, .fsv] s (sendFeedback b s) := by
  simp only [sendFeedback]
  split
  · exact (reaches_aimFader ..).to
  · exact .ite (fun _ => .refl s) fun _ => (reaches_handFrame ..).to

theorem reaches_feedbackAll (x : LevelRef) (g m : Bool) (cause : Option Nat) (s : State) :
    Reaches [.records, .sou, .fsv] s (feedbackAll x g m cause s) :=
  .foldl _ s fun s ⟨_, b⟩ _ => .ite (fun _ => reaches_sendFeedback b s) fun _ => .refl s

theorem reaches_setTarget (x : LevelRef) (g : Option Gain) (m : Option Bool) (cause : Option Nat) (s : State) :
    Reaches [.records, .rme, .sou, .fsv] s (setTarget x g m cause s) :=
  (reaches_withRme s _).andThen (reaches_feedbackAll ..)

/-! ## Holders and bindings (10) -/

theorem reaches_setHolder (x : LevelRef) (h : Option Control) (s : State) : Reaches [.rme] s (setHolder x h s) :=
  reaches_withRme s _

theorem reaches_releaseHold (b : Binding) (s : State) : Reaches [.rme] s (releaseHold b s) :=
  .ite (fun _ => reaches_setHolder ..) fun _ => .refl s

theorem reaches_releaseHolders (test : Control → Bool) (s : State) : Reaches [.rme] s (releaseHolders test s) :=
  reaches_withRme s _

theorem reaches_orphanRoute (id : Nat) (s : State) : Reaches [.bdt] s (orphanRoute id s) := reaches_withBdt s _

theorem reaches_orphanModule (a : Nat) (s : State) : Reaches [.rme, .bdt] s (orphanModule a s) :=
  (Reaches.foldl (ps := [.rme]) _ s fun s b _ => .ite (fun _ => reaches_releaseHold b s) fun _ => .refl s).andThen
    (reaches_withBdt _ _)

theorem reaches_reattach (a : Nat) (x : Serial) (s : State) : Reaches [.records, .sou, .bdt, .fsv] s (reattach a x s) :=
  (reaches_withBdt s _).andThen (Reaches.foldl (ps := [.records, .sou, .fsv]) _ _ fun s b _ =>
    .ite (fun _ => reaches_sendFeedback b s) fun _ => .refl s)

/-! ## Surface events (08, 10) -/

theorem reaches_boundEvent (i : Nat) (b : Binding) (e : SurfaceEvent) (s : State) :
    Reaches [.records, .rme, .sou, .fsv] s (boundEvent i b e s) := by
  have hold (h : Option Control) : Reaches [.records, .rme, .sou, .fsv] s (setHolder b.target.ref h s) :=
    (reaches_setHolder ..).to
  have target (g : Option Gain) (m : Option Bool) :
      Reaches [.records, .rme, .sou, .fsv] s (setTarget b.target.ref g m (some i) s) := reaches_setTarget ..
  unfold boundEvent
  split
  · simp only [absoluteEvent]
    split
    · exact .ite (fun _ => .ite (fun _ => hold _) fun _ => .refl s) fun _ => .ite (fun _ => hold _) fun _ => .refl s
    · exact .ite (fun _ => target ..) fun _ => .refl s
    · exact .ite (fun _ => target ..) fun _ => .refl s
    · exact .refl s
  · exact .ite (fun _ => target ..) fun _ => .refl s
  · exact .ite (fun _ => target ..) fun _ => .refl s

theorem reaches_bindingEvent (e : SurfaceEvent) (s : State) :
    Reaches [.records, .rme, .sou, .fsv] s (bindingEvent e s) := by
  unfold bindingEvent
  split
  · exact .ite (fun _ => reaches_boundEvent ..) fun _ => .refl s
  · exact .refl s

theorem reaches_filterEvent (e : SurfaceEvent) (s : State) : Reaches [.records] s (filterEvent e s) :=
  .ite (fun _ => .refl s) fun _ => reaches_notify _ s

theorem reaches_deliverEvent (e : SurfaceEvent) (s : State) :
    Reaches [.records, .rme, .sou, .fsv] s (deliverEvent e s) :=
  (reaches_bindingEvent e s).andThen (reaches_filterEvent e _)

theorem reaches_discardEvent (s : State) : Reaches [.mtb] s (discardEvent s) := reaches_withMtb s _

theorem reaches_takeEvent (a : Nat) (stamp : Word32) (c k l h : Byte) (s : State) :
    Reaches [.records, .rme, .mtb, .sou, .fsv] s (takeEvent a stamp c k l h s) := by
  unfold takeEvent
  split
  · refine .ite (fun _ => (reaches_discardEvent s).to) fun _ => ?_
    split
    · exact (reaches_deliverEvent ..).to
    · exact (reaches_discardEvent s).to
  · exact (reaches_discardEvent s).to

theorem reaches_takeEvents (a : Nat) (stamp : Word32) (bytes : List Byte) (s : State) :
    Reaches [.records, .rme, .mtb, .sou, .fsv] s (takeEvents a stamp bytes s) := by
  induction bytes, s using takeEvents.induct a stamp with
  | case1 c k l h rest s ih =>
    rw [takeEvents]
    exact (reaches_takeEvent ..).andThen ih
  | case2 => rw [takeEvents]; exacts [.refl _, ‹_›]

/-! ## Modules and the search (08) -/

theorem reaches_putEntry (e : Entry) (s : State) : Reaches [.mtb] s (putEntry e s) := reaches_withMtb s _

theorem reaches_refreshExpiries (s : State) : Reaches [.mtb] s (refreshExpiries s) := reaches_withMtb s _

/-- The first three steps of a removal: the entry leaves the table, its notice goes out, and its address leaves the round list
(R153). -/
def unlist (a : Nat) (e : Entry) (d : ModuleDetail) (s : State) : State :=
  let t := notify (e.stateNotice (some e.state) none .lost d)
    (s.withMtb { s.mtb with entries := s.mtb.entries.filter (fun x => x.address != a) })
  t.withSbc { t.sbc with roundList := t.sbc.roundList.filter (fun b => b != a) }

/-- R153: a module that is not there is not removed. -/
theorem removeModule_of_none {a : Nat} (d : ModuleDetail) (h : s.mtb.entry a = none) : removeModule a d s = s := by
  simp [removeModule, h]

/-- R153: the removal of an entry, with its RELEASE unless it never confirmed. -/
theorem removeModule_of_some {a : Nat} {e : Entry} (d : ModuleDetail) (h : s.mtb.entry a = some e) :
    removeModule a d s = if d = .noConfirm then orphanModule a (purge a (unlist a e d s))
      else handFrame .urgent (releaseFrame a) (orphanModule a (purge a (unlist a e d s))) := by
  simp only [removeModule, h]
  rfl

theorem reaches_unlist (a : Nat) (e : Entry) (d : ModuleDetail) (s : State) :
    Reaches [.records, .sbc, .mtb] s (unlist a e d s) :=
  ((reaches_withMtb s _).andThen (reaches_notify _ _) (rs := [.records, .mtb])).andThen (reaches_withSbc _ _)

theorem reaches_removeModule (a : Nat) (d : ModuleDetail) (s : State) :
    Reaches [.records, .rme, .sbc, .mtb, .sou, .bdt] s (removeModule a d s) := by
  cases h : s.mtb.entry a with
  | none =>
    rw [removeModule_of_none d h]
    exact .refl s
  | some e =>
    have gone := ((reaches_unlist a e d s).andThen (reaches_purge a _) (rs := [.records, .sbc, .mtb, .sou])).andThen
      (reaches_orphanModule a _) (rs := [.records, .rme, .sbc, .mtb, .sou, .bdt])
    rw [removeModule_of_some d h]
    exact .ite (fun _ => gone) fun _ => gone.andThen (reaches_handFrame ..)

theorem reaches_removeModules (d : ModuleDetail) (as : List Nat) (s : State) :
    Reaches [.records, .rme, .sbc, .mtb, .sou, .bdt] s (removeModules d as s) := by
  induction as generalizing s with
  | nil => exact .refl s
  | cons a rest ih => exact (reaches_removeModule a d s).andThen (ih _)

theorem reaches_judgeModule (a : Nat) (r : TxnResult) (s : State) : Reaches [.records, .mtb] s (judgeModule a r s) := by
  simp only [judgeModule]
  split
  · exact .refl s
  · exact .ite (fun _ => .refl s) fun _ => .ite (fun _ => (reaches_putEntry _ s).to) fun _ =>
      (reaches_putEntry _ s).andThen (reaches_notify _ _)

theorem reaches_setSearch (x : Search) (s : State) : Reaches [.sbc] s (setSearch x s) := reaches_withSbc s _

theorem reaches_collide (p : Stem) (s : State) : Reaches [.records, .sbc] s (collide p s) :=
  .ite (fun _ => (reaches_setSearch _ s).to) fun _ => (reaches_setSearch _ s).andThen (reaches_notify _ _)

theorem reaches_callResult (p : Stem) (r : TxnResult) (s : State) : Reaches [.records, .sbc] s (callResult p r s) := by
  unfold callResult
  split
  · exact (reaches_setSearch _ s).to
  · split
    · exact .ite (fun _ => (reaches_setSearch _ s).to) fun _ => reaches_collide p s
    · exact reaches_collide p s
  · exact reaches_collide p s

theorem reaches_rejoin (a : Answer) (e : Entry) (s : State) : Reaches [.rme, .sbc, .mtb] s (rejoin a e s).1 :=
  ((reaches_putEntry _ s).andThen (.ite (fun _ => .refl _) fun _ => reaches_releaseHolders _ _) (rs := [.rme, .mtb])).andThen
    (reaches_setSearch _ _)

theorem reaches_refuseModule (a : Answer) (s : State) : Reaches [.records, .sbc] s (refuseModule a s).1 :=
  (reaches_setSearch _ s).andThen (reaches_notify _ _)

theorem reaches_joinNew (a : Answer) (s : State) : Reaches [.records, .sbc, .mtb, .fresh] s (joinNew a s).1 := by
  unfold joinNew
  split
  · exact (reaches_refuseModule a s).to
  · exact ((reaches_putEntry _ s).andThen (reaches_withFresh _ _) (rs := [.mtb, .fresh])).andThen (reaches_setSearch _ _)

/-- What the scheduler's picks can reach. -/
abbrev pickParts : List Part := [.records, .rme, .sbc, .mtb, .sou, .bdt, .fresh]

theorem reaches_assignStep (a : Answer) (s : State) : Reaches pickParts s (assignStep a s).1 := by
  unfold assignStep
  split
  · exact (reaches_rejoin ..).to
  · split
    · exact (reaches_joinNew a s).to
    · split
      · exact (reaches_removeModule ..).andThen (reaches_joinNew a _)
      · exact (reaches_refuseModule a s).to

/-- What the events of a transaction can reach. -/
abbrev surfaceParts : List Part := [.records, .rme, .sbc, .mtb, .sou, .bdt, .fsv, .fresh]

theorem reaches_confirmModule (e : Entry) (from_ : Option ModuleState) (s : State) :
    Reaches surfaceParts s (confirmModule e from_ s) :=
  ((reaches_putEntry _ s).andThen (reaches_notify _ _) (rs := [.records, .mtb])).andThen (reaches_reattach ..)

theorem reaches_assignResult (a : Nat) (x : Serial) (from_ : Option ModuleState) (r : TxnResult) (s : State) :
    Reaches surfaceParts s (assignResult a x from_ r s) := by
  simp only [assignResult]
  split
  · exact (reaches_setSearch _ s).to
  · split
    · exact (reaches_setSearch _ s).andThen (reaches_confirmModule ..)
    · exact (reaches_setSearch _ s).andThen (reaches_removeModule ..)

theorem reaches_stepResult (r : TxnResult) (s : State) : Reaches surfaceParts s (stepResult r s) := by
  unfold stepResult
  split
  · exact (reaches_callResult ..).to
  · exact reaches_assignResult ..
  · exact (reaches_setSearch _ s).to
  · exact .refl s

/-! ## The scheduler and transactions (07) -/

theorem reaches_startTxn (f : BusFrame) (o : Owner) (s : State) : Reaches [.sbc] s (startTxn f o s) := reaches_withSbc s _

theorem reaches_takeOffer (o : Offer) (s : State) : Reaches pickParts s (takeOffer o s) := by
  cases o with
  | startUp => exact (reaches_withSbc s _).andThen (reaches_startTxn ..)
  | queued q f => exact (reaches_withSou s _).andThen (reaches_startTxn ..)
  | poll a => exact (reaches_withSbc s _).andThen (reaches_startTxn ..)
  | assignStep a => exact (reaches_assignStep a s).andThen (reaches_startTxn ..)
  | callStep p => exact (reaches_setSearch _ s).andThen (reaches_startTxn ..)

theorem reaches_schedule (s : State) : Reaches pickParts s (schedule s) := by
  obtain ⟨-, h⟩ | ⟨-, -, h⟩ | ⟨o, -, -, h⟩ := schedule_cases s <;> rw [h]
  · exact .refl s
  · exact .refl s
  · exact reaches_takeOffer o s

theorem reaches_endTxn (x : Txn) (r : TxnResult) (s : State) : Reaches surfaceParts s (endTxn x r s) := by
  have judged (t : State) : Reaches surfaceParts t (if x.judges then judgeModule x.frame.address r t else t) :=
    .ite (fun _ => (reaches_judgeModule ..).to) fun _ => .refl t
  have events (t : State) : Reaches surfaceParts t (reportEvents x.frame.address r t) := by
    unfold reportEvents
    split
    · exact (reaches_takeEvents ..).to
    · exact .refl t
  have owner (t : State) : Reaches surfaceParts t (toOwner x.owner r t) := by
    unfold toOwner
    split
    · exact .refl t
    · exact .refl t
    · exact reaches_stepResult r t
    · exact (reaches_frameOutcome ..).to
  exact (((reaches_withSbc s _).andThen (judged _) (rs := surfaceParts)).andThen (events _) (rs := surfaceParts)).andThen
    (owner _)

theorem reaches_endTxnIn (phases : List TxnPhase) (r : TxnResult) (s : State) :
    Reaches surfaceParts s (endTxnIn phases r s) := by
  unfold endTxnIn
  split
  · exact .ite (fun _ => reaches_endTxn ..) fun _ => .refl s
  · exact .refl s

theorem reaches_setBus (st : BusState) (reason : BusReason) (s : State) : Reaches [.records, .sbc] s (setBus st reason s) :=
  (reaches_withSbc s _).andThen (reaches_notify _ _)

theorem reaches_busCleared (s : State) : Reaches pickParts s (busCleared s) :=
  (((reaches_withSbc s _).andThen (reaches_refreshExpiries _) (rs := [.sbc, .mtb])).andThen (reaches_setBus ..)
    (rs := [.records, .sbc, .mtb])).andThen (reaches_schedule _)

theorem reaches_handMeterFrames (s : State) : Reaches [.records, .sou] s (handMeterFrames s) :=
  .foldl _ s fun s _ _ => reaches_handFrame _ _ s

/-! ## Ports and clock events (02, 04) -/

theorem reaches_changePort (i : Nat) (op : Port → Port × Option PortReason) (s : State) :
    Reaches [.records, .ptu, .rme] s (changePort i op s) := by
  simp only [changePort]
  split
  · exact (reaches_withPorts _ s).andThen (reaches_notify _ _)
  · exact (reaches_withPorts _ s).to

/-- What a clock event can reach. -/
abbrev clockReach : List Part := [.records, .cku, .stu, .ptu, .rme, .fresh]

theorem reaches_clockChange (after : Cku) (reason : Option ClockReason) (stu ptu : List NoticeBody) (s : State) :
    Reaches clockReach s (clockChange after reason stu ptu s) :=
  (((reaches_withCku s _).andThen (reaches_withStu _ _) (rs := [.cku, .stu])).andThen (reaches_withPorts _ _)
    (rs := [.cku, .stu, .ptu, .rme])).andThen (reaches_notifyMerged ..)

theorem reaches_clockEvent (r : Cku × Option ClockReason) (s : State) : Reaches clockReach s (clockEvent r s) :=
  .ite (fun _ => .refl s) fun _ => reaches_clockChange ..

theorem reaches_changeRate (r : Rate) (s : State) : Reaches clockReach s (changeRate r s) :=
  ((((reaches_withCku s _).andThen (reaches_withStu _ _) (rs := [.cku, .stu])).andThen (reaches_withRme _ _)
    (rs := [.cku, .stu, .rme])).andThen (reaches_withPorts _ _)
    (rs := [.cku, .stu, .ptu, .rme])).andThen (reaches_notifyMerged ..)

theorem reaches_losePresence (x : ClockSource) (was : Bool) (stu ptu : List NoticeBody) (s : State) :
    Reaches clockReach s (losePresence x was stu ptu s) :=
  .ite (fun _ => reaches_clockChange ..) fun _ => (reaches_notifyAll _ s).to

theorem reaches_countEdges (x : ClockSource) (n : Nat) (s : State) : Reaches [.cku] s (countEdges x n s) :=
  .ite (fun _ => reaches_withCku s _) fun _ => .refl s

/-! ## The link (01) -/

theorem reaches_setLink (l : LinkState) (s : State) : Reaches [.link] s (setLink l s) :=
  ⟨fun p hp => by cases p <;> simp_all [Part.same, setLink], id⟩

theorem reaches_answerLink (a : LinkAnswer) (s : State) : Reaches [.answer] s (answerLink a s) :=
  ⟨fun p hp => by cases p <;> simp_all [Part.same, answerLink], id⟩

theorem reaches_withReference (x : LinkReference) (s : State) :
    Reaches [.reference] s (s.withLif { s.lif with reference := x }) :=
  ⟨fun p hp => by cases p <;> simp_all [Part.same], id⟩

theorem reaches_withTransmit (x : Option Record) (s : State) :
    Reaches [.transmit] s (s.withLif { s.lif with transmit := x }) :=
  ⟨fun p hp => by cases p <;> simp_all [Part.same], id⟩

theorem reaches_transmit (r : Record) (s : State) : Reaches [.transmit, .answer] s (transmit r s) :=
  ⟨fun p hp => by cases p <;> simp_all [Part.same, transmit], id⟩

/-- What the emptying of the records reaches (R17). -/
abbrev recordParts : List Part := [.transmit, .commands, .replies, .records]

theorem reaches_emptyRecords (s : State) : Reaches recordParts s (emptyRecords s) :=
  ⟨fun p hp => by cases p <;> simp_all [Part.same, emptyRecords], fun ⟨_, _, _, _, ready⟩ => ⟨Nat.zero_le _, Nat.zero_le _, Nat.zero_le _, .nil, ready⟩⟩

theorem reaches_linkReset (l : LinkState) (s : State) :
    Reaches ([.link] ++ recordParts ++ clockReach) s (linkReset l s) := by
  have start := (reaches_setLink l s).andThen (reaches_withStu _ (s.stu.linkReset s.cku.counter)) (rs := [.link, .stu])
  exact .ite
    (fun _ => (start.andThen (reaches_emptyRecords _) (rs := [.link, .stu] ++ recordParts)).andThen (reaches_losePresence ..))
    fun _ => (start.andThen (reaches_losePresence ..) (rs := [.link] ++ clockReach)).andThen (reaches_emptyRecords _)

theorem reaches_leaveLink (l : LinkState) (s : State) :
    Reaches ([.link] ++ recordParts ++ clockReach) s (leaveLink l s) := by
  unfold leaveLink
  split
  · exact reaches_linkReset l s
  · exact reaches_linkReset l s
  all_goals exact (reaches_setLink l s).to

theorem reaches_suspendLink (b : Bool) (s : State) : Reaches (.link :: clockReach) s (suspendLink b s) :=
  ((reaches_setLink _ s).andThen (reaches_withStu _ _) (rs := [.link, .stu])).andThen (reaches_losePresence ..)

end Sys2Proof.Machine
end

section
/-! PROOFS. The rows: what each command hands over to its block (`handlerOf`), that TAKE_COMMAND hands over nothing else, what each
row reaches (`reachOf`), and the principle by which a law is kept by every step. -/

namespace Sys2Proof.Machine

open Sys2Proof.Safety

/-! ## What a command hands over -/

/-- What the owning block makes of a command row; none for an event row. -/
def handlerOf : Instr → Option (State → Handled)
  | .identify _ => some handleIdentify
  | .reset _ => some handleReset
  | .noticeMask _ mask => some (handleNoticeMask mask)
  | .lampSet _ a b => some (handleLampSet a b)
  | .clockSetRate _ rate => some (handleClockSetRate rate)
  | .clockSetSources _ mode fixed revert list => some fun s =>
    if 1 ≤ list.length ∧ list.length ≤ 7 then handleClockSetSources mode fixed revert list s else refuse s .badLength
  | .clockStatus _ => some handleClockStatus
  | .streamConfig _ selector channels depth => some (handleStreamConfig selector channels depth)
  | .streamStart _ selector => some (handleStreamStart selector)
  | .streamStop _ selector => some (handleStreamStop selector)
  | .streamStatus _ selector => some (handleStreamStatus selector)
  | .portConfig _ port mode slots => some (handlePortConfig port mode slots)
  | .portStart _ port => some (handlePortStart port)
  | .portStop _ port => some (handlePortStop port)
  | .portMute _ port mute => some (handlePortMute port mute)
  | .portStatus _ port => some (handlePortStatus port)
  | .routeAdd _ source destination gain flags => some (handleRouteAdd source destination gain flags)
  | .routeRemove _ id => some (handleRouteRemove id)
  | .routeSetGain _ id gain => some (handleRouteSetGain id gain)
  | .routeSetMute _ id mute => some (handleRouteSetMute id mute)
  | .routeList _ start => some (handleRouteList start)
  | .busSet _ bus flags gain mute => some (handleBusSet bus flags gain mute)
  | .rampSet _ length => some (handleRampSet length)
  | .meterAssign _ slot flags point address position => some (handleMeterAssign slot flags point address position)
  | .meterRead _ first count clear => some (handleMeterRead first count clear)
  | .meterSubscribe _ set holdTime => some (handleMeterSubscribe set holdTime)
  | .surfaceSetup _ enable period lifetime auto => some (handleSurfaceSetup enable period lifetime auto)
  | .surfaceStatus _ clear => some (handleSurfaceStatus clear)
  | .discover _ => some handleDiscover
  | .moduleList _ => some handleModuleList
  | .moduleForget _ addresses => some fun s =>
    if 1 ≤ addresses.length ∧ addresses.length ≤ 30 then handleModuleForget addresses s else refuse s .badLength
  | .filterSet _ number enable origin low high kinds action =>
    some (handleFilterSet number enable origin low high kinds action)
  | .filterList _ => some handleFilterList
  | .surfaceSend tag address kind priority retries notify data => some fun s =>
    if data.length ≤ 32 then handleSurfaceSend tag address kind priority retries notify data s else refuse s .badLength
  | .surfaceAbort _ selector named => some (handleSurfaceAbort selector named)
  | .surfaceHistory _ count => some (handleSurfaceHistory count)
  | .bindSet _ index origin control targetKind targetIndex mode step feedback =>
    some (handleBindSet index origin control targetKind targetIndex mode step feedback)
  | .bindClear _ index => some (handleBindClear index)
  | .bindList _ => some handleBindList
  | .faderConfig _ channel enable kp deadband minDuty maxDuty rest limit =>
    some (handleFaderConfig channel enable kp deadband minDuty maxDuty rest limit)
  | .faderMove _ channel position => some (handleFaderMove channel position)
  | .faderClear _ channel => some (handleFaderClear channel)
  | .faderStatus _ channel => some (handleFaderStatus channel)
  | _ => none

/-- A row that has a kind and a tag is the taking of its record (R6); an event row hands over nothing. -/
theorem exec_command (c : Instr) :
    match commandOf c, handlerOf c with
    | some (kind, tag), some h => exec c = takeRow kind tag h
    | none, none => True
    | _, _ => False := by
  cases c <;> trivial

theorem exec_of_handlerOf {c : Instr} {h : State → Handled} (hc : handlerOf c = some h) :
    ∃ kind tag, commandOf c = some (kind, tag) ∧ exec c = takeRow kind tag h := by
  have row := exec_command c
  rw [hc] at row
  split at row
  · rename_i kind tag h' hk hh
    exact ⟨kind, tag, hk, Option.some.inj hh ▸ row⟩
  · simp_all
  · exact row.elim

theorem handlerOf_of_commandOf {c : Instr} {kind tag : Byte} (hc : commandOf c = some (kind, tag)) :
    ∃ h, handlerOf c = some h ∧ exec c = takeRow kind tag h := by
  have row := exec_command c
  rw [hc] at row
  split at row
  · rename_i k t h hk hh
    obtain ⟨rfl, rfl⟩ : kind = k ∧ tag = t := by simpa using hk
    exact ⟨h, hh, row⟩
  · simp_all
  · exact row.elim

/-- R7: what a checked record hands over is what a well-formed command row hands over. -/
theorem dispatch_row {kind : Byte} (tag : Byte) {payload : List Byte} (s : State) {least most : Nat}
    (hk : payloadSizes kind = some (least, most)) (low : least ≤ payload.length) (high : payload.length ≤ most) :
    ∃ c h, handlerOf c = some h ∧ c.wellFormed = true ∧ dispatch kind tag payload s = h s := by
  have row (c : Instr) {h : State → Handled} (hc : handlerOf c = some h) (wf : c.wellFormed = true) :
      ∃ c h', handlerOf c = some h' ∧ c.wellFormed = true ∧ h s = h' s := ⟨c, h, hc, wf, rfl⟩
  unfold payloadSizes at hk
  split at hk
  all_goals
    rename_i code
    try obtain ⟨rfl, rfl⟩ : _ = least ∧ _ = most := by simpa only [Option.some.injEq, Prod.mk.injEq] using hk
  rotate_right
  · exact nomatch hk
  all_goals rw [show kind = BitVec.ofNat 8 kind.toNat by simp, code]
  · exact match payload, le_antisymm high low with
    | [], _ => row (.identify tag) rfl rfl
  · exact match payload, le_antisymm high low with
    | [], _ => row (.reset tag) rfl rfl
  · exact match payload, le_antisymm high low with
    | [], _ => row (.clockStatus tag) rfl rfl
  · exact match payload, le_antisymm high low with
    | [], _ => row (.discover tag) rfl rfl
  · exact match payload, le_antisymm high low with
    | [], _ => row (.moduleList tag) rfl rfl
  · exact match payload, le_antisymm high low with
    | [], _ => row (.filterList tag) rfl rfl
  · exact match payload, le_antisymm high low with
    | [], _ => row (.bindList tag) rfl rfl
  · exact match payload, le_antisymm high low with
    | [a], _ => row (.clockSetRate tag a) rfl rfl
  · exact match payload, le_antisymm high low with
    | [a], _ => row (.streamStart tag a) rfl rfl
  · exact match payload, le_antisymm high low with
    | [a], _ => row (.streamStop tag a) rfl rfl
  · exact match payload, le_antisymm high low with
    | [a], _ => row (.streamStatus tag a) rfl rfl
  · exact match payload, le_antisymm high low with
    | [a], _ => row (.portStart tag a) rfl rfl
  · exact match payload, le_antisymm high low with
    | [a], _ => row (.portStop tag a) rfl rfl
  · exact match payload, le_antisymm high low with
    | [a], _ => row (.portStatus tag a) rfl rfl
  · exact match payload, le_antisymm high low with
    | [a], _ => row (.routeRemove tag a) rfl rfl
  · exact match payload, le_antisymm high low with
    | [a], _ => row (.routeList tag a) rfl rfl
  · exact match payload, le_antisymm high low with
    | [a], _ => row (.surfaceStatus tag a) rfl rfl
  · exact match payload, le_antisymm high low with
    | [a], _ => row (.surfaceHistory tag a) rfl rfl
  · exact match payload, le_antisymm high low with
    | [a], _ => row (.bindClear tag a) rfl rfl
  · exact match payload, le_antisymm high low with
    | [a], _ => row (.faderClear tag a) rfl rfl
  · exact match payload, le_antisymm high low with
    | [a], _ => row (.faderStatus tag a) rfl rfl
  · exact match payload, le_antisymm high low with
    | [a, b], _ => row (.noticeMask tag (half a b)) rfl rfl
  · exact match payload, le_antisymm high low with
    | [a, b], _ => row (.lampSet tag a b) rfl rfl
  · exact match payload, le_antisymm high low with
    | [a, b], _ => row (.portMute tag a b) rfl rfl
  · exact match payload, le_antisymm high low with
    | [a, b], _ => row (.routeSetMute tag a b) rfl rfl
  · exact match payload, le_antisymm high low with
    | [a, b], _ => row (.rampSet tag (half a b)) rfl rfl
  · exact match payload, le_antisymm high low with
    | [a, b], _ => row (.surfaceAbort tag a b) rfl rfl
  · exact match payload, le_antisymm high low with
    | [a, b, c], _ => row (.portConfig tag a b c) rfl rfl
  · exact match payload, le_antisymm high low with
    | [a, b, c], _ => row (.routeSetGain tag a (half b c)) rfl rfl
  · exact match payload, le_antisymm high low with
    | [a, b, c], _ => row (.meterRead tag a b c) rfl rfl
  · exact match payload, le_antisymm high low with
    | [a, b, c], _ => row (.faderMove tag a (half b c)) rfl rfl
  · exact match payload, le_antisymm high low with
    | [a, b, c, d], _ => row (.streamConfig tag a b (half c d)) rfl rfl
  · exact match payload, le_antisymm high low with
    | [a, b, c, d], _ => row (.surfaceSetup tag a b c d) rfl rfl
  · exact match payload, le_antisymm high low with
    | [a, b, c, d, e], _ => row (.busSet tag a b (half c d) e) rfl rfl
  · exact match payload, le_antisymm high low with
    | [a, b, c, d, e, f], _ => row (.meterAssign tag a b ⟨c, d⟩ e f) rfl rfl
  · exact match payload, le_antisymm high low with
    | [a, b, c, d, e, f, g], _ => row (.routeAdd tag ⟨a, b⟩ ⟨c, d⟩ (half e f) g) rfl rfl
  · exact match payload, le_antisymm high low with
    | [a, b, c, d, e, f, g], _ => row (.filterSet tag a b c d e f g) rfl rfl
  · exact match payload, le_antisymm high low with
    | [a, b, c, d, e, f, g, h], _ => row (.bindSet tag a b c d e f g h) rfl rfl
  · exact match payload, le_antisymm high low with
    | [a, b, c, d, e, f, g, h], _ => row (.faderConfig tag a b c d e f g h) rfl rfl
  · exact match payload, le_antisymm high low with
    | [a, b, c, d, e, f, g, h, i], _ => row (.meterSubscribe tag (BitVec.ofNat 64 (leNat [a, b, c, d, e, f, g, h])) i) rfl rfl
  · exact match payload, low, high with
    | a :: b :: c :: list, low, high => by
      have fits : 1 ≤ list.length ∧ list.length ≤ 7 := by
        simp only [List.length_cons] at low high
        omega
      exact ⟨.clockSetSources tag a b c list, _, rfl, by simpa [Instr.wellFormed] using fits, (if_pos fits).symm⟩
  · exact ⟨.moduleForget tag payload, _, rfl, by simpa [Instr.wellFormed] using And.intro low high,
      (if_pos (And.intro low high)).symm⟩
  · exact match payload, low, high with
    | a :: b :: c :: d :: e :: data, low, high => by
      have fits : data.length ≤ 32 := by
        simp only [List.length_cons] at high
        omega
      exact ⟨.surfaceSend tag a b c d e data, _, rfl, by simpa [Instr.wellFormed] using fits, (if_pos fits).symm⟩

end Sys2Proof.Machine
end

section
/-! PROOFS. What each row reaches (`reachOf`), the principle by which a step keeps a law, and the law of the records. -/

namespace Sys2Proof.Machine

open Sys2Proof.Safety

/-! ## What each row reaches -/

/-- The parts that POWER_ON and a RESET reach at most. -/
abbrev restartParts : List Part :=
  [.phase, .link, .transmit, .answer, .reference, .commands, .replies, .records, .settings, .cku, .stu, .ptu, .rme, .sbc,
    .mtb, .evf, .sou, .bdt, .fsv]

/-- The parts that a row reaches at most: for a command row its owning block's doing, without the reply. -/
def reachOf : Instr → List Part
  | .powerOn | .reset .. => restartParts
  | .initialisationComplete | .resetComplete => [.phase, .settings] ++ pickParts
  | .busPowerConnection | .resumeSignalling => [.link]
  | .busReset | .disconnection | .busIdleSuspend => [.link] ++ recordParts ++ clockReach
  | .selectConfiguration .. => [.link, .answer] ++ recordParts ++ clockReach
  | .setupRequest .. | .rateReportSend => [.answer]
  | .controlOutPacket .. => [.answer, .commands]
  | .takeCommand => restartParts ++ [.fresh]
  | .controlInRequest => [.transmit, .answer, .replies, .records]
  | .controlInAcknowledge => [.transmit]
  | .noticeMask .. | .lampSet .. => [.settings]
  | .identify .. | .clockStatus .. | .streamStatus .. | .portStatus .. | .routeList .. | .moduleList .. | .filterList ..
  | .bindList .. | .faderStatus .. => []
  | .clockSetRate .. | .clockSetSources .. | .checkPeriodEnd | .synthesiserLock | .synthesiserUnlock
  | .lockTimerExpiry | .settleTimerExpiry | .holdoverTimerExpiry | .streamStop .. | .portConfig .. => clockReach
  | .sourceEdge .. => [.reference, .cku]
  | .streamConfig .. => [.stu]
  | .streamStart .. | .playbackPacket .. => [.records, .stu]
  | .capturePacketRequest => [.answer, .stu]
  | .serviceIntervalStart => [.reference, .cku, .stu]
  | .portStart .. | .portStop .. | .portMute .. | .portResetTimerExpiry .. | .portSettleCountEnd ..
  | .portInputFrameComplete .. | .portOutputFrameBegin .. | .overloadLineChange .. => [.records, .ptu, .rme]
  | .routeAdd .. | .routeRemove .. => [.records, .rme, .bdt]
  | .routeSetGain .. | .routeSetMute .. | .busSet .. | .bindSet .. | .servoPeriod .. => surfaceParts
  | .rampSet .. | .meterAssign .. | .meterRead .. | .meterSubscribe .. => [.rme]
  | .rampEnd .. => [.records, .rme]
  | .evaluateStudioFrame => [.cku, .stu, .ptu] ++ pickParts
  | .meterPeriodEnd | .pollBoundary | .autoDiscoveryStart | .busFree | .clearingCheckEnd .. | .surfaceSetup ..
  | .discover .. | .moduleForget .. | .surfaceSend .. | .surfaceAbort .. | .frameDelayExpiry .. => pickParts
  | .surfaceStatus .. | .replyStartBit | .lineCharacter | .lineBreakEnd | .faultRetryExpiry => [.sbc]
  | .frameSendingEnd | .replyWindowExpiry | .replyCorrupt | .replyComplete .. | .lineBreakStart => surfaceParts
  | .stuckTimerExpiry => [.records, .sbc]
  | .filterSet .. => [.evf]
  | .surfaceHistory .. => [.sou]
  | .bindClear .. => [.rme, .bdt]
  | .faderConfig .. => [.records, .rme, .fsv]
  | .faderMove .. | .faderClear .. | .motionTimerExpiry .. | .supplyLow | .supplyBack => [.records, .fsv]
  | .surfaceMillisecondTick => [.cku, .ptu, .sbc]

/-! ## The command rows -/

section
variable (s : State)

theorem reaches_refuse {ps : List Part} (st : Status) : Reaches ps s (refuse s st).state := .refl s

/-- A refusal by a test, else what the command does. -/
theorem reaches_unless {ps : List Part} {c : Prop} [Decidable c] {st : Status} {h : Handled} (hh : Reaches ps s h.state) :
    Reaches ps s (if c then refuse s st else h).state := by
  split
  · exact .refl s
  · exact hh

theorem reaches_accept {ps : List Part} {s t : State} {r : Option Result} (h : Reaches ps s t) :
    Reaches ps s (accept t r).state := h

/-- R14: nothing is masked at power-on. -/
theorem ready_unmasked : BitVec.getLsbD Msu.powerOn.mask 0 = false := by decide

theorem reaches_handleReset : Reaches restartParts s (handleReset s).state :=
  ⟨fun p hp => by cases p <;> simp_all [Part.same, handleReset, accept, resetBlocks, poweredOn],
    fun ⟨_, replies, _, _, _⟩ => ⟨Nat.zero_le _, replies, Nat.zero_le _, .nil, ready_unmasked⟩⟩

theorem reaches_handleNoticeMask (mask : Half) : Reaches [.settings] s (handleNoticeMask mask s).state := by
  refine reaches_unless s ⟨fun p hp => by cases p <;> simp_all [Part.same], fun ⟨commands, replies, notices, apart, _⟩ =>
    ⟨commands, replies, notices, apart, ?_⟩⟩
  simp

theorem reaches_handleLampSet (a b : Byte) : Reaches [.settings] s (handleLampSet a b s).state := by
  unfold handleLampSet
  split
  · exact ⟨fun p hp => by cases p <;> simp_all [Part.same, accept], id⟩
  · exact .refl s

theorem reaches_handleClockSetRate (rate : Byte) : Reaches clockReach s (handleClockSetRate rate s).state := by
  unfold handleClockSetRate
  split
  · exact .refl s
  · exact .ite (fun _ => .refl s) fun _ => reaches_changeRate _ s

theorem reaches_handleClockSetSources (mode fixed revert : Byte) (list : List Byte) :
    Reaches clockReach s (handleClockSetSources mode fixed revert list s).state := by
  unfold handleClockSetSources
  split
  · split
    · exact reaches_clockEvent _ s
    · exact .refl s
  · exact .refl s

theorem reaches_handleStreamConfig (selector channels : Byte) (depth : Half) :
    Reaches [.stu] s (handleStreamConfig selector channels depth s).state := by
  unfold handleStreamConfig
  split
  · exact reaches_unless s (reaches_unless s (reaches_unless s (reaches_withStu s _)))
  · exact .refl s

theorem reaches_startStream (id : StreamId) : Reaches [.records, .stu] s (startStream id s) := by
  cases id <;> exact (reaches_withStu s _).andThen (reaches_notify _ _)

theorem reaches_handleStreamStart (selector : Byte) : Reaches [.records, .stu] s (handleStreamStart selector s).state := by
  unfold handleStreamStart
  split
  · exact .refl s
  · exact reaches_unless s (reaches_startStream s _)

theorem reaches_handleStreamStop (selector : Byte) : Reaches clockReach s (handleStreamStop selector s).state := by
  unfold handleStreamStop
  split
  · exact .refl s
  · split
    · exact .refl s
    · exact (reaches_withStu s _).andThen (reaches_losePresence ..)

theorem reaches_configurePort (i : Nat) (mode : PortMode) (slots : Nat) :
    Reaches clockReach s (configurePort i mode slots s) :=
  .ite (fun _ => (reaches_withPorts _ s).andThen (reaches_clockChange ..)) fun _ =>
    (reaches_withPorts _ s).andThen (reaches_notifyAll ..)

theorem reaches_handlePortConfig (port mode slots : Byte) :
    Reaches clockReach s (handlePortConfig port mode slots s).state := by
  unfold handlePortConfig
  split
  · exact reaches_unless s (reaches_unless s (reaches_configurePort s ..))
  · exact .refl s

theorem reaches_handlePortStart (port : Byte) : Reaches [.records, .ptu, .rme] s (handlePortStart port s).state := by
  unfold handlePortStart
  split
  · exact .refl s
  · exact reaches_unless s (reaches_unless s (reaches_accept (reaches_changePort ..)))

theorem reaches_handlePortStop (port : Byte) : Reaches [.records, .ptu, .rme] s (handlePortStop port s).state := by
  unfold handlePortStop
  split
  · exact .refl s
  · split
    · exact .refl s
    · exact reaches_accept (reaches_changePort ..)

theorem reaches_handlePortMute (port mute : Byte) : Reaches [.records, .ptu, .rme] s (handlePortMute port mute s).state := by
  unfold handlePortMute
  split
  · exact reaches_accept (reaches_changePort ..)
  · exact .refl s

theorem reaches_leaveActive (id : Nat) : Reaches [.records, .rme, .bdt] s (leaveActive id s) :=
  ((reaches_withRme s _).andThen (reaches_orphanRoute id _) (rs := [.rme, .bdt])).andThen (reaches_notifyAll ..)

theorem reaches_addRoute (source dest : Point) (gain : Gain) (mute invert : Bool) :
    Reaches [.records, .rme, .bdt] s (addRoute source dest gain mute invert s).1 := by
  have clear : Reaches [.records, .rme, .bdt] s (clearLane source dest s) := by
    unfold clearLane
    split
    · exact reaches_leaveActive s _
    · exact .refl s
  exact clear.andThen (reaches_withRme ..)

theorem reaches_handleRouteAdd (source destination : PointCode) (gain : Half) (flags : Byte) :
    Reaches [.records, .rme, .bdt] s (handleRouteAdd source destination gain flags s).state := by
  unfold handleRouteAdd
  split
  · exact reaches_unless s (reaches_unless s (reaches_unless s (reaches_addRoute s ..)))
  · exact .refl s

theorem reaches_handleRouteRemove (id : Byte) : Reaches [.records, .rme, .bdt] s (handleRouteRemove id s).state := by
  unfold handleRouteRemove
  split
  · exact .refl s
  · split
    · exact .refl s
    · exact .refl s
    · exact reaches_leaveActive s _

/-- The set-target rule of a command, with the scheduler after it. -/
theorem reaches_schedule_setTarget (x : LevelRef) (g : Option Gain) (m : Option Bool) :
    Reaches surfaceParts s (schedule (setTarget x g m none s)) :=
  (reaches_setTarget x g m none s).andThen (reaches_schedule _)

theorem reaches_handleRouteSetGain (id : Byte) (gain : Half) :
    Reaches surfaceParts s (handleRouteSetGain id gain s).state := by
  unfold handleRouteSetGain
  split
  · split
    · exact .refl s
    · exact .refl s
    · exact reaches_unless s (reaches_schedule_setTarget s ..)
  · exact .refl s

theorem reaches_handleRouteSetMute (id mute : Byte) : Reaches surfaceParts s (handleRouteSetMute id mute s).state := by
  unfold handleRouteSetMute
  split
  · split
    · exact .refl s
    · exact .refl s
    · exact reaches_schedule_setTarget s ..
  · exact .refl s

theorem reaches_handleBusSet (bus flags : Byte) (gain : Half) (mute : Byte) :
    Reaches surfaceParts s (handleBusSet bus flags gain mute s).state := by
  unfold handleBusSet
  split
  · split
    · exact .refl s
    · exact reaches_unless s (reaches_schedule_setTarget s ..)
  · exact .refl s

theorem reaches_handleRampSet (length : Half) : Reaches [.rme] s (handleRampSet length s).state := by
  unfold handleRampSet
  split
  · exact .refl s
  · exact reaches_withRme s _

theorem reaches_handleMeterAssign (slot flags : Byte) (point : PointCode) (address position : Byte) :
    Reaches [.rme] s (handleMeterAssign slot flags point address position s).state := by
  unfold handleMeterAssign
  split
  · exact reaches_unless s (reaches_withRme s _)
  · exact .refl s

theorem reaches_handleMeterRead (first count clear : Byte) : Reaches [.rme] s (handleMeterRead first count clear s).state := by
  unfold handleMeterRead
  simp only []
  split
  · exact .refl s
  · exact reaches_unless s (reaches_withRme s _)

theorem reaches_busEnabled : Reaches pickParts s (busEnabled s) :=
  (((reaches_withSbc s _).andThen (reaches_refreshExpiries _) (rs := [.sbc, .mtb])).andThen (reaches_setBus ..)
    (rs := [.records, .sbc, .mtb])).andThen (reaches_schedule _)

theorem reaches_handleSurfaceSetup (enable period lifetime auto : Byte) :
    Reaches pickParts s (handleSurfaceSetup enable period lifetime auto s).state := by
  unfold handleSurfaceSetup
  split
  · exact .refl s
  · refine .ite (fun _ => ?_) fun _ => .ite (fun _ => (reaches_withSbc s _).andThen (reaches_busEnabled _)) fun _ =>
      (reaches_withSbc s _).to
    exact ((reaches_withSbc s _).andThen (reaches_withSbc _ _) (rs := [.sbc])).andThen (reaches_setBus ..)

theorem reaches_handleSurfaceStatus (clear : Byte) : Reaches [.sbc] s (handleSurfaceStatus clear s).state := by
  unfold handleSurfaceStatus
  split
  · exact .refl s
  · exact .ite (fun _ => reaches_withSbc s _) fun _ => .refl s

theorem reaches_handleDiscover : Reaches pickParts s (handleDiscover s).state := by
  refine reaches_unless s ?_
  split
  · exact .refl s
  · exact (reaches_setSearch _ s).andThen (reaches_schedule _)

theorem reaches_handleModuleForget (addresses : List Byte) :
    Reaches pickParts s (handleModuleForget addresses s).state := by
  unfold handleModuleForget
  split
  · exact .refl s
  · exact reaches_unless s ((reaches_removeModules ..).andThen (reaches_schedule _))

theorem reaches_handleFilterSet (number enable origin low high kinds action : Byte) :
    Reaches [.evf] s (handleFilterSet number enable origin low high kinds action s).state := by
  unfold handleFilterSet
  split
  · split
    · exact .refl s
    · exact reaches_withEvf s _
  · split
    · exact reaches_withEvf s _
    · exact .refl s

theorem reaches_handleSurfaceSend (tag address kind priority retries notify : Byte) (data : List Byte) :
    Reaches pickParts s (handleSurfaceSend tag address kind priority retries notify data s).state := by
  unfold handleSurfaceSend
  split
  · exact .refl s
  · refine reaches_unless s ?_
    split
    · exact .refl s
    · exact .refl s
    · exact ((reaches_withSou s _).andThen (reaches_endFrames ..) (rs := [.records, .sou])).andThen (reaches_schedule _)

theorem reaches_handleSurfaceAbort (selector named : Byte) :
    Reaches pickParts s (handleSurfaceAbort selector named s).state := by
  unfold handleSurfaceAbort
  split
  · exact .refl s
  · exact (reaches_abortFrames ..).andThen (reaches_schedule _)

theorem reaches_storeBinding (i : Nat) (b : Binding) :
    Reaches [.records, .rme, .sou, .bdt, .fsv] s (storeBinding i b s) := by
  have start : Reaches [.rme] s (if (s.binding i).state = .empty then s else releaseHold (s.binding i) s) :=
    .ite (fun _ => .refl s) fun _ => reaches_releaseHold _ s
  have stored (t : State) : Reaches [.records, .sou, .bdt, .fsv] t
      (if b.feedback then sendFeedback b (t.withBdt (t.bdt.set i b)) else t.withBdt (t.bdt.set i b)) :=
    .ite (fun _ => (reaches_withBdt t _).andThen (reaches_sendFeedback ..)) fun _ => (reaches_withBdt t _).to
  exact start.andThen (stored _)

theorem reaches_handleBindSet (index origin control targetKind targetIndex mode step feedback : Byte) :
    Reaches surfaceParts s (handleBindSet index origin control targetKind targetIndex mode step feedback s).state := by
  unfold handleBindSet
  split
  · exact reaches_unless s (reaches_unless s (reaches_unless s
      ((reaches_storeBinding s ..).andThen (reaches_schedule _))))
  · exact .refl s

theorem reaches_handleBindClear (index : Byte) : Reaches [.rme, .bdt] s (handleBindClear index s).state := by
  unfold handleBindClear
  split
  · exact .refl s
  · exact reaches_unless s ((reaches_releaseHold ..).andThen (reaches_withBdt _ _))

theorem reaches_configureFader (i : Nat) (x : FaderSettings) :
    Reaches [.records, .rme, .fsv] s (configureFader i x s) :=
  .ite (fun _ => (reaches_changeFader ..).andThen (reaches_releaseHolders _ _)) fun _ => (reaches_changeFader ..).to

theorem reaches_handleFaderConfig (channel enable kp deadband minDuty maxDuty rest limit : Byte) :
    Reaches [.records, .rme, .fsv] s (handleFaderConfig channel enable kp deadband minDuty maxDuty rest limit s).state := by
  unfold handleFaderConfig
  split
  · exact reaches_configureFader s ..
  · exact .refl s

theorem reaches_handleFaderMove (channel : Byte) (position : Half) :
    Reaches [.records, .fsv] s (handleFaderMove channel position s).state := by
  unfold handleFaderMove
  split
  · exact .refl s
  · exact reaches_unless s (reaches_unless s (reaches_aimFader ..))

theorem reaches_handleFaderClear (channel : Byte) : Reaches [.records, .fsv] s (handleFaderClear channel s).state := by
  unfold handleFaderClear
  split
  · exact .refl s
  · exact reaches_accept (reaches_changeFader ..)

end

/-- What a command hands over to its block reaches at most the parts listed for its row. -/
theorem handler_reaches {c : Instr} {h : State → Handled} (hc : handlerOf c = some h) (s : State) :
    Reaches (reachOf c) s (h s).state := by
  cases c <;> cases hc
  case identify => exact .refl s
  case reset => exact reaches_handleReset s
  case noticeMask => exact reaches_handleNoticeMask s _
  case lampSet => exact reaches_handleLampSet s ..
  case clockSetRate => exact reaches_handleClockSetRate s _
  case clockSetSources =>
    dsimp only
    split
    · exact reaches_handleClockSetSources s ..
    · exact .refl s
  case clockStatus => exact .refl s
  case streamConfig => exact reaches_handleStreamConfig s ..
  case streamStart => exact reaches_handleStreamStart s _
  case streamStop => exact reaches_handleStreamStop s _
  case streamStatus =>
    unfold handleStreamStatus
    split <;> exact .refl s
  case portConfig => exact reaches_handlePortConfig s ..
  case portStart => exact reaches_handlePortStart s _
  case portStop => exact reaches_handlePortStop s _
  case portMute => exact reaches_handlePortMute s ..
  case portStatus =>
    unfold handlePortStatus
    split <;> exact .refl s
  case routeAdd => exact reaches_handleRouteAdd s ..
  case routeRemove => exact reaches_handleRouteRemove s _
  case routeSetGain => exact reaches_handleRouteSetGain s ..
  case routeSetMute => exact reaches_handleRouteSetMute s ..
  case routeList =>
    unfold handleRouteList
    split <;> exact .refl s
  case busSet => exact reaches_handleBusSet s ..
  case rampSet => exact reaches_handleRampSet s _
  case meterAssign => exact reaches_handleMeterAssign s ..
  case meterRead => exact reaches_handleMeterRead s ..
  case meterSubscribe => exact reaches_withRme s _
  case surfaceSetup => exact reaches_handleSurfaceSetup s ..
  case surfaceStatus => exact reaches_handleSurfaceStatus s _
  case discover => exact reaches_handleDiscover s
  case moduleList => exact .refl s
  case moduleForget =>
    dsimp only
    split
    · exact reaches_handleModuleForget s _
    · exact .refl s
  case filterSet => exact reaches_handleFilterSet s ..
  case filterList => exact .refl s
  case surfaceSend =>
    dsimp only
    split
    · exact reaches_handleSurfaceSend s ..
    · exact .refl s
  case surfaceAbort => exact reaches_handleSurfaceAbort s ..
  case surfaceHistory => exact reaches_unless s (reaches_withSou s _)
  case bindSet => exact reaches_handleBindSet s ..
  case bindClear => exact reaches_handleBindClear s _
  case bindList => exact .refl s
  case faderConfig => exact reaches_handleFaderConfig s ..
  case faderMove => exact reaches_handleFaderMove s ..
  case faderClear => exact reaches_handleFaderClear s _
  case faderStatus =>
    unfold handleFaderStatus
    split <;> exact .refl s

/-! ## The event rows -/

section
variable (s : State)

theorem reaches_poweredOn : Reaches restartParts s (poweredOn s) :=
  ⟨fun p hp => by cases p <;> simp_all [Part.same, poweredOn],
    fun _ => ⟨Nat.zero_le _, Nat.zero_le _, Nat.zero_le _, .nil, ready_unmasked⟩⟩

theorem reaches_sessionOpens (cause : StartCause) : Reaches ([.phase, .settings] ++ pickParts) s (sessionOpens cause s) := by
  have start : Reaches [.phase, .settings] s ((s.withPhase .running).withMsu { s.msu with cause := cause }) :=
    ⟨fun p hp => by cases p <;> simp_all [Part.same], id⟩
  exact ((start.andThen (reaches_withSbc _ _) (rs := [.phase, .settings, .sbc])).andThen (reaches_notify ..)
    (rs := [.phase, .settings, .sbc, .records])).andThen (reaches_schedule _)

theorem reaches_studioFrame : Reaches ([.cku, .stu, .ptu] ++ pickParts) s (studioFrame s) := by
  have start (c : Cku) (u : Stu) (m : Rme) (ps : List Port) (a b d e : List NoticeBody) :
      Reaches ([.cku, .stu, .ptu] ++ pickParts) s
        (notifyMerged a b d e (withPorts ps (((s.withCku c).withStu u).withRme m))) :=
    ((((reaches_withCku s c).andThen (reaches_withStu _ u) (rs := [.cku, .stu])).andThen (reaches_withRme _ m)
      (rs := [.cku, .stu, .rme])).andThen (reaches_withPorts ps _) (rs := [.cku, .stu, .rme, .ptu])).andThen
      (reaches_notifyMerged ..)
  exact .ite (fun _ => (start ..).andThen (reaches_handMeterFrames _)) fun _ => start ..

theorem reaches_finishRoute (id : Nat) : Reaches [.records, .rme] s (finishRoute id s) :=
  .ite (fun _ => .refl s) fun _ => .ite (fun _ => (reaches_withRme s _).andThen (reaches_notifyAll ..)) fun _ =>
    (reaches_withRme s _).to

theorem reaches_emitPosition (i : Nat) : Reaches surfaceParts s (emitPosition i s) :=
  (reaches_changeFader i _ s).andThen (reaches_deliverEvent ..)

theorem reaches_emitMoved (i n : Nat) : Reaches surfaceParts s (emitMoved i n s) :=
  .ite (fun _ => reaches_emitPosition s i) fun _ => .refl s

theorem reaches_touchStep (i : Nat) : Reaches surfaceParts s (touchStep i s) := by
  simp only [touchStep]
  refine .ite (fun _ => .refl s) fun _ => .ite (fun _ => ?_) fun _ => .ite (fun _ => reaches_emitMoved s i 2) fun _ =>
    .ite (fun _ => ?_) fun _ => .refl s
  · exact ((reaches_changeFader i _ s).andThen (reaches_deliverEvent ..) (rs := surfaceParts)).andThen
      (reaches_emitMoved ..)
  · exact (((reaches_emitMoved s i 1).andThen (reaches_changeFader i _ _) (rs := surfaceParts)).andThen
      (reaches_deliverEvent ..) (rs := surfaceParts)).andThen (reaches_changeFader i _ _)

theorem reaches_driveStep (samples : List FaderSample) (i : Nat) : Reaches [.records, .fsv] s (driveStep samples i s) := by
  unfold driveStep
  split
  · exact .refl s
  · exact reaches_changeFader ..

theorem reaches_startRound : Reaches pickParts s (startRound s) :=
  ((reaches_removeModules .expired s.expired s).andThen (reaches_withSbc _ _)
    (rs := [.records, .rme, .sbc, .mtb, .sou, .bdt])).andThen (reaches_schedule _)

theorem reaches_enterPhase (p : TxnPhase) : Reaches [.sbc] s (enterPhase p s) := reaches_withSbc s _

end

/-- A row that is not a command goes on, and reaches at most the parts listed for it. -/
theorem event_reaches {c : Instr} (hc : commandOf c = none) (take : c ≠ .takeCommand) (s : State) :
    ∃ t, exec c s = .next t ∧ Reaches (reachOf c) s t := by
  cases c <;> cases hc <;> refine ⟨_, rfl, ?_⟩ <;> dsimp only [reachOf]
  case takeCommand => exact absurd rfl take
  case powerOn => exact reaches_poweredOn s
  case initialisationComplete => exact .ite (fun _ => reaches_sessionOpens s _) fun _ => .refl s
  case resetComplete => exact .ite (fun _ => reaches_sessionOpens s _) fun _ => .refl s
  case busPowerConnection => exact .ite (fun _ => reaches_setLink _ s) fun _ => .refl s
  case busReset => exact .ite (fun _ => .refl s) fun _ => reaches_leaveLink _ s
  case selectConfiguration value =>
    refine .ite (fun _ => ?_) fun _ => .refl s
    split
    · exact (reaches_leaveLink _ s).andThen (reaches_answerLink ..)
    · exact (reaches_setLink _ s).andThen (reaches_answerLink ..)
    · exact (reaches_answerLink _ s).to
  case setupRequest => exact .ite (fun _ => reaches_answerLink _ s) fun _ => .refl s
  case busIdleSuspend =>
    split
    · exact (reaches_suspendLink _ s).to
    · exact (reaches_suspendLink _ s).to
    · exact .refl s
    · exact .refl s
  case resumeSignalling =>
    split
    · exact reaches_setLink _ s
    · exact reaches_setLink _ s
    all_goals exact .refl s
  case disconnection => exact reaches_leaveLink _ s
  case controlOutPacket bytes =>
    refine .ite (fun _ => ?_) fun _ => .refl s
    split
    · exact (reaches_answerLink _ s).to
    · rename_i room
      have taken : Reaches [.commands] s (s.withMsu { s.msu with commands := s.msu.commands ++ [bytes] }) := by
        refine ⟨fun p hp => by cases p <;> simp_all [Part.same], fun ⟨_, replies, notices, apart, ready⟩ =>
          ⟨?_, replies, notices, apart, ready⟩⟩
        have : ¬ 4 ≤ s.msu.commands.length := fun full => room (.inr full)
        simp only [State.withMsu_msu, List.length_append, List.length_singleton]
        omega
      exact taken.andThen (reaches_answerLink ..)
  case controlInRequest =>
    refine .ite (fun _ => ?_) fun _ => .refl s
    split
    · exact (reaches_answerLink _ s).to
    · rename_i hr
      have sent : Reaches [.replies] s (s.withMsu { s.msu with replies := ‹List Reply› }) :=
        ⟨fun p hp => by cases p <;> simp_all [Part.same], fun ⟨commands, replies, notices, apart, ready⟩ =>
          ⟨commands, by simp only [hr, List.length_cons] at replies; exact Nat.le_of_succ_le replies, notices, apart, ready⟩⟩
      exact sent.andThen (reaches_transmit ..)
    · rename_i hn
      have sent : Reaches [.records] s (s.withMsu { s.msu with notices := ‹List Notice› }) :=
        ⟨fun p hp => by cases p <;> simp_all [Part.same], fun ⟨commands, replies, notices, apart, ready⟩ =>
          ⟨commands, replies, by simp only [hn, List.length_cons] at notices; exact Nat.le_of_succ_le notices,
            (List.pairwise_cons.mp (hn ▸ apart)).2, ready⟩⟩
      exact sent.andThen (reaches_transmit ..)
    · exact (reaches_answerLink _ s).to
  case controlInAcknowledge => exact .ite (fun _ => reaches_withTransmit _ s) fun _ => .refl s
  case checkPeriodEnd => exact .ite (fun _ => reaches_clockEvent _ s) fun _ => .refl s
  case synthesiserLock => exact reaches_clockEvent _ s
  case synthesiserUnlock => exact reaches_clockEvent _ s
  case lockTimerExpiry => exact reaches_clockEvent _ s
  case settleTimerExpiry => exact reaches_clockEvent _ s
  case holdoverTimerExpiry => exact reaches_clockEvent _ s
  case playbackPacket =>
    exact .ite (fun _ => (reaches_withStu s _).andThen (reaches_notifyAll ..)) fun _ => .refl s
  case capturePacketRequest =>
    exact .ite (fun _ => (reaches_withStu s _).andThen (reaches_answerLink ..)) fun _ => .refl s
  case serviceIntervalStart =>
    exact ((reaches_withStu s _).andThen (reaches_countEdges ..) (rs := [.cku, .stu])).andThen (reaches_withReference ..)
  case rateReportSend => exact .ite (fun _ => reaches_answerLink _ s) fun _ => .refl s
  case portResetTimerExpiry => exact reaches_changePort ..
  case portSettleCountEnd => exact reaches_changePort ..
  case portInputFrameComplete => exact reaches_changePort ..
  case portOutputFrameBegin => exact reaches_changePort ..
  case overloadLineChange => exact reaches_changePort ..
  case evaluateStudioFrame => exact (reaches_studioFrame s).andThen (reaches_schedule _)
  case rampEnd record =>
    cases record with
    | route id => exact reaches_finishRoute s _
    | bus b => exact (reaches_withRme s _).to
  case meterPeriodEnd =>
    exact .ite (fun _ => .refl s) fun _ => (((reaches_withRme s _).andThen (reaches_notifyAll ..)
      (rs := [.records, .rme])).andThen (reaches_handMeterFrames _) (rs := [.records, .rme, .sou])).andThen
      (reaches_schedule _)
  case pollBoundary =>
    exact .ite (fun _ => .ite (fun _ => reaches_startRound s) fun _ => (reaches_withSbc s _).to) fun _ => .refl s
  case autoDiscoveryStart =>
    exact .ite (fun _ => (reaches_setSearch _ s).andThen (reaches_schedule _)) fun _ => .refl s
  case busFree => exact .ite (fun _ => (reaches_withSbc s _).andThen (reaches_schedule _)) fun _ => .refl s
  case frameSendingEnd =>
    split
    · refine .ite (fun _ => .ite (fun _ => (reaches_withSbc s _).andThen (reaches_endTxn ..)) fun _ => ?_) fun _ => .refl s
      exact ((reaches_withSbc s _).andThen (reaches_withSbc _ _) (rs := [.sbc])).andThen (reaches_enterPhase ..)
    · exact (reaches_withSbc s _).to
  case replyWindowExpiry => exact .ite (fun _ => .refl s) fun _ => reaches_endTxnIn ..
  case replyCorrupt => exact reaches_endTxnIn ..
  case replyComplete =>
    split
    · refine .ite (fun _ => ?_) fun _ => .refl s
      split
      · exact reaches_endTxn ..
      · exact .refl s
    · exact .refl s
  case lineBreakStart => exact (reaches_withSbc s _).andThen (reaches_endTxnIn ..)
  case lineBreakEnd => exact reaches_withSbc s _
  case stuckTimerExpiry => exact .ite (fun _ => (reaches_withSbc s _).andThen (reaches_setBus ..)) fun _ => .refl s
  case clearingCheckEnd =>
    split
    · refine .ite (fun _ => reaches_busCleared s) fun _ => .ite (fun _ => (reaches_withSbc s _).to) fun _ => ?_
      exact (reaches_withSbc s _).andThen (reaches_setBus ..)
    · exact .ite (fun _ => .ite (fun _ => reaches_busCleared s) fun _ => (reaches_withSbc s _).to) fun _ => .refl s
    · exact .refl s
    · exact .refl s
  case faultRetryExpiry => exact .ite (fun _ => reaches_withSbc s _) fun _ => .refl s
  case frameDelayExpiry => exact (reaches_withSou s _).andThen (reaches_schedule _)
  case servoPeriod samples =>
    have touched (t : State) : Reaches surfaceParts t ((List.range 8).foldl (fun s i => touchStep i s) t) :=
      .foldl _ t fun s i _ => reaches_touchStep s i
    have driven (t : State) : Reaches [.records, .fsv] t ((List.range 8).foldl (fun s i => driveStep samples i s) t) :=
      .foldl _ t fun s i _ => reaches_driveStep s samples i
    exact (((reaches_withFsv s _).andThen (touched _) (rs := surfaceParts)).andThen (driven _) (rs := surfaceParts)).andThen
      (reaches_schedule _)
  case motionTimerExpiry => exact reaches_changeFader ..
  case supplyLow =>
    exact .ite (fun _ => (reaches_withFsv s _).andThen (reaches_changeAllFaders ..)) fun _ => .refl s
  case supplyBack =>
    exact .ite (fun _ => .refl s) fun _ => (reaches_withFsv s _).andThen (reaches_changeAllFaders ..)
  case sourceEdge source =>
    cases source with
    | link => exact .ite (fun _ => (reaches_withReference _ s).andThen (reaches_countEdges ..)) fun _ => .refl s
    | internal => exact (reaches_countEdges ..).to
    | wordclock => exact (reaches_countEdges ..).to
    | port p => exact (reaches_countEdges ..).to
  case replyStartBit => exact .ite (fun _ => reaches_enterPhase s _) fun _ => .refl s
  case lineCharacter => exact .ite (fun _ => .refl s) fun _ => reaches_withSbc s _
  case surfaceMillisecondTick =>
    exact ((reaches_withSbc s _).andThen (reaches_withCku _ _) (rs := [.cku, .sbc])).andThen (reaches_withPtu _ _)

/-! ## Steps -/

/-- What holds after every step from a state of a law: it holds after each event row, and after each command row taken and
answered, directly or by its record. -/
theorem step_law {Pre Post : State → Prop} {ok : Instr → Prop} (idle : ∀ s, Pre s → Post s)
    (queue : ∀ s x, Pre s → Pre (s.withPending x))
    (pop : ∀ s r rest, s.msu.commands = r :: rest → Pre s → Pre (s.withMsu { s.msu with commands := rest }))
    (refused : ∀ s st kind tag, s.takes = true → Pre s → Post ((refuse s st).answered kind tag))
    (row : ∀ c h s kind tag, handlerOf c = some h → s.takes = true → Pre s → Post ((h s).answered kind tag))
    (event : ∀ c s t, commandOf c = none → c ≠ .takeCommand → ok c → Pre s → exec c s = .next t → Post t)
    {s t : State} (hok : ∀ c ∈ s.pending.head?, ok c) (hs : Pre s) (hstep : step s = .next t) : Post t := by
  have record (bytes : List Byte) (s : State) (takes : s.takes = true) (hs : Pre s) : Post (takeRecord bytes s) := by
    unfold takeRecord
    split
    · rename_i cls kind tag flags low high payload
      split
      · exact idle s hs
      · split
        · exact refused s _ _ _ takes hs
        · rename_i hk
          split
          · rename_i fits
            obtain ⟨c, h, hc, -, hd⟩ := dispatch_row tag s hk fits.2.1 fits.2.2
            rw [hd]
            exact row c h s _ _ hc takes hs
          · exact refused s _ _ _ takes hs
    · exact idle s hs
  have command (c : Instr) (s : State) (hc : ok c) (hs : Pre s) (h : exec c s = .next t) : Post t := by
    cases hcommand : commandOf c with
    | some command =>
      obtain ⟨handle, hh, hx⟩ := handlerOf_of_commandOf (kind := command.1) (tag := command.2) hcommand
      rw [hx] at h
      obtain ⟨takes, he⟩ | ⟨-, he⟩ := takeRow_cases command.1 command.2 handle s <;> rw [he] at h <;> cases h
      · exact row c handle s _ _ hh takes hs
      · exact idle _ hs
    | none =>
      by_cases take : c = .takeCommand
      · subst take
        simp only [exec, execTakeCommand, Host.Outcome.next.injEq] at h
        subst h
        split
        · rename_i takes
          split
          · exact idle s hs
          · exact record _ _ takes (pop s _ _ ‹_› hs)
        · exact idle s hs
      · exact event c s t hcommand take hc hs h
  unfold step at hstep
  split at hstep
  · obtain rfl : s = t := by simpa using hstep
    exact idle _ hs
  · rename_i c rest hp
    exact command c _ (hok c (by simp [hp])) (queue s rest hs) hstep

/-- As `step_law`, for what no reply changes. -/
theorem step_law_of_state {Pre Post : State → Prop} {ok : Instr → Prop} (idle : ∀ s, Pre s → Post s)
    (queue : ∀ s x, Pre s → Pre (s.withPending x))
    (pop : ∀ s r rest, s.msu.commands = r :: rest → Pre s → Pre (s.withMsu { s.msu with commands := rest }))
    (reply : ∀ s r, Post s → Post (queueReply r s))
    (row : ∀ c h s, handlerOf c = some h → Pre s → Post (h s).state)
    (event : ∀ c s t, commandOf c = none → c ≠ .takeCommand → ok c → Pre s → exec c s = .next t → Post t)
    {s t : State} (hok : ∀ c ∈ s.pending.head?, ok c) (hs : Pre s) (hstep : step s = .next t) : Post t :=
  step_law idle queue pop (fun s _ _ _ _ hs => reply s _ (idle s hs)) (fun c h s _ _ hc _ hs => reply _ _ (row c h s hc hs))
    event hok hs hstep

/-- An event row reaches at most the parts listed for it. -/
theorem event_reaches_of_next {c : Instr} (hc : commandOf c = none) (take : c ≠ .takeCommand) {s t : State}
    (h : exec c s = .next t) : Reaches (reachOf c) s t := by
  obtain ⟨u, hu, reach⟩ := event_reaches hc take s
  obtain rfl : u = t := by simpa using hu.symm.trans h
  exact reach

/-- A reply joins the queue within its size, where R6 lets the MSU take. -/
theorem recordsSound_queueReply {s t : State} {r : Reply} (takes : s.takes = true) (same : t.msu.replies = s.msu.replies)
    (h : RecordsSound t.msu) : RecordsSound (queueReply r t).msu := by
  obtain ⟨commands, -, notices, apart, ready⟩ := h
  have room : s.msu.replies.length < 4 := by
    simp only [State.takes, Bool.and_eq_true, decide_eq_true_eq] at takes
    exact takes.2
  exact ⟨commands, by simpa [same] using room, notices, apart, ready⟩

/-- No command's own doing touches the replies: a RESET keeps them too (R15). -/
theorem handler_replies {c : Instr} {h : State → Handled} (hc : handlerOf c = some h) (s : State) :
    (h s).state.msu.replies = s.msu.replies := by
  by_cases reset : ∃ tag, c = .reset tag
  · obtain ⟨tag, rfl⟩ := reset
    obtain rfl := Option.some.inj hc
    rfl
  · refine (handler_reaches hc s).frame .replies ?_
    cases c <;> cases hc <;> first | exact absurd ⟨_, rfl⟩ reset | simp [reachOf]

end Sys2Proof.Machine

open Sys2Proof.Machine Sys2Proof.Safety in
/-- Settles O3, by what each row reaches: every row keeps the law of the records, and a reply joins the queue where R6 lets the MSU
take. -/
theorem recordsLawKept : Obligations.RecordsLawKept := by
  intro s t hs hstep
  refine step_law (Pre := fun s => RecordsSound s.msu) (Post := fun s => RecordsSound s.msu) (ok := fun _ => True)
    (fun _ => id) (fun _ _ => id) ?pop ?refused ?row ?event (fun _ _ => trivial) hs hstep
  case pop =>
    rintro s r rest hr ⟨commands, replies, notices, apart, ready⟩
    rw [hr, List.length_cons] at commands
    exact ⟨Nat.le_of_succ_le commands, replies, notices, apart, ready⟩
  case refused => exact fun s st kind tag takes hs => recordsSound_queueReply takes rfl hs
  case row =>
    exact fun c h s kind tag hc takes hs =>
      recordsSound_queueReply takes (handler_replies hc s) ((handler_reaches hc s).records hs)
  case event => exact fun c s t hc take _ hs h => (event_reaches_of_next hc take h).records hs

end

section
/-! PROOFS. Power, link, records and commands (01): resets, the session's start, the link table, the control pipes, the framing of
commands and their answers, and the obligations on them. -/

namespace Sys2Proof.Machine

open Sys2Proof.Safety

/-- A list of one record repeated gives that record at every place. -/
theorem getD_replicate (n i : Nat) (x : α) : (List.replicate n x).getD i x = x := by
  simp only [List.getD_eq_getElem?_getD, List.getElem?_replicate]
  split <;> rfl

/-! ## Answers -/

/-- A command's outcome is a refusal that changes nothing, or carries OK or ADJUSTED. -/
def Handled.Honest (s : State) (h : Handled) : Prop := h.status = .ok ∨ h.status = .adjusted ∨ h = refuse s h.status

theorem honest_refuse (s : State) (st : Status) : (refuse s st).Honest s := .inr (.inr rfl)
theorem honest_accept (s t : State) (r : Option Result) : (accept t r).Honest s := .inl rfl
theorem honest_adjustedIf (s t : State) (b : Bool) (r : Option Result) : (Handled.mk t (adjustedIf b) r).Honest s := by
  cases b
  · exact .inl rfl
  · exact .inr (.inl rfl)

/-- R4, R8: each branch of what a block makes of a command is a refusal, an acceptance, or an acceptance with adjusted values. -/
theorem handler_honest {c : Instr} {h : State → Handled} (hc : handlerOf c = some h) (s : State) : (h s).Honest s := by
  cases c <;> cases hc <;>
    simp only [handleIdentify, handleReset, handleNoticeMask, handleLampSet, handleClockSetRate, handleClockSetSources,
      handleClockStatus, handleStreamConfig, handleStreamStart, handleStreamStop, handleStreamStatus, handlePortConfig,
      handlePortStart, handlePortStop, handlePortMute, handlePortStatus, handleRouteAdd, handleRouteRemove,
      handleRouteSetGain, handleRouteSetMute, handleRouteList, handleBusSet, handleRampSet, handleMeterAssign,
      handleMeterRead, handleMeterSubscribe, handleSurfaceSetup, handleSurfaceStatus, handleDiscover, handleModuleList,
      handleModuleForget, handleFilterSet, handleFilterList, handleSurfaceSend, handleSurfaceAbort, handleSurfaceHistory,
      handleBindSet, handleBindClear, handleBindList, handleFaderConfig, handleFaderMove, handleFaderClear,
      handleFaderStatus] <;>
    repeat' first
      | exact honest_refuse ..
      | exact honest_accept ..
      | exact honest_adjustedIf ..
      | split

/-! ## Records and their rows -/

theorem half_halfBytes (h : Half) : half (h.extractLsb' 0 8) (h.extractLsb' 8 8) = h := by
  refine BitVec.eq_of_getLsbD_eq fun i hi => (BitVec.getLsbD_append ..).trans ?_
  by_cases low : i < 8
  · simp [low]
  · simp [low, show i - 8 < 8 by omega, show 8 + (i - 8) = i by omega]

theorem ofNat_leNat_leBytes (x : BitVec 64) : BitVec.ofNat 64 (leNat (leBytes 8 x.toNat)) = x := by
  have hx := x.isLt
  apply BitVec.eq_of_toNat_eq
  simp only [leBytes, List.range, List.range.loop, List.map, leNat, BitVec.toNat_ofNat]
  omega

/-- 11, section 11.2: the payload of a row has a size of its kind, and what it hands over is what the row hands over. -/
theorem dispatch_payload {c : Instr} {kind tag : Byte} {payload : List Byte} (hc : commandOf c = some (kind, tag))
    (hp : payloadOf c = some payload) (wf : c.wellFormed = true) {h : State → Handled} (hh : handlerOf c = some h) (s : State) :
    (∃ least most, payloadSizes kind = some (least, most) ∧ least ≤ payload.length ∧ payload.length ≤ most ∧ most ≤ 37) ∧
      dispatch kind tag payload s = h s := by
  cases c <;> cases hc <;> cases hp <;> cases hh
  case noticeMask mask =>
    exact ⟨⟨_, _, rfl, by simp [halfBytes], by simp [halfBytes], by simp⟩, congrArg (handleNoticeMask · s) (half_halfBytes mask)⟩
  case clockSetSources mode fixed revert list =>
    have fits : 1 ≤ list.length ∧ list.length ≤ 7 := by simpa [Instr.wellFormed] using wf
    exact ⟨⟨_, _, rfl, by simpa using fits.1, by simp only [List.length_cons]; omega, by simp⟩, (if_pos fits).symm⟩
  case streamConfig selector channels depth =>
    exact ⟨⟨_, _, rfl, by simp [halfBytes], by simp [halfBytes], by simp⟩,
      congrArg (handleStreamConfig selector channels · s) (half_halfBytes depth)⟩
  case routeAdd source destination gain flags =>
    exact ⟨⟨_, _, rfl, by simp [halfBytes, pointBytes], by simp [halfBytes, pointBytes], by simp⟩,
      congrArg (handleRouteAdd source destination · flags s) (half_halfBytes gain)⟩
  case routeSetGain id gain =>
    exact ⟨⟨_, _, rfl, by simp [halfBytes], by simp [halfBytes], by simp⟩,
      congrArg (handleRouteSetGain id · s) (half_halfBytes gain)⟩
  case busSet bus flags gain mute =>
    exact ⟨⟨_, _, rfl, by simp [halfBytes], by simp [halfBytes], by simp⟩,
      congrArg (handleBusSet bus flags · mute s) (half_halfBytes gain)⟩
  case rampSet length =>
    exact ⟨⟨_, _, rfl, by simp [halfBytes], by simp [halfBytes], by simp⟩, congrArg (handleRampSet · s) (half_halfBytes length)⟩
  case faderMove channel position =>
    exact ⟨⟨_, _, rfl, by simp [halfBytes], by simp [halfBytes], by simp⟩,
      congrArg (handleFaderMove channel · s) (half_halfBytes position)⟩
  case meterAssign => exact ⟨⟨_, _, rfl, by simp [pointBytes], by simp [pointBytes], by simp⟩, rfl⟩
  case meterSubscribe set holdTime =>
    exact ⟨⟨_, _, rfl, by simp [leBytes], by simp [leBytes], by simp⟩,
      congrArg (handleMeterSubscribe · holdTime s) (ofNat_leNat_leBytes set)⟩
  case moduleForget =>
    have fits : 1 ≤ payload.length ∧ payload.length ≤ 30 := by simpa [Instr.wellFormed] using wf
    exact ⟨⟨_, _, rfl, fits.1, fits.2, by simp⟩, (if_pos fits).symm⟩
  case surfaceSend address kind priority retries notify data =>
    have fits : data.length ≤ 32 := by simpa [Instr.wellFormed] using wf
    exact ⟨⟨_, _, rfl, by simp, by simp only [List.length_cons]; omega, by simp⟩, (if_pos fits).symm⟩
  all_goals exact ⟨⟨_, _, rfl, by simp, by simp, by simp⟩, rfl⟩

/-- R7: a checked record is answered with what its kind's block makes of it. -/
theorem takeRecord_of_fits {kind tag flags low high : Byte} {payload : List Byte} {least most : Nat} (s : State)
    (hk : payloadSizes kind = some (least, most)) (length : (half low high).toNat = payload.length)
    (hl : least ≤ payload.length) (hm : payload.length ≤ most) :
    takeRecord (1 :: kind :: tag :: flags :: low :: high :: payload) s = (dispatch kind tag payload s).answered kind tag := by
  simp [takeRecord, hk, length, hl, hm]

/-- R6: the oldest record leaves the command buffer and is taken. -/
theorem execTakeCommand_of_record {s : State} {bytes : List Byte} {rest : List (List Byte)} (takes : s.takes = true)
    (hr : s.msu.commands = bytes :: rest) :
    exec .takeCommand s = .next (takeRecord bytes (s.withMsu { s.msu with commands := rest })) := by
  simp [exec, execTakeCommand, takes, hr]

/-! ## The session's start -/

/-- R10, R11: READY is neither masked nor matched. -/
theorem enqueue_ready {m : Msu} (cause : StartCause) (room : m.notices.length < 64) :
    m.enqueue (.ready cause) = { m with notices := m.notices ++ [⟨m.gap, .ready cause⟩], gap := false } := by
  obtain ⟨masked, -⟩ | ⟨-, ⟨q, -, hq⟩, -⟩ | ⟨-, -, full, -⟩ | ⟨-, -, -, h⟩ := enqueue_cases m (.ready cause)
  · simp [Msu.masked, NoticeBody.code] at masked
  · simp [NoticeBody.coalesces] at hq
  · omega
  · exact h

/-- R14, R15, R151: READY is queued, and the start-up RELEASE goes out or waits. -/
theorem sessionOpens_opensSession {s : State} (cause : StartCause) (room : s.msu.notices.length < 64) :
    opensSession cause s (sessionOpens cause s) := by
  let u := notify (.ready cause) (((s.withPhase .running).withMsu { s.msu with cause := cause }).withSbc
    { s.sbc with startUp := true, stuckTimer := s.sbc.lineBreak && s.sbc.bus == .running })
  have hu : u = ((s.withPhase .running).withMsu
      { s.msu with cause := cause, notices := s.msu.notices ++ [⟨s.msu.gap, .ready cause⟩], gap := false }).withSbc
      { s.sbc with startUp := true, stuckTimer := s.sbc.lineBreak && s.sbc.bus == .running } := by
    simp only [u, notify_eq]
    simp [enqueue_ready cause (m := { s.msu with cause := cause }) room]
    rfl
  have hs : sessionOpens cause s = schedule u := rfl
  have ho : u.offer = some .startUp := by simp [State.offer, hu]
  have hp : u.mayPick = true ↔ s.sbc.bus = .running ∧ s.sbc.free = true ∧ s.sbc.txn = none := by
    simp [State.mayPick, hu, and_assoc]
  rw [hs]
  obtain ⟨idle, he⟩ | ⟨-, none_, -⟩ | ⟨o, picks, ho', he⟩ := schedule_cases u
  · have idle : ¬ (s.sbc.bus = .running ∧ s.sbc.free = true ∧ s.sbc.txn = none) := fun h => by simp [hp.mpr h] at idle
    rw [he, opensSession, if_neg idle, hu]
    exact ⟨rfl, rfl, rfl, rfl, rfl, ⟨rfl, rfl⟩, fun p hp => by cases p <;> simp_all [Part.same]⟩
  · simp [ho] at none_
  · obtain rfl : Offer.startUp = o := by simpa [ho] using ho'
    rw [he, opensSession, if_pos (hp.mp picks), hu]
    exact ⟨rfl, rfl, rfl, rfl, rfl, ⟨rfl, rfl⟩, fun p hp => by cases p <;> simp_all [Part.same, takeOffer, startTxn]⟩

/-! ## The link -/

/-- Leaving a link state without a reset replaces the link state alone. -/
theorem leaveLink_of_not_left {s : State} {l : LinkState} (h : s.lif.link ≠ .configured) (h' : s.lif.link ≠ .suspended true) :
    leaveLink l s = setLink l s := by
  unfold leaveLink
  split <;> simp_all

theorem losePresence_link (x : ClockSource) (was : Bool) (a b : List NoticeBody) (s : State) :
    (losePresence x was a b s).lif = s.lif := by
  have reach := (reaches_losePresence x was a b s).frame
  have link := reach .link (by decide)
  have transmit := reach .transmit (by decide)
  have answer := reach .answer (by decide)
  have reference := reach .reference (by decide)
  exact Lif.mk.injEq .. ▸ ⟨link, transmit, answer, reference⟩

theorem linkReset_link (l : LinkState) (s : State) : (linkReset l s).lif.link = l := by
  simp only [linkReset]
  split <;> simp [losePresence_link, emptyRecords, setLink]

theorem leaveLink_link (l : LinkState) (s : State) : (leaveLink l s).lif.link = l := by
  unfold leaveLink
  split <;> first | exact linkReset_link l s | rfl

theorem suspendLink_link (b : Bool) (s : State) : (suspendLink b s).lif.link = .suspended b := by
  simp [suspendLink, losePresence_link, setLink]

end Sys2Proof.Machine

section

open Sys2Proof Sys2Proof.Machine Sys2Proof.Safety

/-- Settles O1, by the two cases of the queue. -/
theorem stepRunsFrontCommand : Obligations.StepRunsFrontCommand :=
  ⟨fun c rest s h => by simp [step, h], fun s h => by simp [step, h]⟩

/-- Settles O14, by what the session's start does to READY and the start-up RELEASE. -/
theorem sessionOpens : Obligations.SessionOpens := by
  intro s room
  refine ⟨fun h => ⟨_, ?_, sessionOpens_opensSession _ room⟩, fun h => ⟨_, ?_, sessionOpens_opensSession _ room⟩,
    fun h => ?_, fun h => ?_⟩
  · simp [exec, execInitialisationComplete, h]
  · simp [exec, execResetComplete, h]
  · simp [exec, execInitialisationComplete, h]
  · simp [exec, execResetComplete, h]

/-- Settles O17, by the three branches of the row. -/
theorem controlOutPackets : Obligations.ControlOutPackets := by
  intro bytes s link
  refine ⟨fun phase room => ?_, fun full => ?_⟩
  · have room : ¬ (s.phase = .resetting ∨ 4 ≤ s.msu.commands.length) := by
      rintro (h | h)
      · exact phase h
      · omega
    simp [exec, execControlOutPacket, link, room, answerLink, State.withLif, State.withMsu]
  · simp [exec, execControlOutPacket, link, full, answerLink, State.withLif]

/-- Settles O18, by the layouts of records and the order of the sender. -/
theorem controlInSender : Obligations.ControlInSender := by
  refine ⟨fun r result => ?_, fun n content => rfl, fun s link => ⟨?_, ?_, ?_, ?_, ?_⟩⟩
  · by_cases h : r.status = .ok ∨ r.status = .adjusted
    · simp [Reply.sentWith, Reply.head, Reply.payload, recordBytes, Status.carriesResult, h, Nat.add_comm]
    · simp only [not_or] at h
      simp [Reply.sentWith, Reply.head, Reply.payload, recordBytes, Status.carriesResult, h.1, h.2]
  · intro r hr
    simp [exec, execControlInRequest, link, hr, answerLink, State.withLif]
  · intro ht r rest hr
    simp [exec, execControlInRequest, link, ht, hr, transmit, State.withLif, State.withMsu]
  · intro ht hr n rest hn
    simp [exec, execControlInRequest, link, ht, hr, hn, transmit, State.withLif, State.withMsu]
  · intro ht hr hn
    simp [exec, execControlInRequest, link, ht, hr, hn, answerLink, State.withLif]
  · simp [exec, execControlInAcknowledge, link, State.withLif]

/-- Settles O19, by the taking of a command row: its block refuses and changes nothing, or answers with OK or ADJUSTED. -/
theorem commandsAnsweredOnce : Obligations.CommandsAnsweredOnce := by
  intro c kind tag s hc
  obtain ⟨h, hh, hx⟩ := handlerOf_of_commandOf hc
  rw [hx]
  refine ⟨fun takes => ⟨(h s).status, (h s).result, (h s).answered kind tag, ?_, ?_, fun notOk notAdjusted => ?_⟩,
    fun waits => ?_⟩
  · simp [takeRow, takes]
  · simp [Answered, Handled.answered, handler_replies hh]
  · obtain honest | honest | honest := handler_honest hh s
    · exact absurd honest notOk
    · exact absurd honest notAdjusted
    · rw [honest]
      exact ⟨rfl, rfl⟩
  · simp [takeRow, waits]

/-- Settles O20, by what the payload of each row hands over. -/
theorem recordsRunTheirRows : Obligations.RecordsRunTheirRows := by
  intro flags c bytes rest s hbytes wf takes hr
  unfold recordOf at hbytes
  split at hbytes
  · rename_i kind tag payload hc hp
    obtain rfl := Option.some.inj hbytes
    obtain ⟨h, hh, hx⟩ := handlerOf_of_commandOf hc
    obtain ⟨⟨least, most, hk, hl, hm, small⟩, hd⟩ := dispatch_payload hc hp wf hh (s.withMsu { s.msu with commands := rest })
    rw [execTakeCommand_of_record takes hr, hx]
    have length : (half ((BitVec.ofNat 16 payload.length).extractLsb' 0 8)
        ((BitVec.ofNat 16 payload.length).extractLsb' 8 8)).toNat = payload.length := by
      rw [half_halfBytes, BitVec.toNat_ofNat]
      omega
    have taken := takeRecord_of_fits (tag := tag) (flags := flags) (s.withMsu { s.msu with commands := rest }) hk length hl hm
    rw [hd] at taken
    refine congrArg Host.Outcome.next (taken.trans (if_pos ?_).symm)
    exact takes
  · exact nomatch hbytes

/-- Settles O21, by the checks of R7 in their order. -/
theorem framingChecks : Obligations.FramingChecks := by
  intro bytes rest s takes hr
  rw [execTakeCommand_of_record takes hr]
  refine ⟨fun bad => ?_, fun kind tag flags low high payload hb => ⟨fun unknown => ?_, fun least most known wrong => ?_⟩⟩
  · unfold takeRecord
    split
    · rename_i cls kind tag flags low high payload
      have : cls ≠ 1 := by
        rintro rfl
        rcases bad with short | other
        · simp only [List.length_cons] at short
          omega
        · exact other rfl
      rw [if_pos this]
      rfl
    · rfl
  · subst hb
    simp [takeRecord, unknown]
    rfl
  · subst hb
    have wrong : ¬ ((half low high).toNat = payload.length ∧ least ≤ payload.length ∧ payload.length ≤ most) := by omega
    simp [takeRecord, known, wrong]
    rfl

/-- Settles O22, by the cases of R10 and R11. -/
theorem noticeQueueing : Obligations.NoticeQueueing := by
  refine ⟨fun new queued => ⟨fun h => ?_, ?_⟩, fun b s phase => ⟨(reaches_notify b s).frame, fun code masked => ?_, fun open_ => ?_⟩⟩
  · unfold NoticeBody.coalesces at h
    split at h
    · exact .inl ⟨_, _, _, _, rfl, rfl⟩
    · obtain rfl := eq_of_beq h
      exact .inr (.inl ⟨_, _, _, _, _, _, _, rfl, rfl⟩)
    · exact .inr (.inr ⟨_, _, _, _, rfl, rfl, eq_of_beq h⟩)
    · exact nomatch h
  · rintro (⟨a, b, x, y, rfl, rfl⟩ | ⟨id, a, b, c, d, e, f, rfl, rfl⟩ | ⟨m, n, e, f, rfl, rfl, h⟩) <;>
      simp [NoticeBody.coalesces, *]
  · have masked : s.msu.masked b = true := by simp [Msu.masked, code, masked]
    simp [notify, phase, Msu.enqueue, masked]
  · have open_ : s.msu.masked b = false := by
      simp only [Msu.masked]
      rcases open_ with h | h <;> simp [h]
    have hn : (notify b s).msu = s.msu.enqueue b := by simp [notify, phase]
    rw [hn]
    refine ⟨fun before q after hq matches_ first => ?_, fun apart => ⟨fun full => ?_, fun room => ?_⟩⟩
    · have any : s.msu.notices.any (fun q => b.coalesces q.body) = true := by simp [hq, matches_]
      simp [Msu.enqueue, open_, any]
      rw [hq, replaceFirst_append _ _ before q after first matches_]
    · have any : s.msu.notices.any (fun q => b.coalesces q.body) = false := by simpa using apart
      simp [Msu.enqueue, open_, any, full]
    · have any : s.msu.notices.any (fun q => b.coalesces q.body) = false := by simpa using apart
      simp [Msu.enqueue, open_, any, Nat.not_le.mpr room]

/-- Settles O2: the blocks' laws at reset, one by one; every list of records is one record repeated. -/
theorem resetMeetsEveryLaw : Obligations.ResetMeetsEveryLaw := by
  refine ⟨⟨by decide, ?clock, by decide, by decide, ?ports, ?routes, by decide, by decide, ?output, by decide, ?bindings,
    by decide⟩, by decide⟩
  case clock =>
    exact ⟨by decide, by decide, by decide, by decide, by decide, by decide, by decide⟩
  case ports =>
    have powerOn : PortSound .r48 .free .absent (Port.powerOn false) := by decide
    refine ⟨by decide, fun i hi => ?_, by decide⟩
    obtain rfl | rfl | rfl | rfl : i = 0 ∨ i = 1 ∨ i = 2 ∨ i = 3 := by omega
    all_goals exact powerOn
  case routes =>
    refine ⟨List.length_replicate, List.length_replicate, by decide, fun r hr => ?_, ?_, by decide +kernel⟩
    · obtain rfl : r = Route.freeEntry := List.eq_of_mem_replicate hr
      exact ⟨fun _ => rfl, fun h => absurd rfl h, by decide, by decide⟩
    · exact List.pairwise_replicate.mpr (.inr fun h => h.1 rfl)
  case output =>
    refine ⟨fun q _ => ?_, by decide, by decide, by decide⟩
    cases q <;> exact ⟨by decide, fun f hf => absurd hf List.not_mem_nil, by decide⟩
  case bindings =>
    have free : ∀ x, (State.reset.rme.level x).holder = none := by
      rintro (id | b)
      · exact congrArg (fun r => r.level.holder) (getD_replicate 128 id Route.freeEntry)
      · exact congrArg GainRec.holder (getD_replicate 8 b GainRec.busPowerOn)
    refine ⟨List.length_replicate, List.length_replicate, List.length_replicate, fun b hb => ?_, ?_,
      fun id _ c hc => ?_, fun n _ c hc => ?_⟩
    · obtain rfl : b = Binding.emptyEntry := List.eq_of_mem_replicate hb
      exact ⟨by decide, fun h => absurd rfl h, fun h => nomatch h⟩
    · exact List.pairwise_replicate.mpr (.inr fun h => absurd rfl h)
    · rw [free] at hc
      exact nomatch hc
    · rw [free] at hc
      exact nomatch hc

/-- Settles O13: the blocks one by one; the line driver by the frame that the RESET cut short. -/
theorem powerOnAndReset : Obligations.PowerOnAndReset := by
  intro tag s
  refine ⟨⟨_, rfl, rfl, rfl, rfl, rfl, rfl, rfl, rfl, rfl, rfl, rfl, rfl, rfl, rfl, rfl, rfl⟩, fun takes => ?_, ?_⟩
  · refine ⟨(handleReset s).answered 0x02 tag, by simp [exec, execReset, takeRow, takes], rfl, rfl, rfl, rfl,
      ⟨rfl, rfl, rfl, rfl, rfl, rfl, rfl, rfl, rfl, rfl⟩, ⟨_, rfl, fun idle => ?_⟩, fun x hx sending cut micros => ?_⟩
    · cases ht : s.sbc.txn with
      | none => simp [Sbc.sendingFrame, ht]
      | some x => simp_all [Sbc.sendingFrame, State.txnPhase, Option.filter]
    · refine Sbc.lineDriver_afterCut _ x.frame cut micros rfl rfl ?_
      show s.sbc.sendingFrame.or s.sbc.cutShort = some x.frame
      simp [Sbc.sendingFrame, hx, sending]
  · intro p hp
    obtain rfl : p = Port.powerOn false := List.eq_of_mem_replicate hp
    exact ⟨rfl, rfl⟩

/-- Settles O15, row by row: the link state that each leads to, and that it is all that changes. -/
theorem linkStateTable : Obligations.LinkStateTable := by
  intro c s hc
  have frame (l : LinkState) : KeepsBut [.link, .answer] s (setLink l s) := ((reaches_setLink l s).to).frame
  have still : KeepsBut [.link, .answer] s s := (Reaches.refl s).frame
  rcases hc with hc | ⟨v, rfl⟩ | ⟨r, rfl⟩
  · simp only [List.mem_cons, List.not_mem_nil, or_false] at hc
    rcases hc with rfl | rfl | rfl | rfl | rfl <;> refine ⟨_, rfl, ?_, ?_, by simp⟩ <;>
      rcases hl : s.lif.link with _ | _ | _ | _ | _
    all_goals first
      | simp [hl, linkAfter, leaveLink_link, suspendLink_link, setLink]; done
      | simp [linkLeft]; done
      | simpa [hl, linkLeft] using still
      | simpa [hl, linkLeft] using frame _
      | simpa [hl, linkLeft, leaveLink] using frame _
  · have other (l : LinkState) (h0 : v ≠ 0) (h1 : v ≠ 1) : linkAfter (.selectConfiguration v) l = l := by
      unfold linkAfter
      split <;> simp_all
    have left (l : LinkState) (h : v ≠ 0 ∨ l ≠ .configured) : linkLeft (.selectConfiguration v) l = false := by
      unfold linkLeft
      split <;> simp_all
    refine ⟨_, rfl, ?_⟩
    by_cases open_ : s.answersSetup = true
    · rw [if_pos open_]
      have linked : s.lif.link = .attached ∨ s.lif.link = .configured := by simpa [State.answersSetup] using open_
      by_cases h0 : v = 0
      · subst h0
        refine ⟨?_, fun notLeft => ?_, fun _ => ⟨?_, by simp⟩⟩
        · rcases linked with h | h <;> simp [h, linkAfter, answerLink, leaveLink_link]
        · have h : s.lif.link = .attached := linked.resolve_right fun h => by simp [h, linkLeft] at notLeft
          have := ((reaches_setLink .attached s).andThen (reaches_answerLink .accepted _) (rs := [.link, .answer])).frame
          simpa [leaveLink, h] using this
        · rintro _ ⟨⟩
          rfl
      · by_cases h1 : v = 1
        · subst h1
          refine ⟨?_, fun _ => ?_, fun _ => ⟨?_, by simp⟩⟩
          · rcases linked with h | h <;> simp [h, linkAfter, answerLink, setLink]
          · exact ((reaches_setLink .configured s).andThen (reaches_answerLink .accepted _) (rs := [.link, .answer])).frame
          · rintro _ ⟨⟩
            rfl
        · have high : 2 ≤ v.toNat := by bv_omega
          rw [other _ h0 h1]
          split
          · omega
          · omega
          · refine ⟨rfl, fun _ => ((reaches_answerLink .stall s).to).frame, fun _ => ⟨?_, by simp⟩⟩
            rintro _ ⟨⟩
            rw [if_neg (by omega)]
            rfl
    · rw [if_neg open_]
      have shut : s.lif.link ≠ .attached ∧ s.lif.link ≠ .configured := by simpa [State.answersSetup] using open_
      refine ⟨?_, fun _ => still, fun h => absurd h (by simp [shut])⟩
      unfold linkAfter
      split <;> simp_all
  · refine ⟨_, rfl, ?_, fun _ => ?_, fun open_ => ⟨by simp, fun _ _ => ?_⟩⟩
    · split <;> rfl
    · exact (Reaches.ite (fun _ => (reaches_answerLink .accepted s).to) fun _ => .refl s).frame
    · have open_ : s.answersSetup = true := by simpa [State.answersSetup] using open_
      rw [if_pos open_]
      rfl

/-- Settles O23, by the table of lamps and the three rows. -/
theorem msuCommands : Obligations.MsuCommands := by
  refine ⟨fun s => ⟨rfl, rfl, rfl, ?_, ?_, ?_, ?_, ?_, ?_, ?_⟩, fun tag lampA lampB mask s takes => ⟨?_, ?_, ?_, ?_⟩⟩
  · simp [State.lampLit]
  · simp [State.lampLit]
  · cases hc : s.cku.clock <;> simp [State.lampLit, hc]
  · simp [State.lampLit]
  · simp [State.lampLit]
  · simp [State.lampLit]
  · simp [State.lampLit]
  · simp [exec, execIdentify, takeRow, takes, handleIdentify, accept, Handled.answered]
  · simp only [exec, execNoticeMask, takeRow, takes, if_true, handleNoticeMask]
    split <;> rfl
  · intro a b ha hb
    simp only [exec, execLampSet, takeRow, takes, if_true, handleLampSet, ha, hb]
    exact ⟨rfl, rfl, rfl⟩
  · intro bad
    have refused : handleLampSet lampA lampB s = refuse s .outOfRange := by
      unfold handleLampSet
      split
      · rename_i ha hb
        have small {x : Byte} {l : LampCondition} (h : lampOf x = some l) : x.toNat < 7 := by
          unfold lampOf at h
          split at h <;> first | omega | exact nomatch h
        have := small ha
        have := small hb
        omega
      · rfl
    simp [exec, execLampSet, takeRow, takes, refused, refuse, Handled.answered]

end

end

section
/-! PROOFS. Reading the part, ranges and the meter commands: the codes out of range (R202), numbered lists, and the obligations on
the commands that read, on range refusals and on the meter commands (06, section 6.7). -/

namespace Sys2Proof.Machine

open Sys2Proof.Safety

/-! ## Rows taken -/

/-- R6: a command row that the MSU may take is answered by what its block makes of it. -/
theorem exec_taken {c : Instr} {kind tag : Byte} {h : State → Handled} {s : State} (hc : commandOf c = some (kind, tag))
    (hh : handlerOf c = some h) (takes : s.takes = true) : exec c s = .next ((h s).answered kind tag) := by
  obtain ⟨h', hh', hx⟩ := handlerOf_of_commandOf hc
  obtain rfl : h = h' := Option.some.inj (hh.symm.trans hh')
  rw [hx]
  exact congrArg Host.Outcome.next (if_pos takes)

theorem exec_refused {c : Instr} {kind tag : Byte} {h : State → Handled} {s : State} {st : Status}
    (hc : commandOf c = some (kind, tag)) (hh : handlerOf c = some h) (takes : s.takes = true) (refused : h s = refuse s st) :
    exec c s = .next (queueReply ⟨kind, tag, st, none⟩ s) := by
  rw [exec_taken hc hh takes, refused]
  rfl

/-! ## Codes in and out of range (R202) -/

section
variable {b : Byte}

theorem flagOf_of_ge (h : 2 ≤ b.toNat) : flagOf b = none := by
  unfold flagOf
  split <;> first | omega | rfl

theorem streamOf_of_ge (h : 2 ≤ b.toNat) : streamOf b = none := by
  unfold streamOf
  split <;> first | omega | rfl

theorem portModeOf_of_ge (h : 2 ≤ b.toNat) : portModeOf b = none := by
  unfold portModeOf
  split <;> first | omega | rfl

theorem sendKindOf_of_ge (h : 2 ≤ b.toNat) : sendKindOf b = none := by
  unfold sendKindOf
  split <;> first | omega | rfl

theorem priorityOf_of_ge (h : 2 ≤ b.toNat) : priorityOf b = none := by
  unfold priorityOf
  split <;> first | omega | rfl

theorem restOf_of_ge (h : 2 ≤ b.toNat) : restOf b = none := by
  unfold restOf
  split <;> first | omega | rfl

theorem slotsOf_of_not_mem (h : b.toNat ∉ [2, 4, 8, 16]) : slotsOf b = none := by
  unfold slotsOf
  split <;> simp_all

theorem indexBelow_of_lt {n : Nat} (h : b.toNat < n) : indexBelow n b = some b.toNat := if_pos h
theorem indexBelow_of_ge {n : Nat} (h : n ≤ b.toNat) : indexBelow n b = none := if_neg (Nat.not_lt.mpr h)
theorem twoFlagsOf_of_ge (h : 4 ≤ b.toNat) : twoFlagsOf b = none := if_neg (Nat.not_lt.mpr h)
theorem routeFlagsOf_of_ge (h : 8 ≤ b.toNat) : routeFlagsOf b = none := if_neg (Nat.not_lt.mpr h)

theorem gainOf_of_low {g : Half} (off : g.toNat ≠ 0x8000) (low : g.toInt < -1200) : gainOf g = none := by
  simp [gainOf, off, low]

theorem sourcePointOf_of_not_within {x : PointCode}
    (h : ¬ (x.kind.toNat = 0 ∧ x.index.toNat ≤ 31 ∨ x.kind.toNat = 1 ∧ x.index.toNat ≤ 63 ∨
      x.kind.toNat = 2 ∧ x.index.toNat ≤ 7)) : sourcePointOf x = none := by
  simp only [sourcePointOf, pointOf]
  split <;> first | rfl | (split <;> first | rfl | omega)

theorem destPointOf_of_not_within {x : PointCode}
    (h : ¬ (x.kind.toNat = 3 ∧ x.index.toNat ≤ 31 ∨ x.kind.toNat = 4 ∧ x.index.toNat ≤ 63 ∨
      x.kind.toNat = 5 ∧ x.index.toNat ≤ 7)) : destPointOf x = none := by
  simp only [destPointOf, pointOf]
  split <;> first | rfl | (split <;> first | rfl | omega)

/-- The flags of a flag byte below 4. -/
theorem twoFlagsOf_of_lt (h : b.toNat < 4) : twoFlagsOf b = some (decide (b.toNat % 2 = 1), decide (2 ≤ b.toNat)) := by
  have bits : ∀ b : Byte, b.toNat < 4 →
      b.getLsbD 0 = decide (b.toNat % 2 = 1) ∧ b.getLsbD 1 = decide (2 ≤ b.toNat) := by decide +kernel
  rw [twoFlagsOf, if_pos h, (bits b h).1, (bits b h).2]

end

/-! ## Numbered lists -/

/-- The places of a list with what stands there. -/
theorem numbered_eq_map_range (xs : List α) (d : α) : numbered 0 xs = (List.range xs.length).map (fun i => (i, xs.getD i d)) := by
  have shifted : ∀ (n : Nat) (xs : List α), numbered n xs = (List.range xs.length).map (fun i => (n + i, xs.getD i d)) := by
    intro n xs
    induction xs generalizing n with
    | nil => rfl
    | cons x rest ih =>
      simp only [numbered, ih, List.length_cons, List.range_succ_eq_map, List.map_cons, List.map_map]
      congr 1
      refine List.map_congr_left fun i _ => ?_
      simp only [Function.comp_apply, List.getD_cons_succ, Prod.mk.injEq, and_true]
      omega
  simpa using shifted 0 xs

/-- Every record changed by its place. -/
theorem getD_map_numbered {xs : List α} {i : Nat} (hi : i < xs.length) (f : Nat × α → β) (d : α) (e : β) :
    ((numbered 0 xs).map f).getD i e = f (i, xs.getD i d) := by
  simp [numbered_eq_map_range xs d, hi]

theorem filterMap_ite (p : α → Bool) (g : α → β) (xs : List α) :
    xs.filterMap (fun x => if p x then some (g x) else none) = (xs.filter p).map g := by
  induction xs with
  | nil => rfl
  | cons x rest ih => by_cases h : p x <;> simp [h, ih]

/-- The places of a run within a list. -/
theorem filter_range_inRange {first count n : Nat} (h : first + count ≤ n) :
    (List.range n).filter (inRange first count) = (List.range count).map (first + ·) := by
  obtain ⟨m, rfl⟩ := Nat.exists_eq_add_of_le h
  rw [List.range_add, List.range_add, List.filter_append, List.filter_append]
  have before : (List.range first).filter (inRange first count) = [] := by
    simp only [List.filter_eq_nil_iff, List.mem_range, inRange, Bool.and_eq_true, decide_eq_true_eq]
    omega
  have within : ((List.range count).map (first + ·)).filter (inRange first count) = (List.range count).map (first + ·) := by
    simp only [List.filter_eq_self, List.mem_map, List.mem_range, inRange, Bool.and_eq_true, decide_eq_true_eq]
    omega
  have after : ((List.range m).map (first + count + ·)).filter (inRange first count) = [] := by
    simp only [List.filter_eq_nil_iff, List.mem_map, List.mem_range, inRange, Bool.and_eq_true, decide_eq_true_eq]
    omega
  rw [before, within, after, List.nil_append, List.append_nil]

/-! ## The route list (R108) -/

/-- The non-FREE entries from an id on, by their ids. -/
theorem listed_eq {m : Rme} (h : m.routes.length = 128) (start : Nat) :
    m.listed start = ((List.range 128).filter (fun id => decide (start ≤ id ∧ (m.route id).state ≠ .free))).map
      (fun id => (m.route id).report id) := by
  rw [Rme.listed, numbered_eq_map_range m.routes Route.freeEntry, h, List.filterMap_map]
  have same : ∀ id, (decide (start ≤ id) && (m.route id).state != .free) =
      decide (start ≤ id ∧ (m.route id).state ≠ .free) := by
    intro id
    by_cases hs : (m.route id).state = .free <;> simp [hs]
  exact (congrArg (List.filterMap · _) (funext fun id => by simp only [Function.comp_apply, ← same id]; rfl)).trans
    (filterMap_ite _ _ _)

/-- R108: the next page starts beyond the last id listed, and not beyond the next non-FREE one (log 35). -/
theorem nextPage_bounds {listed : List RouteReport} {last more : RouteReport} (hl : listed[15]? = some last)
    (hm : listed[16]? = some more) (h : last.id < more.id) :
    last.id < nextPage listed ∧ nextPage listed ≤ more.id := by
  have := Nat.mod_lt (Config.nextPage last.id more.id) (Nat.sub_pos_of_lt h)
  simp only [nextPage, hl, hm]
  omega

end Sys2Proof.Machine

section

open Sys2Proof Sys2Proof.Machine Sys2Proof.Safety

/-- Settles O54, row by row: the field out of range names nothing, and its row's block refuses it first. -/
theorem rangeRefusals : Obligations.RangeRefusals := by
  intro tag a b c d e f source destination gain data s takes
  refine ⟨fun h => ?_, fun h => ?_, fun h => ?_, fun h => ?_, fun h => ?_, fun h => ⟨?_, ?_⟩, fun h => ?_, fun h => ⟨?_, ?_⟩,
    fun h => ?_, fun h => ?_, fun fits h => ?_, fun h => ?_, fun h => ?_⟩ <;> refine exec_refused rfl rfl takes ?_
  · rcases h with h | h | h | h
    · simp [handleRouteAdd, sourcePointOf_of_not_within h]
    · simp [handleRouteAdd, destPointOf_of_not_within h]
    · simp [handleRouteAdd, gainOf_of_low h.1 h.2]
    · simp [handleRouteAdd, routeFlagsOf_of_ge h]
  · rcases h with h | h
    · simp [handleRouteSetGain, indexBelow_of_ge h]
    · simp [handleRouteSetGain, gainOf_of_low h.1 h.2]
  · rcases h with h | h
    · simp [handleRouteSetMute, indexBelow_of_ge h]
    · simp [handleRouteSetMute, flagOf_of_ge h]
  · unfold handleBusSet
    split
    · rename_i n ag am hn hf
      have ha : a.toNat < 8 := by
        by_contra high
        simp [indexBelow_of_ge (Nat.not_lt.mp high)] at hn
      have hb : b.toNat < 4 := by
        by_contra high
        simp [twoFlagsOf_of_ge (Nat.not_lt.mp high)] at hf
      rw [twoFlagsOf_of_lt hb] at hf
      obtain ⟨rfl, rfl⟩ : decide (b.toNat % 2 = 1) = ag ∧ decide (2 ≤ b.toNat) = am := by simpa using hf
      have none_ : busValuesOf (decide (b.toNat % 2 = 1)) (decide (2 ≤ b.toNat)) gain c = none := by
        rcases h with h | h | ⟨odd, off, low⟩ | ⟨two, high⟩
        · omega
        · omega
        · simp [busValuesOf, odd, gainOf_of_low off low]
        · simp [busValuesOf, two, flagOf_of_ge high]
      simp [none_]
    · rfl
  · rcases h with h | h | h
    · simp [handlePortConfig, indexBelow_of_ge h]
    · simp [handlePortConfig, portModeOf_of_ge h]
    · simp [handlePortConfig, slotsOf_of_not_mem h]
  · simp [handlePortStart, indexBelow_of_ge h]
  · simp [handlePortStop, indexBelow_of_ge h]
  · rcases h with h | h
    · simp [handlePortMute, indexBelow_of_ge h]
    · simp [handlePortMute, flagOf_of_ge h]
  · simp [handleStreamStart, streamOf_of_ge h]
  · simp [handleStreamStop, streamOf_of_ge h]
  · rcases h with h | h
    · simp [handleMeterAssign, indexBelow_of_ge h]
    · simp [handleMeterAssign, meterFieldsOf, twoFlagsOf_of_ge h]
  · simp [handleMeterRead, flagOf_of_ge h]
  · rw [if_pos fits]
    rcases h with h | h | h | h | h | ⟨hb, hd⟩
    · simp [handleSurfaceSend, hostFrameOf, indexBelow_of_ge h]
    · simp [handleSurfaceSend, hostFrameOf, sendKindOf_of_ge h]
    · simp [handleSurfaceSend, hostFrameOf, priorityOf_of_ge h]
    · simp [handleSurfaceSend, hostFrameOf, indexBelow_of_ge h]
    · simp [handleSurfaceSend, hostFrameOf, flagOf_of_ge h]
    · have kind : sendKindOf b = some .setControl := by simp [sendKindOf, hb]
      have bad : sendDataOk .setControl data = false := by
        unfold sendDataOk
        split <;> simp_all
      have none_ : hostFrameOf tag a b c d e data = none := by
        unfold hostFrameOf
        rw [kind]
        split
        · rename_i hk _ _ _
          obtain rfl := Option.some.inj hk
          rw [if_neg (by simp [bad])]
        · rfl
      simp [handleSurfaceSend, none_]
  · rcases h with h | h | h
    · simp [handleFaderConfig, indexBelow_of_ge h]
    · simp [handleFaderConfig, faderSettingsOf, flagOf_of_ge h]
    · simp [handleFaderConfig, faderSettingsOf, restOf_of_ge h]
  · simp [handleFaderMove, indexBelow_of_ge h]

/-- Settles O45, row by row; a page of ROUTE_LIST by the ids it lists, which ascend. -/
theorem statusReads : Obligations.StatusReads := by
  intro tag n s takes
  refine ⟨?_, fun h => ?_, fun h => ?_, fun h => ?_, fun h => ?_, fun h => ?_, fun h => ?_, fun h hm => ?routes, ?_, ?_,
    fun h => ?_, fun h => ?_⟩
  case routes =>
    dsimp only
    have reports := listed_eq hm n.toNat
    generalize hids : (List.range 128).filter (fun id => decide (n.toNat ≤ id ∧ (s.rme.route id).state ≠ .free)) = ids
      at reports ⊢
    refine ⟨nextPage (s.rme.listed n.toNat), fun id => Config.absentTarget id (s.rme.route id).level.coeff, ?_, fun short => ?_,
      fun last more hl hmore => ?_⟩
    · refine (exec_taken rfl rfl takes).trans ?_
      have level (absent : Nat) (l : GainRec) : l.report absent = ⟨l.gain, l.mute, l.coeff,
          (l.ramp.map (fun m => m.target)).getD absent, (l.ramp.map (fun m => m.length - m.step)).getD 0, l.holder⟩ := by
        cases hr : l.ramp <;> simp [GainRec.report, hr]
      have buses : busReport = fun l : GainRec => ⟨l.gain, l.mute, l.coeff, (l.ramp.map (fun m => m.target)).getD 0,
          (l.ramp.map (fun m => m.length - m.step)).getD 0, l.holder⟩ := funext (level 0)
      simp only [handleRouteList, indexBelow_of_lt h, reports, List.length_map, ← List.map_take, buses, Route.report, level]
      rfl
    · simp [nextPage, reports, show ids[16]? = none from List.getElem?_eq_none short]
    · have ascending : last < more := by
        obtain ⟨h15, rfl⟩ := List.getElem?_eq_some_iff.mp hl
        obtain ⟨h16, rfl⟩ := List.getElem?_eq_some_iff.mp hmore
        have sorted : ids.Pairwise (· < ·) := hids ▸ List.pairwise_lt_range.filter _
        exact List.pairwise_iff_getElem.mp sorted 15 16 h15 h16 (by omega)
      exact nextPage_bounds (last := (s.rme.route last).report last) (more := (s.rme.route more).report more)
        (by simp [reports, hl]) (by simp [reports, hmore]) ascending
  · refine (exec_taken rfl rfl takes).trans ?_
    have left : s.cku.timerLeft = if s.cku.clock = .switching then s.cku.lockTimer.getD 0 + s.cku.settleTimer.getD 0
        else if s.cku.clock = .holdover then s.cku.holdoverTimer.getD 0 else 0 := by
      cases hc : s.cku.clock <;> simp [Cku.timerLeft, hc]
    simp only [handleClockStatus, left]
    rfl
  · exact exec_refused rfl rfl takes (by simp [handleStreamStatus, streamOf_of_ge h])
  · refine (exec_taken rfl rfl takes).trans ?_
    simp only [handleStreamStatus, show streamOf n = some .playback by simp [streamOf, h]]
    rfl
  · refine (exec_taken rfl rfl takes).trans ?_
    simp only [handleStreamStatus, show streamOf n = some .capture by simp [streamOf, h]]
    rfl
  · exact exec_refused rfl rfl takes (by simp [handlePortStatus, indexBelow_of_ge h])
  · refine (exec_taken rfl rfl takes).trans ?_
    have reset (p : Port) : p.resetLine = decide (p.state = .off ∨ p.state = .starting ∨ p.state = .conflict) := by
      cases hp : p.state <;> simp [Port.resetLine, hp]
    have mute (p : Port) : p.muteLine = decide (p.state ≠ .running ∨ p.mute = true) := by
      cases hp : p.state <;> simp [Port.muteLine, hp]
    simp only [handlePortStatus, indexBelow_of_lt h, Port.status, reset, mute]
    rfl
  · exact exec_refused rfl rfl takes (by simp [handleRouteList, indexBelow_of_ge h])
  · exact (exec_taken rfl rfl takes).trans rfl
  · exact (exec_taken rfl rfl takes).trans rfl
  · exact exec_refused rfl rfl takes (by simp [handleFaderStatus, indexBelow_of_ge h])
  · refine (exec_taken rfl rfl takes).trans ?_
    simp only [handleFaderStatus, indexBelow_of_lt h]
    rfl

/-- Settles O44: METER_ASSIGN by its flags, the other two slot by slot. -/
theorem meterCommands : Obligations.MeterCommands := by
  refine ⟨fun tag slot address position point p a n s takes hslot slots hp ha hn => ?assign,
    fun tag holdTime first count clear set b s takes slots => ⟨?subscribe, fun bad => ?refused, fun hb hf hc hfc => ?read⟩⟩
  case assign =>
    have index := indexBelow_of_lt hslot
    have taken (d : Nat × Nat) : s.rme.displayTaken slot.toNat d = true ↔
        ∃ m < 64, m ≠ slot.toNat ∧ (s.rme.slot m).display = some d := by
      simp [Rme.displayTaken, numbered_eq_map_range s.rme.slots MeterSlot.powerOn, slots, Rme.slot]
    have both : meterFieldsOf 3#8 point address position = some (some p, some (a, n)) := by
      simp [meterFieldsOf, twoFlagsOf_of_lt, hp, ha, hn]
    refine ⟨?_, ?_, fun clash => ?_, fun free => ?_, ?_⟩
    · refine (exec_taken rfl rfl takes).trans ?_
      simp [handleMeterAssign, index, meterFieldsOf, twoFlagsOf, MeterSlot.reassigned, MeterSlot.unassigned, MeterSlot.powerOn,
        accept, Handled.answered, State.withRme]
    · refine (exec_taken rfl rfl takes).trans ?_
      by_cases same : (s.rme.slot slot.toNat).point = some p <;>
        simp [handleMeterAssign, index, meterFieldsOf, twoFlagsOf, hp, MeterSlot.reassigned, MeterSlot.assigned, same,
          accept, Handled.answered, State.withRme]
    · have clash := (taken (a, n)).mpr clash
      exact exec_refused rfl rfl takes (by simp [handleMeterAssign, index, both, clash])
    · have free : s.rme.displayTaken slot.toNat (a, n) = false := by
        rw [Bool.eq_false_iff, ne_eq, taken]
        rintro ⟨m, hm, other, shown⟩
        exact free m hm other shown
      refine (exec_taken rfl rfl takes).trans ?_
      by_cases same : (s.rme.slot slot.toNat).point = some p <;>
        simp [handleMeterAssign, index, both, free, MeterSlot.reassigned, MeterSlot.assigned, same,
          accept, Handled.answered, State.withRme]
    · exact exec_refused rfl rfl takes (by simp [handleMeterAssign, index, meterFieldsOf, twoFlagsOf])
  case subscribe =>
    refine ⟨_, exec_taken rfl rfl takes, rfl, fun q hq => ?_, rfl, by simp [handleMeterSubscribe, accept, Handled.answered, queueReply, slots],
      fun n hn => ?_⟩
    · cases q <;> simp_all [Part.same, handleMeterSubscribe, accept, Handled.answered, queueReply]
    · exact getD_map_numbered (by omega) _ MeterSlot.powerOn MeterSlot.powerOn
  case refused =>
    refine exec_refused rfl rfl takes ?_
    unfold handleMeterRead
    simp only []
    split
    · rfl
    · exact if_pos (by omega)
  case read =>
    have inside : ¬ (63 < first.toNat ∨ count.toNat < 1 ∨ 64 < first.toNat + count.toNat) := by omega
    have handled : handleMeterRead first count clear s = accept
        (s.withRme { s.rme with slots := (numbered 0 s.rme.slots).map (fun (n, x) =>
          if b && inRange first.toNat count.toNat n then x.cleared else x) })
        (some (.meters ((numbered 0 s.rme.slots).filterMap (fun (n, x) =>
          if inRange first.toNat count.toNat n then some (x.report n) else none)))) := by
      simp only [handleMeterRead, hb, if_neg inside]
    refine ⟨_, exec_taken rfl rfl takes, fun q hq => ?_, ?_, ?_, ?_, fun n hn => ?_⟩ <;> rw [handled]
    · cases q <;> simp_all [Part.same, accept, Handled.answered, queueReply]
    · have entries : (numbered 0 s.rme.slots).filterMap (fun (m, x) =>
          if inRange first.toNat count.toNat m then some (x.report m) else none) =
          (List.range count.toNat).map (fun k => (s.rme.slot (first.toNat + k)).report (first.toNat + k)) := by
        rw [numbered_eq_map_range s.rme.slots MeterSlot.powerOn, List.filterMap_map, slots]
        exact (filterMap_ite (inRange first.toNat count.toNat) (fun k => (s.rme.slot k).report k) _).trans
          (by rw [filter_range_inRange hfc, List.map_map]; rfl)
      rw [entries]
      rfl
    · rfl
    · simp [accept, Handled.answered, queueReply, slots]
    · refine (getD_map_numbered (by omega) _ MeterSlot.powerOn MeterSlot.powerOn).trans ?_
      by_cases hr : b = true ∧ first.toNat ≤ n ∧ n < first.toNat + count.toNat
      · rw [if_pos hr]
        simp only [inRange, hr, decide_true, Bool.and_self, if_true]
        rfl
      · rw [if_neg hr]
        exact if_neg (by simpa [inRange] using hr)

end

end

section
/-! PROOFS. The scheduler's law (07, section 7.4): what the offer depends on, that a row ends with the scheduler or leaves the offer
as it was, and the obligation assembled from these. -/

namespace Sys2Proof.Machine

open Sys2Proof.Safety

/-! ## What the offer depends on -/

/-- The scheduler looks at the phase, at six fields of the bus, and at the three queues. -/
structure SameOffer (s t : State) : Prop where
  phase : t.phase = s.phase
  bus : t.sbc.bus = s.sbc.bus
  free : t.sbc.free = s.sbc.free
  txn : t.sbc.txn.isNone = s.sbc.txn.isNone
  startUp : t.sbc.startUp = s.sbc.startUp
  roundList : t.sbc.roundList = s.sbc.roundList
  search : t.sbc.search = s.sbc.search
  urgent : t.sou.urgent = s.sou.urgent
  normal : t.sou.normal = s.sou.normal
  meter : t.sou.meter = s.sou.meter

theorem SameOffer.of_keeps {parts : List Part} {s t : State} (h : KeepsBut parts s t) (phase : Part.phase ∉ parts := by decide)
    (sbc : Part.sbc ∉ parts := by decide) (sou : Part.sou ∉ parts := by decide) : SameOffer s t := by
  have hp := h .phase phase
  have hb := h .sbc sbc
  have ho := h .sou sou
  simp only [Part.same] at hp hb ho
  constructor <;> simp [hp, hb, ho]

theorem SameOffer.nothingLeft {s t : State} (h : SameOffer s t) (hs : NothingLeft s) : NothingLeft t := by
  intro picks
  have same : t.offer = s.offer := by simp only [State.offer, h.startUp, h.roundList, h.search, h.urgent, h.normal, h.meter]
  rw [same]
  refine hs ?_
  simpa only [State.mayPick, h.phase, h.bus, h.free, h.txn] using picks

/-- A bus that is not free leaves nothing that it could send. -/
theorem nothingLeft_of_not_free {s : State} (h : s.sbc.free = false) : NothingLeft s := fun picks => by
  simp [State.mayPick, h] at picks

theorem nothingLeft_of_txn {s : State} (h : s.sbc.txn.isSome = true) : NothingLeft s := fun picks => by
  simp only [State.mayPick, Bool.and_eq_true, Option.isNone_iff_eq_none] at picks
  simp [picks.2] at h

theorem nothingLeft_of_bus {s : State} (h : s.sbc.bus ≠ .running) : NothingLeft s := fun picks => by
  simp [State.mayPick, h] at picks

theorem nothingLeft_of_phase {s : State} (h : s.phase ≠ .running) : NothingLeft s := fun picks => by
  simp [State.mayPick, h] at picks

/-- R139: after the scheduler nothing is left. -/
theorem nothingLeft_schedule (s : State) : NothingLeft (schedule s) := by
  obtain ⟨idle, h⟩ | ⟨-, none_, h⟩ | ⟨o, -, -, h⟩ := schedule_cases s <;> rw [h]
  · exact fun picks => by simp [idle] at picks
  · exact fun _ => none_
  · exact nothingLeft_of_not_free (takeOffer_not_free o s)

/-! ## What happens to the bus while a transaction ends -/

/-- Only the search and the round list of the bus differ. -/
def SameBus (b c : Sbc) : Prop := c = { b with search := c.search, roundList := c.roundList }

theorem SameBus.refl (b : Sbc) : SameBus b b := rfl

theorem SameBus.trans {a b c : Sbc} (h : SameBus a b) (h' : SameBus b c) : SameBus a c := by
  unfold SameBus at *
  rw [h', h]

theorem SameBus.free {b c : Sbc} (h : SameBus b c) : c.free = b.free := by rw [h]

theorem sameBus_of_reaches {parts : List Part} {s t : State} (h : Reaches parts s t)
    (sbc : Part.sbc ∉ parts := by decide) : SameBus s.sbc t.sbc := by
  rw [show t.sbc = s.sbc from h.frame .sbc sbc]
  exact .refl _

theorem sameBus_removeModule (a : Nat) (d : ModuleDetail) (s : State) : SameBus s.sbc (removeModule a d s).sbc := by
  cases h : s.mtb.entry a with
  | none =>
    rw [removeModule_of_none d h]
    exact .refl _
  | some e =>
    have listed : SameBus s.sbc (unlist a e d s).sbc := by
      simp only [unlist, notify_eq]
      rfl
    have gone := ((reaches_purge a (unlist a e d s)).andThen (reaches_orphanModule a _) (rs := [.records, .sou, .rme, .bdt]))
    rw [removeModule_of_some d h]
    split
    · exact listed.trans (sameBus_of_reaches gone)
    · exact (listed.trans (sameBus_of_reaches gone)).trans (sameBus_of_reaches (reaches_handFrame ..))

theorem sameBus_setSearch (x : Search) (s : State) : SameBus s.sbc (setSearch x s).sbc := rfl

theorem sameBus_collide (p : Stem) (s : State) : SameBus s.sbc (collide p s).sbc := by
  simp only [collide]
  split
  · exact sameBus_setSearch ..
  · exact (sameBus_setSearch _ s).trans (sameBus_of_reaches (reaches_notify ..))

theorem sameBus_stepResult (r : TxnResult) (s : State) : SameBus s.sbc (stepResult r s).sbc := by
  unfold stepResult
  split
  · unfold callResult
    split
    · exact sameBus_setSearch ..
    · split
      · split
        · exact sameBus_setSearch ..
        · exact sameBus_collide ..
      · exact sameBus_collide ..
    · exact sameBus_collide ..
  · simp only [assignResult]
    split
    · exact sameBus_setSearch ..
    · split
      · exact (sameBus_setSearch _ s).trans (sameBus_of_reaches
          (((reaches_putEntry _ _).andThen (reaches_notify _ _) (rs := [.records, .mtb])).andThen (reaches_reattach ..)
            (rs := [.records, .mtb, .sou, .bdt, .fsv])))
      · exact (sameBus_setSearch _ s).trans (sameBus_removeModule ..)
  · exact sameBus_setSearch ..
  · exact .refl _

/-- R134, R138: the end of a transaction leaves no transaction in flight and the bus not free. -/
theorem sameBus_endTxn (x : Txn) (r : TxnResult) (s : State) :
    SameBus { countResult r s.sbc with txn := none, free := false } (endTxn x r s).sbc := by
  have judged (t : State) : SameBus t.sbc (if x.judges then judgeModule x.frame.address r t else t).sbc := by
    split
    · exact sameBus_of_reaches (reaches_judgeModule ..)
    · exact .refl _
  have events (t : State) : SameBus t.sbc (reportEvents x.frame.address r t).sbc := by
    unfold reportEvents
    split
    · exact sameBus_of_reaches (reaches_takeEvents ..)
    · exact .refl _
  have owner (t : State) : SameBus t.sbc (toOwner x.owner r t).sbc := by
    unfold toOwner
    split
    · exact .refl _
    · exact .refl _
    · exact sameBus_stepResult r t
    · exact sameBus_of_reaches (reaches_frameOutcome ..)
  exact ((judged (s.withSbc _)).trans (events _)).trans (owner _)

theorem nothingLeft_endTxn (x : Txn) (r : TxnResult) (s : State) : NothingLeft (endTxn x r s) :=
  nothingLeft_of_not_free (sameBus_endTxn x r s).free

theorem nothingLeft_endTxnIn {phases : List TxnPhase} {r : TxnResult} {s : State} (h : NothingLeft s) :
    NothingLeft (endTxnIn phases r s) := by
  unfold endTxnIn
  split
  · split
    · exact nothingLeft_endTxn _ _ _
    · exact h
  · exact h

/-! ## The rows -/

theorem setBus_bus (st : BusState) (r : BusReason) (s : State) : (setBus st r s).sbc.bus = st := by
  rw [setBus_eq]
  rfl

section
variable {s : State} (hs : NothingLeft s)
include hs

theorem nothingLeft_unless {c : Prop} [Decidable c] {st : Status} {h : Handled} (hh : NothingLeft h.state) :
    NothingLeft (if c then refuse s st else h).state := by
  split
  · exact hs
  · exact hh

theorem nothingLeft_handleRouteSetGain (id : Byte) (gain : Half) : NothingLeft (handleRouteSetGain id gain s).state := by
  unfold handleRouteSetGain
  split
  · split
    · exact hs
    · exact hs
    · exact nothingLeft_unless hs (nothingLeft_schedule _)
  · exact hs

theorem nothingLeft_handleRouteSetMute (id mute : Byte) : NothingLeft (handleRouteSetMute id mute s).state := by
  unfold handleRouteSetMute
  split
  · split
    · exact hs
    · exact hs
    · exact nothingLeft_schedule _
  · exact hs

theorem nothingLeft_handleBusSet (bus flags : Byte) (gain : Half) (mute : Byte) :
    NothingLeft (handleBusSet bus flags gain mute s).state := by
  unfold handleBusSet
  split
  · split
    · exact hs
    · exact nothingLeft_unless hs (nothingLeft_schedule _)
  · exact hs

theorem nothingLeft_handleSurfaceSetup (enable period lifetime auto : Byte) :
    NothingLeft (handleSurfaceSetup enable period lifetime auto s).state := by
  unfold handleSurfaceSetup
  split
  · exact hs
  · dsimp only [accept]
    split
    · refine nothingLeft_of_bus ?_
      simp [busDisabled, setBus_bus]
    · split
      · exact nothingLeft_schedule _
      · exact SameOffer.nothingLeft (by constructor <;> rfl) hs

theorem nothingLeft_handleSurfaceStatus (clear : Byte) : NothingLeft (handleSurfaceStatus clear s).state := by
  unfold handleSurfaceStatus
  split
  · exact hs
  · dsimp only [accept]
    split
    · exact SameOffer.nothingLeft (by constructor <;> rfl) hs
    · exact hs

theorem nothingLeft_handleDiscover : NothingLeft (handleDiscover s).state := by
  refine nothingLeft_unless hs ?_
  split
  · exact hs
  · exact nothingLeft_schedule _

theorem nothingLeft_handleModuleForget (addresses : List Byte) : NothingLeft (handleModuleForget addresses s).state := by
  unfold handleModuleForget
  split
  · exact hs
  · exact nothingLeft_unless hs (nothingLeft_schedule _)

theorem nothingLeft_handleSurfaceSend (tag address kind priority retries notify : Byte) (data : List Byte) :
    NothingLeft (handleSurfaceSend tag address kind priority retries notify data s).state := by
  unfold handleSurfaceSend
  split
  · exact hs
  · refine nothingLeft_unless hs ?_
    split
    · exact hs
    · exact hs
    · exact nothingLeft_schedule _

theorem nothingLeft_handleSurfaceAbort (selector named : Byte) :
    NothingLeft (handleSurfaceAbort selector named s).state := by
  unfold handleSurfaceAbort
  split
  · exact hs
  · exact nothingLeft_schedule _

theorem nothingLeft_handleSurfaceHistory (limit : Byte) : NothingLeft (handleSurfaceHistory limit s).state :=
  nothingLeft_unless hs (SameOffer.nothingLeft (by constructor <;> rfl) hs)

theorem nothingLeft_handleBindSet (index origin control targetKind targetIndex mode step feedback : Byte) :
    NothingLeft (handleBindSet index origin control targetKind targetIndex mode step feedback s).state := by
  unfold handleBindSet
  split
  · exact nothingLeft_unless hs (nothingLeft_unless hs (nothingLeft_unless hs (nothingLeft_schedule _)))
  · exact hs

end

/-- What a command hands over ends with the scheduler, or leaves the offer as it was. -/
theorem handler_nothingLeft {c : Instr} {h : State → Handled} (hc : handlerOf c = some h) {s : State} (hs : NothingLeft s) :
    NothingLeft (h s).state := by
  have reach := (handler_reaches hc s).frame
  cases c <;> cases hc
  case reset => exact nothingLeft_of_phase (by simp [handleReset, accept, resetBlocks])
  case routeSetGain => exact nothingLeft_handleRouteSetGain hs _ _
  case routeSetMute => exact nothingLeft_handleRouteSetMute hs _ _
  case busSet => exact nothingLeft_handleBusSet hs _ _ _ _
  case surfaceSetup => exact nothingLeft_handleSurfaceSetup hs _ _ _ _
  case surfaceStatus => exact nothingLeft_handleSurfaceStatus hs _
  case discover => exact nothingLeft_handleDiscover hs
  case moduleForget =>
    dsimp only
    split
    · exact nothingLeft_handleModuleForget hs _
    · exact hs
  case surfaceSend =>
    dsimp only
    split
    · exact nothingLeft_handleSurfaceSend hs _ _ _ _ _ _ _
    · exact hs
  case surfaceAbort => exact nothingLeft_handleSurfaceAbort hs _ _
  case surfaceHistory => exact nothingLeft_handleSurfaceHistory hs _
  case bindSet => exact nothingLeft_handleBindSet hs _ _ _ _ _ _ _ _
  all_goals
    dsimp only [reachOf] at reach
    exact (SameOffer.of_keeps reach).nothingLeft hs

/-- An event row ends with the scheduler, makes the bus unable to pick, or leaves the offer as it was. -/
theorem event_nothingLeft {c : Instr} (hc : commandOf c = none) (take : c ≠ .takeCommand) {s t : State}
    (hs : NothingLeft s) (h : exec c s = .next t) : NothingLeft t := by
  have reach := (event_reaches_of_next hc take h).frame
  have scheduled (t : State) : NothingLeft (schedule t) := nothingLeft_schedule t
  have ite {c : Prop} [Decidable c] {a b : State} (ha : c → NothingLeft a) (hb : ¬ c → NothingLeft b) :
      NothingLeft (if c then a else b) := by
    split
    · exact ha ‹_›
    · exact hb ‹_›
  cases c <;> cases hc <;> cases h
  case takeCommand => exact absurd rfl take
  case powerOn => exact nothingLeft_of_phase (by simp [poweredOn, State.reset])
  case initialisationComplete => exact ite (fun _ => scheduled _) fun _ => hs
  case resetComplete => exact ite (fun _ => scheduled _) fun _ => hs
  case evaluateStudioFrame => exact scheduled _
  case meterPeriodEnd => exact ite (fun _ => hs) fun _ => scheduled _
  case pollBoundary =>
    refine ite (fun _ => ite (fun _ => scheduled _) fun _ => ?_) fun _ => hs
    exact SameOffer.nothingLeft (by constructor <;> rfl) hs
  case autoDiscoveryStart => exact ite (fun _ => scheduled _) fun _ => hs
  case busFree => exact ite (fun _ => scheduled _) fun _ => hs
  case frameSendingEnd =>
    split
    · rename_i x hx
      refine ite (fun _ => ite (fun _ => nothingLeft_endTxn _ _ _) fun _ => nothingLeft_of_txn ?_) fun _ => hs
      simp [enterPhase, hx]
    · exact SameOffer.nothingLeft (by constructor <;> rfl) hs
  case replyWindowExpiry => exact ite (fun _ => hs) fun _ => nothingLeft_endTxnIn hs
  case replyCorrupt => exact nothingLeft_endTxnIn hs
  case replyComplete =>
    split
    · refine ite (fun _ => ?_) fun _ => hs
      split
      · exact nothingLeft_endTxn _ _ _
      · exact hs
    · exact hs
  case lineBreakStart => exact nothingLeft_endTxnIn (nothingLeft_of_not_free rfl)
  case lineBreakEnd => exact SameOffer.nothingLeft (by constructor <;> rfl) hs
  case stuckTimerExpiry =>
    refine ite (fun _ => nothingLeft_of_bus ?_) fun _ => hs
    simp [setBus_bus]
  case clearingCheckEnd quiet =>
    have waits : NothingLeft (waitRetry s) := SameOffer.nothingLeft (by constructor <;> rfl) hs
    dsimp only
    split
    · refine ite (fun _ => scheduled _) fun _ => ite (fun _ => ?_) fun _ => nothingLeft_of_bus ?_
      · exact SameOffer.nothingLeft (by constructor <;> rfl) hs
      · simp [setBus_bus]
    · exact ite (fun _ => ite (fun _ => scheduled _) fun _ => waits) fun _ => hs
    · exact hs
    · exact hs
  case faultRetryExpiry => exact ite (fun _ => SameOffer.nothingLeft (by constructor <;> rfl) hs) fun _ => hs
  case frameDelayExpiry => exact scheduled _
  case servoPeriod => exact scheduled _
  case replyStartBit =>
    refine ite (fun _ => SameOffer.nothingLeft ?_ hs) fun _ => hs
    constructor <;> simp [enterPhase]
  case lineCharacter => exact ite (fun _ => hs) fun _ => nothingLeft_of_not_free rfl
  case surfaceMillisecondTick => exact SameOffer.nothingLeft (by constructor <;> rfl) hs
  all_goals
    dsimp only [reachOf] at reach
    exact (SameOffer.of_keeps reach).nothingLeft hs

end Sys2Proof.Machine

open Sys2Proof.Machine Sys2Proof.Safety in
/-- Settles O12, row by row: each ends with the scheduler, makes the bus unable to pick, or leaves the offer as it was. -/
theorem schedulerLeavesNothing : Obligations.SchedulerLeavesNothing := by
  intro s t hs hstep
  exact step_law_of_state (Pre := NothingLeft) (Post := NothingLeft) (ok := fun _ => True) (fun _ => id) (fun _ _ => id)
    (fun _ _ _ _ => id) (fun _ _ => id) (fun _ _ _ hc hs => handler_nothingLeft hc hs)
    (fun _ _ _ hc take _ hs h => event_nothingLeft hc take hs h) (fun _ _ => trivial) hs hstep

end

section
/-! PROOFS. What the composed acts of the surface keep once their parts keep it, and the law of the faders (10, section 10.5). -/

namespace Sys2Proof.Machine

open Sys2Proof.Safety

/-! ## What an event keeps -/

/-- An event whose value its kind allows (R165, R194). -/
def SurfaceEvent.Fits (e : SurfaceEvent) : Prop := e.kind = .fader → e.value.toNat ≤ 1023

theorem eventOf_fits {a : Nat} {stamp : Word32} {n : Nat} {c k l u : Byte} {e : SurfaceEvent} (h : eventOf a stamp n c k l u = some e) :
    e.Fits := by
  unfold eventOf at h
  split at h
  · split at h
    · split at h
      · rename_i range
        cases h
        intro fader
        dsimp only at fader ⊢
        subst fader
        simp only [EventKind.inRange, Bool.and_eq_true, decide_eq_true_eq] at range
        omega
      · cases h
    · cases h
  · cases h

section
variable {P : State → Prop}

theorem foldl_keeps {f : State → α → State} {xs : List α} (h : ∀ s, ∀ x ∈ xs, P s → P (f s x)) {s : State} (hs : P s) :
    P (xs.foldl f s) := by
  induction xs generalizing s with
  | nil => exact hs
  | cons x rest ih => exact ih (fun s y hy => h s y (by simp [hy])) (h s x (by simp) hs)

theorem feedbackAll_keeps (send : ∀ b s, P s → P (sendFeedback b s)) (x : LevelRef) (g m : Bool) (cause : Option Nat)
    {s : State} (hs : P s) : P (feedbackAll x g m cause s) := by
  refine foldl_keeps (fun s y _ hs => ?_) hs
  dsimp only
  split
  · exact send _ s hs
  · exact hs

/-- An event acts on at most the ACTIVE binding of its control. -/
theorem bindingEvent_keeps {e : SurfaceEvent} {s : State}
    (bound : ∀ i b, s.bdt[i]? = some b → b.state = .active → b.control = e.control → P (boundEvent i b e s)) (hs : P s) :
    P (bindingEvent e s) := by
  unfold bindingEvent
  split
  · rename_i i b found
    obtain ⟨-, there⟩ := mem_numbered.mp (List.mem_of_find?_eq_some found)
    have named := List.find?_some found
    simp only [Bool.and_eq_true, beq_iff_eq] at named
    split
    · exact bound i b there ‹_› named.2
    · exact hs
  · exact hs

theorem deliverEvent_keeps (bound : ∀ i b e s, s.bdt[i]? = some b → b.state = .active → b.control = e.control → P s →
    P (boundEvent i b e s)) (notice : ∀ b s, P s → P (notify b s)) (e : SurfaceEvent) {s : State} (hs : P s) :
    P (deliverEvent e s) := by
  have acted : P (bindingEvent e s) := bindingEvent_keeps (fun i b there active named => bound i b e s there active named hs) hs
  unfold deliverEvent filterEvent
  dsimp only
  split
  · exact acted
  · exact notice _ _ acted

theorem takeEvents_keeps (deliver : ∀ e s, e.Fits → P s → P (deliverEvent e s)) (discard : ∀ s, P s → P (discardEvent s))
    (a : Nat) (stamp : Word32) (bytes : List Byte) {s : State} (hs : P s) : P (takeEvents a stamp bytes s) := by
  have one (c k l h : Byte) {s : State} (hs : P s) : P (takeEvent a stamp c k l h s) := by
    unfold takeEvent
    split
    · split
      · exact discard s hs
      · split
        · rename_i found
          exact deliver _ s (eventOf_fits found) hs
        · exact discard s hs
    · exact discard s hs
  induction bytes, s using takeEvents.induct (address := a) (stamp := stamp) with
  | case1 c k l h rest s ih =>
    rw [takeEvents]
    exact ih (one c k l h hs)
  | case2 bytes s short =>
    rw [takeEvents]
    · exact hs
    · exact short

theorem removeModules_keeps (d : ModuleDetail) (one : ∀ a s, P s → P (removeModule a d s)) (as : List Nat) {s : State}
    (hs : P s) : P (removeModules d as s) := by
  induction as generalizing s with
  | nil => exact hs
  | cons a rest ih => exact ih (one a s hs)

/-- The end of a transaction, by its parts (R138). -/
theorem endTxn_keeps {Q : State → Prop} {x : Txn} {r : TxnResult} {s : State}
    (counted : P (s.withSbc { countResult r s.sbc with txn := none, free := false }))
    (judge : ∀ t, P t → P (judgeModule x.frame.address r t))
    (events : ∀ stamp bytes t, P t → P (takeEvents x.frame.address stamp bytes t))
    (owner : ∀ t, P t → Q (toOwner x.owner r t)) : Q (endTxn x r s) := by
  have judged : P (if x.judges then judgeModule x.frame.address r
      (s.withSbc { countResult r s.sbc with txn := none, free := false }) else
      s.withSbc { countResult r s.sbc with txn := none, free := false }) := by
    split
    · exact judge _ counted
    · exact counted
  have reported (t : State) (ht : P t) : P (reportEvents x.frame.address r t) := by
    unfold reportEvents
    split
    · exact events _ _ t ht
    · exact ht
  exact owner _ (reported _ judged)

end

/-! ## One channel -/

section
variable {f : Fader} {good : Bool}

/-- A feedback value is a fader position (R191). -/
theorem inverseFrom_le (g : Int) (n p : Nat) : inverseFrom g n p ≤ p + n := by
  induction n generalizing p with
  | zero => exact Nat.le_refl _
  | succ n ih =>
    unfold inverseFrom
    split
    · omega
    · have := ih (p + 1)
      omega

theorem inversePosition_le (g : Gain) : inversePosition g ≤ 1023 := by
  cases g with
  | off => exact Nat.zero_le _
  | tenths t => exact inverseFrom_le t 1022 1

theorem feedbackValue_le (mode : BindMode) (bank : Bool) (l : GainRec) : feedbackValue mode bank l ≤ 1023 := by
  have := inversePosition_le l.gain
  unfold feedbackValue
  repeat' split
  all_goals omega

theorem faderSound_started (h : FaderSound good f) (touch : f.touch = false) (enabled : f.state ≠ .disabled)
    (fault : f.fault = .none) (supply : good = true) : FaderSound good f.started := by
  simp only [Fader.started, FaderSound, SettingsSound] at h ⊢
  simp_all

theorem faderSound_rested {st : FaderState} (h : FaderSound good f) (enabled : f.state ≠ .disabled) (still : st = .idle ∨ st = .stalled)
    (fault : f.fault = .none) (supply : good = true) : FaderSound good (f.rested st) := by
  simp only [Fader.rested, FaderSound, SettingsSound] at h ⊢
  obtain rfl | rfl := still <;> simp_all


theorem faderSound_withTarget {t : Nat} (h : FaderSound good f) (ht : t ≤ 1023) : FaderSound good { f with target := t } := by
  simp only [FaderSound, SettingsSound] at h ⊢
  simp_all

/-- What the state of a sound channel says of its fault and of the supply. -/
theorem noFault_of_faderSound (h : FaderSound good f) (fault : f.state ≠ .fault) (enabled : f.state ≠ .disabled) :
    f.fault = .none := by
  simp only [FaderSound] at h
  by_contra hf
  simp_all

theorem supply_of_faderSound (h : FaderSound good f) (st : f.state = .idle ∨ f.state = .moving ∨ f.state = .stalled) :
    good = true := by
  simp only [FaderSound] at h
  by_contra hg
  simp_all

theorem faderSound_aimed {t : Nat} (h : FaderSound good f) (takes : f.takesTarget = true) (ht : t ≤ 1023) :
    FaderSound good (f.aimed t).1 := by
  simp only [Fader.takesTarget, Bool.and_eq_true, bne_iff_ne, Bool.not_eq_true'] at takes
  have aimed := faderSound_withTarget h ht
  unfold Fader.aimed
  dsimp only
  split
  case h_1 hs =>
    have sound := noFault_of_faderSound h (by simp [hs]) takes.1
    split
    · exact faderSound_started aimed takes.2 takes.1 sound (supply_of_faderSound h (.inl hs))
    · exact aimed
  case h_2 hs =>
    have sound := noFault_of_faderSound h (by simp [hs]) takes.1
    split
    · exact faderSound_started aimed takes.2 takes.1 sound (supply_of_faderSound h (.inr (.inr hs)))
    · exact faderSound_rested aimed takes.1 (.inl rfl) sound (supply_of_faderSound h (.inr (.inr hs)))
  case h_3 =>
    simp only [FaderSound, SettingsSound] at aimed ⊢
    simp_all
  all_goals exact aimed

theorem natAbs_dutyFor_le (h : SettingsSound f) (e : Int) : (f.dutyFor e).natAbs ≤ 255 := by
  obtain ⟨-, -, -, -, low, -, high, -⟩ := h
  simp only [Fader.dutyFor]
  split
  · split <;> omega
  · omega

theorem faderSound_failed {r : FaultReason} (h : FaderSound good f) (enabled : f.state ≠ .disabled) (hr : r ≠ .none) :
    FaderSound good ({ f with fault := r }.rested .fault) := by
  simp only [Fader.rested, FaderSound, SettingsSound] at h ⊢
  cases good <;> simp_all

theorem faderSound_stalled (h : FaderSound good f) (moving : f.state = .moving) :
    FaderSound good ({ f with motion := 800 }.rested .stalled) := by
  have fault := noFault_of_faderSound h (by simp [moving]) (by simp [moving])
  have supply := supply_of_faderSound h (.inr (.inl moving))
  simp only [Fader.rested, FaderSound, SettingsSound] at h ⊢
  simp_all

theorem faderSound_drive (h : FaderSound good f) (moving : f.state = .moving) (current : Nat) :
    FaderSound good (f.drive current).1 := by
  have enabled : f.state ≠ .disabled := by simp [moving]
  have duty (e : Int) := natAbs_dutyFor_le h.2.2.2.2.2.2.2.2.2.2.2.2.2.2.2 e
  unfold Fader.drive
  extract_lets overs opens e
  split
  · exact faderSound_failed h enabled nofun
  split
  · exact faderSound_failed h enabled nofun
  split
  · exact faderSound_rested h enabled (.inl rfl) (noFault_of_faderSound h (by simp [moving]) enabled) (supply_of_faderSound h (.inr (.inl moving)))
  split
  · exact faderSound_stalled h moving
  · have runs : overs ≤ 2 ∧ opens ≤ 19 := by omega
    have driven := duty e
    clear_value overs opens
    simp only [FaderSound, SettingsSound] at h ⊢
    simp_all
    omega

theorem faderSound_stall (h : FaderSound good f) : FaderSound good f.stall.1 := by
  unfold Fader.stall
  split
  · exact faderSound_stalled h ‹_›
  · exact h

theorem faderSound_supplyLow (h : FaderSound true f) : FaderSound false f.supplyLow.1 := by
  simp only [FaderSound, SettingsSound] at h ⊢
  cases hs : f.state <;> simp_all [Fader.supplyLow, Fader.heldBack]

theorem faderSound_supplyBack (h : FaderSound false f) : FaderSound true f.supplyBack.1 := by
  simp only [FaderSound, SettingsSound] at h ⊢
  simp only [Fader.supplyBack]
  split
  · split
    · simp_all [Fader.rested]
    · split <;> simp_all [Fader.started, Fader.rested]
  · simp_all

theorem faderSound_clearFault (h : FaderSound good f) : FaderSound good (f.clearFault good).1 := by
  simp only [FaderSound, SettingsSound] at h ⊢
  simp only [Fader.clearFault]
  split
  · split <;> simp_all [Fader.rested, Fader.heldBack]
  · simp_all

/-- Settings as FADER_CONFIG clamps them (R193). -/
def FaderSettings.Fit (x : FaderSettings) : Prop :=
  1 ≤ x.kp ∧ x.kp ≤ 64 ∧ 1 ≤ x.deadband ∧ x.deadband ≤ 32 ∧ x.minDuty ≤ x.maxDuty ∧ 1 ≤ x.maxDuty ∧ x.maxDuty ≤ 255 ∧
    1 ≤ x.limit ∧ x.limit ≤ 255

theorem faderSettingsOf_fit {e k d n m r l : Byte} {x : FaderSettings} (h : faderSettingsOf e k d n m r l = some x) :
    x.Fit := by
  unfold faderSettingsOf at h
  split at h <;> cases h
  simp only [FaderSettings.Fit, clampTo]
  omega

theorem faderSound_configured {x : FaderSettings} (h : FaderSound good f) (hx : x.Fit) :
    FaderSound good (f.configured x good).1 := by
  simp only [FaderSound, SettingsSound] at h ⊢
  simp only [Fader.configured, FaderSettings.Fit] at hx ⊢
  split
  · split <;> simp_all [Fader.rested, Fader.heldBack, Fader.withSettings]
  · split
    · simp_all [Fader.withSettings]
    · rename_i stays off
      have same : x.enable = false ↔ f.state = .disabled :=
        ⟨fun hx => by_contra fun hf => off ⟨hx, hf⟩, fun hf => by simpa [hf] using stays⟩
      simp_all [Fader.withSettings]

theorem faderSound_settled (h : FaderSound good f) : FaderSound good f.settled := by
  simp only [FaderSound, SettingsSound] at h ⊢
  simp_all [Fader.settled]

theorem faderSound_sampled {x : FaderSample} (h : FaderSound good f) (hx : x.position ≤ 1023) :
    FaderSound good (f.sampled x) := by
  simp only [FaderSound, SettingsSound] at h ⊢
  simp_all [Fader.sampled]

theorem faderSound_touched (h : FaderSound good f) (enabled : f.state ≠ .disabled) : FaderSound good f.touched.1 := by
  have fault := noFault_of_faderSound h
  have supply := supply_of_faderSound h
  simp only [FaderSound, SettingsSound] at h ⊢
  cases hs : f.state <;> simp_all [Fader.touched, Fader.rested]

theorem faderSound_untouched (h : FaderSound good f) : FaderSound good { f with touch := false } := by
  simp only [FaderSound, SettingsSound] at h ⊢
  simp_all

theorem faderSound_reported (h : FaderSound good f) : FaderSound good { f with reported := f.position } := by
  simp only [FaderSound, SettingsSound] at h ⊢
  simp_all

theorem faderSound_homed (h : FaderSound good f) : FaderSound good { f with target := f.position } :=
  faderSound_withTarget h h.2.2.2.2.2.2.2.2.2.1

theorem faderSound_afterReset (h : FaderSound good f) : FaderSound good f.afterReset := by
  simp only [FaderSound, SettingsSound] at h ⊢
  cases good <;> simp_all [Fader.afterReset, Fader.powerOn]

end

/-! ## The servo -/

section
variable {s t : State} (h : FadersSound s.fsv)
include h

theorem fadersSound_of_reaches {ps : List Part} (r : Reaches ps s t) (fsv : Part.fsv ∉ ps := by decide) : FadersSound t.fsv := by
  rw [show t.fsv = s.fsv from r.frame .fsv fsv]
  exact h

theorem faderSound_channel {i : Nat} (hi : i < 8) : FaderSound s.fsv.supplyGood (s.fsv.channel i) := by
  have inside : i < s.fsv.channels.length := by rw [h.1]; exact hi
  rw [Fsv.channel, List.getD_eq_getElem _ _ inside]
  exact h.2 _ (List.getElem_mem _)

/-- A change of one channel, which is none out of 0 to 7. -/
theorem fadersSound_changeFader {i : Nat} {op : Fader → Fader × Option FaderReason}
    (hop : i < 8 → FaderSound s.fsv.supplyGood (s.fsv.channel i) → FaderSound s.fsv.supplyGood (op (s.fsv.channel i)).1) :
    FadersSound (changeFader i op s).fsv := by
  rw [changeFader_eq]
  obtain ⟨eight, sound⟩ := h
  refine ⟨by simpa using eight, fun f hf => ?_⟩
  by_cases hi : i < 8
  · obtain hf | rfl := List.mem_or_eq_of_mem_set hf
    · exact sound f hf
    · exact hop hi (faderSound_channel ⟨eight, sound⟩ hi)
  · have out : s.fsv.channels.set i (op (s.fsv.channel i)).1 = s.fsv.channels :=
      List.set_eq_of_length_le (by rw [eight]; exact Nat.le_of_not_lt hi)
    simp only [State.withMsu_fsv, State.withFsv_fsv, out] at hf
    exact sound f hf

theorem fadersSound_aimFader (i : Nat) {p : Nat} (hp : p ≤ 1023) : FadersSound (aimFader i p s).fsv := by
  unfold aimFader
  split
  · exact fadersSound_changeFader h fun _ sound => faderSound_aimed sound ‹_› hp
  · exact h

theorem fadersSound_sendFeedback (b : Binding) : FadersSound (sendFeedback b s).fsv := by
  unfold sendFeedback
  dsimp only
  split
  · exact fadersSound_aimFader h _ (feedbackValue_le ..)
  · split
    · exact h
    · exact fadersSound_of_reaches h (reaches_handFrame ..)

theorem fadersSound_setTarget (x : LevelRef) (g : Option Gain) (m : Option Bool) (cause : Option Nat) :
    FadersSound (setTarget x g m cause s).fsv :=
  feedbackAll_keeps (P := fun s => FadersSound s.fsv) (fun b _ h => fadersSound_sendFeedback h b) _ _ _ _
    (fadersSound_of_reaches h (reaches_withRme s _))

theorem fadersSound_boundEvent (i : Nat) (b : Binding) (e : SurfaceEvent) : FadersSound (boundEvent i b e s).fsv := by
  have held (x : LevelRef) (c : Option Control) : FadersSound (setHolder x c s).fsv :=
    fadersSound_of_reaches h (reaches_setHolder ..)
  have target := fadersSound_setTarget h
  unfold boundEvent absoluteEvent relativeEvent toggleEvent
  dsimp only
  split
  · split
    · split
      · split
        · exact held ..
        · exact h
      · split
        · exact held ..
        · exact h
    · split
      · exact target ..
      · exact h
    · split
      · exact target ..
      · exact h
    · exact h
  · split
    · exact target ..
    · exact h
  · split
    · exact target ..
    · exact h

theorem fadersSound_deliverEvent (e : SurfaceEvent) : FadersSound (deliverEvent e s).fsv :=
  deliverEvent_keeps (P := fun s => FadersSound s.fsv) (fun i b e _ _ _ _ h => fadersSound_boundEvent h i b e)
    (fun b _ h => fadersSound_of_reaches h (reaches_notify b _)) e h

theorem fadersSound_reattach (a : Nat) (x : Serial) : FadersSound (reattach a x s).fsv := by
  refine foldl_keeps (P := fun s => FadersSound s.fsv) (fun s b _ h => ?_) (fadersSound_of_reaches h (reaches_withBdt s _))
  split
  · exact fadersSound_sendFeedback h b
  · exact h

theorem fadersSound_stepResult (r : TxnResult) : FadersSound (stepResult r s).fsv := by
  unfold stepResult
  split
  · exact fadersSound_of_reaches h (reaches_callResult ..)
  · simp only [assignResult]
    have moved : FadersSound (setSearch s.sbc.search.stepOver s).fsv := h
    split
    · exact moved
    · split
      · exact fadersSound_reattach (fadersSound_of_reaches moved
          ((reaches_putEntry _ _).andThen (reaches_notify _ _) (rs := [.records, .mtb]))) ..
      · exact fadersSound_of_reaches moved (reaches_removeModule ..)
  · exact h
  · exact h

theorem fadersSound_endTxn (x : Txn) (r : TxnResult) : FadersSound (endTxn x r s).fsv := by
  refine endTxn_keeps (P := fun s => FadersSound s.fsv) (Q := fun s => FadersSound s.fsv) h
    (fun t h => fadersSound_of_reaches h (reaches_judgeModule ..))
    (fun _ _ t => takeEvents_keeps (P := fun s => FadersSound s.fsv) (fun e s _ h => fadersSound_deliverEvent h e)
      (fun s h => h) _ _ _) (fun t h => ?_)
  unfold toOwner
  split
  · exact h
  · exact h
  · exact fadersSound_stepResult h r
  · exact fadersSound_of_reaches h (reaches_frameOutcome ..)

theorem fadersSound_endTxnIn (phases : List TxnPhase) (r : TxnResult) : FadersSound (endTxnIn phases r s).fsv := by
  unfold endTxnIn
  split
  · split
    · exact fadersSound_endTxn h _ r
    · exact h
  · exact h

theorem fadersSound_schedule : FadersSound (schedule s).fsv := fadersSound_of_reaches h (reaches_schedule s)

/-! ## The servo period -/

theorem fadersSound_sampleAll {samples : List FaderSample} (hx : samplesOk samples = true) :
    FadersSound (sampleAll samples s).fsv := by
  refine ⟨by simpa [sampleAll] using h.1, fun f hf => ?_⟩
  simp only [sampleAll, State.withFsv_fsv, List.mem_map] at hf
  obtain ⟨⟨i, g⟩, hg, rfl⟩ := hf
  have sound := faderSound_settled (h.2 g (List.mem_of_getElem? (mem_numbered.mp hg).2))
  dsimp only
  split
  · rename_i x there
    refine faderSound_sampled sound ?_
    simp only [samplesOk, Bool.and_eq_true, List.all_eq_true, decide_eq_true_eq] at hx
    exact hx.2 x (List.mem_of_getElem? there)
  · exact sound

theorem fadersSound_emitMoved (i n : Nat) : FadersSound (emitMoved i n s).fsv := by
  unfold emitMoved emitPosition
  dsimp only
  split
  · exact fadersSound_deliverEvent (fadersSound_changeFader h fun _ sound => faderSound_reported sound) _
  · exact h

theorem fadersSound_touchStep (i : Nat) : FadersSound (touchStep i s).fsv := by
  unfold touchStep
  dsimp only
  split
  · exact h
  split
  · exact fadersSound_emitMoved (fadersSound_deliverEvent
      (fadersSound_changeFader h fun _ sound => faderSound_touched sound ‹_›) _) ..
  split
  · exact fadersSound_emitMoved h ..
  split
  · exact fadersSound_changeFader (fadersSound_deliverEvent
      (fadersSound_changeFader (fadersSound_emitMoved h ..) fun _ sound => faderSound_untouched sound) _)
      fun _ sound => faderSound_homed sound
  · exact h

theorem fadersSound_driveStep (samples : List FaderSample) (i : Nat) : FadersSound (driveStep samples i s).fsv := by
  unfold driveStep
  split
  · exact h
  · refine fadersSound_changeFader h fun _ sound => ?_
    split
    · exact faderSound_drive sound (And.left ‹_›) _
    · exact sound

end

/-! ## The rows -/

theorem fadersSound_afterReset {v : Fsv} (h : FadersSound v) : FadersSound v.afterReset := by
  refine ⟨by simpa [Fsv.afterReset] using h.1, fun f hf => ?_⟩
  obtain ⟨g, hg, rfl⟩ := List.mem_map.mp hf
  exact faderSound_afterReset (h.2 g hg)

theorem fadersSound_powerOn (good : Bool) : FadersSound (Fsv.powerOn good) := by
  refine ⟨by simp [Fsv.powerOn], fun f hf => ?_⟩
  rw [List.eq_of_mem_replicate hf]
  cases good <;> simp only [Fsv.powerOn] <;> decide

/-- The next element of a list changed, those before it being changed already. -/
theorem set_map_take_append_drop (g : α → α) (cs : List α) (d : α) {n : Nat} (hn : n < cs.length) :
    ((cs.take n).map g ++ cs.drop n).set n (g (((cs.take n).map g ++ cs.drop n).getD n d)) =
      (cs.take (n + 1)).map g ++ cs.drop (n + 1) := by
  have below : ((cs.take n).map g).length = n := by
    rw [List.length_map, List.length_take]
    omega
  have here : (cs.drop n).getD 0 d = cs[n] := by rw [List.drop_eq_getElem_cons hn]; rfl
  rw [List.getD_append_right _ _ _ _ (Nat.le_of_eq below), List.set_append_right _ _ (Nat.le_of_eq below), below, Nat.sub_self,
    here, List.drop_eq_getElem_cons hn, List.take_add_one, List.getElem?_eq_getElem hn]
  simp only [List.set_cons_zero, List.map_append, Option.toList_some, List.map_cons, List.map_nil, List.append_assoc,
    List.singleton_append]

/-- The channels below `n` changed, channel 0 first. -/
theorem changeFaders_fsv (op : Fader → Fader × Option FaderReason) (s : State) {n : Nat} (hn : n ≤ s.fsv.channels.length) :
    ((List.range n).foldl (fun s i => changeFader i op s) s).fsv =
      { s.fsv with channels := (s.fsv.channels.take n).map (fun f => (op f).1) ++ s.fsv.channels.drop n } := by
  induction n with
  | zero => simp
  | succ n ih =>
    have before := ih (by omega)
    rw [List.range_succ, List.foldl_append, List.foldl_cons, List.foldl_nil, changeFader_eq]
    simp only [State.withMsu_fsv, State.withFsv_fsv, before, Fsv.channel]
    rw [set_map_take_append_drop (fun f => (op f).1) _ _ hn]

/-- Every channel changed. -/
theorem changeAllFaders_fsv (op : Fader → Fader × Option FaderReason) {s : State} (eight : s.fsv.channels.length = 8) :
    (changeAllFaders op s).fsv = { s.fsv with channels := s.fsv.channels.map (fun f => (op f).1) } := by
  have all := changeFaders_fsv op s (Nat.le_of_eq eight.symm)
  rwa [List.take_of_length_le (Nat.le_of_eq eight), List.drop_of_length_le (Nat.le_of_eq eight), List.append_nil] at all

/-- A change of the supply input, with what every channel makes of it (R198). -/
theorem fadersSound_changeAllFaders {s : State} {good : Bool} {op : Fader → Fader × Option FaderReason} (h : FadersSound s.fsv)
    (hop : ∀ f, FaderSound s.fsv.supplyGood f → FaderSound good (op f).1) :
    FadersSound (changeAllFaders op (setSupply good s)).fsv := by
  rw [changeAllFaders_fsv op (s := setSupply good s) h.1]
  refine ⟨by simpa [setSupply] using h.1, fun f hf => ?_⟩
  obtain ⟨g, hg, rfl⟩ := List.mem_map.mp hf
  exact hop g (h.2 g hg)

theorem fadersSound_storeBinding {s : State} (h : FadersSound s.fsv) (i : Nat) (b : Binding) :
    FadersSound (storeBinding i b s).fsv := by
  have released : FadersSound (if (s.binding i).state = .empty then s else releaseHold (s.binding i) s).fsv := by
    split
    · exact h
    · exact fadersSound_of_reaches h (reaches_releaseHold ..)
  unfold storeBinding
  dsimp only
  split
  · exact fadersSound_sendFeedback (fadersSound_of_reaches released (reaches_withBdt ..)) b
  · exact fadersSound_of_reaches released (reaches_withBdt ..)

theorem handler_fadersSound {c : Instr} {handle : State → Handled} (hc : handlerOf c = some handle) {s : State}
    (h : FadersSound s.fsv) : FadersSound (handle s).state.fsv := by
  have reach := handler_reaches hc s
  cases c <;> cases hc
  case reset => exact fadersSound_afterReset h
  case faderConfig =>
    unfold handleFaderConfig
    split
    · rename_i i x _ hx
      have done := fadersSound_changeFader h (i := i) (op := fun f => f.configured x s.fsv.supplyGood)
        fun _ sound => faderSound_configured sound (faderSettingsOf_fit hx)
      unfold configureFader
      dsimp only
      split
      · exact fadersSound_of_reaches done (reaches_releaseHolders ..)
      · exact done
    · exact h
  case faderMove =>
    unfold handleFaderMove
    split
    · exact h
    · dsimp only
      split
      · exact h
      split
      · exact h
      · exact fadersSound_aimFader h _ (Nat.min_le_left ..)
  case faderClear =>
    unfold handleFaderClear
    split
    · exact h
    · exact fadersSound_changeFader h fun _ sound => faderSound_clearFault sound
  case routeSetGain =>
    unfold handleRouteSetGain
    split
    · split
      · exact h
      · exact h
      · split
        · exact h
        · exact fadersSound_schedule (fadersSound_setTarget h ..)
    · exact h
  case routeSetMute =>
    unfold handleRouteSetMute
    split
    · split
      · exact h
      · exact h
      · exact fadersSound_schedule (fadersSound_setTarget h ..)
    · exact h
  case busSet =>
    unfold handleBusSet
    split
    · split
      · exact h
      · split
        · exact h
        · exact fadersSound_schedule (fadersSound_setTarget h ..)
    · exact h
  case bindSet =>
    unfold handleBindSet
    split
    · split
      · exact h
      split
      · exact h
      split
      · exact h
      · exact fadersSound_schedule (fadersSound_storeBinding h ..)
    · exact h
  all_goals
    dsimp only [reachOf] at reach
    exact fadersSound_of_reaches h reach

theorem event_fadersSound {c : Instr} (hc : commandOf c = none) (take : c ≠ .takeCommand) (wf : c.wellFormed = true) {s t : State}
    (h : FadersSound s.fsv) (hx : exec c s = .next t) : FadersSound t.fsv := by
  have reach := event_reaches_of_next hc take hx
  cases c <;> cases hc <;> cases hx
  case takeCommand => exact absurd rfl take
  case powerOn => exact fadersSound_powerOn _
  case servoPeriod samples =>
    refine fadersSound_schedule (foldl_keeps (P := fun s => FadersSound s.fsv)
      (fun s i _ h => fadersSound_driveStep h samples i) (foldl_keeps (P := fun s => FadersSound s.fsv)
      (fun s i _ h => fadersSound_touchStep h i) (fadersSound_sampleAll h wf)))
  case motionTimerExpiry => exact fadersSound_changeFader h fun _ sound => faderSound_stall sound
  case supplyLow =>
    split
    · rename_i good
      exact fadersSound_changeAllFaders h fun f sound => faderSound_supplyLow (good ▸ sound)
    · exact h
  case supplyBack =>
    split
    · exact h
    · rename_i bad
      exact fadersSound_changeAllFaders h fun f sound => faderSound_supplyBack (Bool.eq_false_iff.mpr bad ▸ sound)
  case frameSendingEnd =>
    split
    · split
      · split
        · exact fadersSound_endTxn (fadersSound_of_reaches h (reaches_withSbc ..)) ..
        · exact h
      · exact h
    · exact h
  case replyWindowExpiry =>
    split
    · exact h
    · exact fadersSound_endTxnIn h ..
  case replyCorrupt => exact fadersSound_endTxnIn h ..
  case replyComplete =>
    split
    · split
      · split
        · exact fadersSound_endTxn h ..
        · exact h
      · exact h
    · exact h
  case lineBreakStart => exact fadersSound_endTxnIn (fadersSound_of_reaches h (reaches_withSbc ..)) ..
  all_goals
    dsimp only [reachOf] at reach
    exact fadersSound_of_reaches h reach

end Sys2Proof.Machine

open Sys2Proof.Machine Sys2Proof.Safety in
/-- Settles O11, row by row: the rows of the servo keep it channel by channel, those that end a transaction through the
feedback that they may send. -/
theorem fadersLawKept : Obligations.FadersLawKept := by
  intro s t h wf hstep
  exact step_law_of_state (Pre := fun s => FadersSound s.fsv) (Post := fun s => FadersSound s.fsv)
    (ok := fun c => c.wellFormed = true) (fun _ => id) (fun _ _ => id) (fun _ _ _ _ => id) (fun _ _ => id)
    (fun _ _ _ hc h => handler_fadersSound hc h) (fun _ _ _ hc take wf h hx => event_fadersSound hc take wf h hx) wf h hstep

end

section
/-! PROOFS. Gain coefficients (06, R109): twice the exact value as a root, and the bounds of the range. -/

namespace Sys2Proof.Machine

/-- The exact value of the coefficient of a gain setting (R109). -/
noncomputable def exactGain (g : Int) : ℝ := 2 ^ 20 * (10 : ℝ) ^ ((g : ℝ) / 200)

theorem exactGain_nonneg (g : Int) : 0 ≤ exactGain g := by unfold exactGain; positivity

/-- The 200-th power of twice the exact value. -/
theorem exactGain_pow (g : Int) : (2 * exactGain g) ^ 200 = 2 ^ 4200 * (10 : ℝ) ^ g := by
  have power : ((10 : ℝ) ^ ((g : ℝ) / 200)) ^ 200 = (10 : ℝ) ^ g := by
    rw [← Real.rpow_mul_natCast (by norm_num), ← Real.rpow_intCast]
    norm_num
  rw [exactGain, ← mul_assoc, mul_pow, power, mul_pow, ← pow_mul, ← pow_add]

theorem exactGain_mono {g h : Int} (le : g ≤ h) : exactGain g ≤ exactGain h := by
  unfold exactGain
  have : (g : ℝ) ≤ h := by exact_mod_cast le
  gcongr
  norm_num

/-- Where the range ends below, a little more than 1. -/
theorem exactGain_low : 1 < exactGain (-1200) := by
  have : (10 : ℝ) ^ (((-1200 : Int) : ℝ) / 200) = (10 ^ 6)⁻¹ := by
    rw [show (((-1200 : Int) : ℝ) / 200) = ((-6 : Int) : ℝ) by norm_num, Real.rpow_intCast]
    norm_num
  rw [exactGain, this]
  norm_num

/-- Where the range ends above. -/
theorem exactGain_high : exactGain 120 < 4174456.5 := by
  have fifth : (exactGain 120) ^ 5 = 2 ^ 100 * 10 ^ 3 := by
    have power : ((10 : ℝ) ^ (((120 : Int) : ℝ) / 200)) ^ 5 = 10 ^ 3 := by
      rw [← Real.rpow_mul_natCast (by norm_num), ← Real.rpow_natCast]
      norm_num
    rw [exactGain, mul_pow, power]
    norm_num
  refine lt_of_pow_lt_pow_left₀ 5 (by norm_num) ?_
  rw [fifth]
  norm_num

/-- R109: K(g) is the nearest integer to its exact value. -/
theorem coeff_nearest {g : Int} (low : -1200 ≤ g) (high : g ≤ 120) :
    |((Gain.tenths g).coeff : ℝ) - exactGain g| ≤ 1 / 2 := by
  have power := exactGain_pow g
  cases g with
  | ofNat n =>
    refine halfRoot_nearest (by norm_num) (by norm_num) (exactGain_nonneg _) ?_ ?_
    · rw [power, Int.ofNat_eq_natCast, zpow_natCast, Nat.cast_one, mul_one]
      push_cast
      rfl
    · have : 10 ^ n ≤ 10 ^ 120 := Nat.pow_le_pow_right (by norm_num) (by simpa using high)
      calc 2 ^ 4200 * 10 ^ n ≤ 2 ^ 4200 * 10 ^ 120 := Nat.mul_le_mul_left _ this
        _ < (2 * 2 ^ 23 - 1) ^ 200 * 1 := by decide +kernel
  | negSucc n =>
    refine halfRoot_nearest (by norm_num) (by positivity) (exactGain_nonneg _) ?_ ?_
    · rw [power, zpow_negSucc]
      push_cast
      rw [inv_mul_cancel_right₀ (by positivity)]
    · exact lt_mul_of_lt_of_one_le (by decide +kernel) (Nat.one_le_pow _ _ (by norm_num))

theorem coeff_pos {g : Int} (low : -1200 ≤ g) (high : g ≤ 120) : 1 ≤ (Gain.tenths g).coeff := by
  obtain ⟨near, -⟩ := abs_le.mp (coeff_nearest low high)
  have : (0 : ℝ) < (Gain.tenths g).coeff := by linarith [exactGain_low, exactGain_mono low]
  exact_mod_cast this

theorem coeff_tenths_le {g : Int} (low : -1200 ≤ g) (high : g ≤ 120) : (Gain.tenths g).coeff ≤ 4174456 := by
  obtain ⟨-, near⟩ := abs_le.mp (coeff_nearest low high)
  have : ((Gain.tenths g).coeff : ℝ) < 4174457 := by linarith [exactGain_high, exactGain_mono high]
  exact Nat.lt_succ_iff.mp (by exact_mod_cast this)

end Sys2Proof.Machine

open Sys2Proof.Machine in
/-- Settles O38, by the nearest integer that the search of half a root ends on, and the exact values at the ends of the range. -/
theorem gainCoefficients : Obligations.GainCoefficients :=
  ⟨fun _ low high => ⟨coeff_nearest low high, coeff_pos low high, coeff_tenths_le low high⟩, rfl, fun _ => rfl⟩

end

section
/-! PROOFS. The module table's entries (08): lookups by address, an entry put in its place, an entry taken out. -/

namespace Sys2Proof.Machine

open Sys2Proof.Safety

/-- The entries stand in ascending address order (R152). -/
abbrev Ascending (es : List Entry) : Prop := es.Pairwise (fun x y => x.address < y.address)

theorem entry_mem {t : Mtb} {a : Nat} {e : Entry} (h : t.entry a = some e) : e ∈ t.entries ∧ e.address = a :=
  ⟨List.mem_of_find?_eq_some h, by simpa using List.find?_some h⟩

theorem entry_none {t : Mtb} {a : Nat} : t.entry a = none ↔ ∀ e ∈ t.entries, e.address ≠ a := by
  simp [Mtb.entry]

/-- In ascending order an entry is the one found at its address. -/
theorem entry_of_mem {t : Mtb} (asc : Ascending t.entries) {e : Entry} (h : e ∈ t.entries) : t.entry e.address = some e := by
  obtain ⟨before, after, split⟩ := List.append_of_mem h
  rw [Mtb.entry, List.find?_eq_some_iff_append]
  refine ⟨by simp, before, after, split, fun x hx => ?_⟩
  rw [Ascending, split, List.pairwise_append] at asc
  have := asc.2.2 x hx e (by simp)
  simp
  omega

theorem find_insertEntry (e : Entry) (es : List Entry) (a : Nat) :
    (insertEntry e es).find? (fun x => x.address == a) =
      if e.address = a then some e else es.find? (fun x => x.address == a) := by
  induction es with
  | nil => by_cases he : e.address = a <;> simp [insertEntry, he]
  | cons x rest ih =>
    unfold insertEntry
    split
    · rename_i below
      by_cases hx : x.address = a
      · rw [List.find?_cons_of_pos (by simpa using hx), List.find?_cons_of_pos (by simpa using hx), if_neg (by omega)]
      · rw [List.find?_cons_of_neg (by simpa using hx), List.find?_cons_of_neg (by simpa using hx), ih]
    · split
      · rename_i same
        by_cases he : e.address = a <;> simp [same, he]
      · by_cases he : e.address = a <;> simp [he]

/-- An entry stored is found at its address; the others stay. -/
theorem putEntry_entry (e : Entry) (s : State) (a : Nat) :
    (putEntry e s).mtb.entry a = if e.address = a then some e else s.mtb.entry a := find_insertEntry e _ a

theorem mem_insertEntry {e x : Entry} {es : List Entry} (h : x ∈ insertEntry e es) : x = e ∨ x ∈ es := by
  induction es with
  | nil => simpa [insertEntry] using h
  | cons y rest ih =>
    unfold insertEntry at h
    split at h
    · obtain rfl | h := List.mem_cons.mp h
      · exact .inr (by simp)
      · exact (ih h).imp_right fun h => by simp [h]
    · split at h
      · exact (List.mem_cons.mp h).imp_right fun h => by simp [h]
      · exact List.mem_cons.mp h

theorem ascending_insertEntry {e : Entry} {es : List Entry} (asc : Ascending es) : Ascending (insertEntry e es) := by
  induction es with
  | nil => simp [insertEntry, Ascending]
  | cons x rest ih =>
    obtain ⟨above, asc⟩ := List.pairwise_cons.mp asc
    unfold insertEntry
    split
    · refine List.pairwise_cons.mpr ⟨fun y hy => ?_, ih asc⟩
      obtain rfl | hy := mem_insertEntry hy
      · assumption
      · exact above y hy
    · split
      · rename_i same
        exact List.pairwise_cons.mpr ⟨fun y hy => same ▸ above y hy, asc⟩
      · refine List.pairwise_cons.mpr ⟨fun y hy => ?_, List.pairwise_cons.mpr ⟨above, asc⟩⟩
        obtain rfl | hy := List.mem_cons.mp hy
        · omega
        · have := above y hy
          omega

/-- An entry stored over the one at its address takes its place. -/
theorem insertEntry_of_held {e : Entry} {es : List Entry} (asc : Ascending es) (held : ∃ x ∈ es, x.address = e.address) :
    insertEntry e es = es.map (fun y => if y.address = e.address then e else y) := by
  induction es with
  | nil => simp at held
  | cons x rest ih =>
    obtain ⟨above, asc⟩ := List.pairwise_cons.mp asc
    unfold insertEntry
    split
    · rename_i below
      obtain ⟨y, hy, same⟩ := held
      obtain rfl | hy := List.mem_cons.mp hy
      · omega
      · rw [ih asc ⟨y, hy, same⟩, List.map_cons, if_neg (by omega)]
    · split
      · rename_i same
        have others : rest.map (fun y => if y.address = e.address then e else y) = rest :=
          (List.map_congr_left fun y hy => if_neg (by have := above y hy; omega)).trans (List.map_id _)
        rw [List.map_cons, if_pos same, others]
      · obtain ⟨y, hy, same⟩ := held
        obtain rfl | hy := List.mem_cons.mp hy
        · omega
        · have := above y hy
          omega

/-- An entry at an address that none holds is one more. -/
theorem insertEntry_perm {e : Entry} {es : List Entry} (fresh : ∀ x ∈ es, x.address ≠ e.address) :
    (insertEntry e es).Perm (e :: es) := by
  induction es with
  | nil => exact .refl _
  | cons x rest ih =>
    unfold insertEntry
    split
    · exact ((ih fun y hy => fresh y (by simp [hy])).cons x).trans (.swap ..)
    · rw [if_neg (fresh x (by simp))]

/-! ## What the clock and the ports leave of the engine -/

/-- Of the route engine at most the overload lines differ. -/
def SameEngine (s t : State) : Prop := t.rme = { s.rme with overload := t.rme.overload }

theorem SameEngine.refl (s : State) : SameEngine s s := rfl

theorem SameEngine.trans {s t u : State} (h : SameEngine s t) (h' : SameEngine t u) : SameEngine s u := by
  unfold SameEngine at *
  rw [h', h]

theorem sameEngine_of_reaches {ps : List Part} {s t : State} (r : Reaches ps s t) (rme : Part.rme ∉ ps := by decide) :
    SameEngine s t := by
  have same : t.rme = s.rme := r.frame .rme rme
  unfold SameEngine
  rw [same]

theorem SameEngine.ite {c : Prop} [Decidable c] {s t u : State} (h : SameEngine s t) (h' : SameEngine s u) :
    SameEngine s (if c then t else u) := by
  split
  · exact h
  · exact h'

section
variable (s : State)

theorem sameEngine_withPorts (ps : List Port) : SameEngine s (withPorts ps s) := rfl

theorem sameEngine_changePort (i : Nat) (op : Port → Port × Option PortReason) : SameEngine s (changePort i op s) := by
  unfold SameEngine
  rw [changePort_eq]
  rfl

theorem sameEngine_clockChange (after : Cku) (reason : Option ClockReason) (stu ptu : List NoticeBody) :
    SameEngine s (clockChange after reason stu ptu s) := by
  unfold SameEngine
  rw [clockChange_eq]
  rfl

theorem sameEngine_clockEvent (r : Cku × Option ClockReason) : SameEngine s (clockEvent r s) :=
  .ite (.refl s) (sameEngine_clockChange ..)

theorem sameEngine_losePresence (x : ClockSource) (was : Bool) (stu ptu : List NoticeBody) :
    SameEngine s (losePresence x was stu ptu s) :=
  .ite (sameEngine_clockChange ..) (sameEngine_of_reaches (reaches_notifyAll ..))

theorem sameEngine_linkReset (l : LinkState) : SameEngine s (linkReset l s) := by
  have start : SameEngine s ((setLink l s).withStu (s.stu.linkReset s.cku.counter)) := rfl
  exact .ite (start.trans ((sameEngine_of_reaches (reaches_emptyRecords _)).trans (sameEngine_losePresence ..)))
    (start.trans ((sameEngine_losePresence ..).trans (sameEngine_of_reaches (reaches_emptyRecords _))))

theorem sameEngine_leaveLink (l : LinkState) : SameEngine s (leaveLink l s) := by
  unfold leaveLink
  split
  · exact sameEngine_linkReset s l
  · exact sameEngine_linkReset s l
  all_goals exact sameEngine_of_reaches (reaches_setLink l s)

theorem sameEngine_suspendLink (b : Bool) : SameEngine s (suspendLink b s) := by
  have start : SameEngine s ((setLink (.suspended b) s).withStu (s.stu.linkReset s.cku.counter)) := rfl
  exact start.trans (sameEngine_losePresence ..)

theorem sameEngine_configurePort (i : Nat) (mode : PortMode) (slots : Nat) : SameEngine s (configurePort i mode slots s) :=
  .ite ((sameEngine_withPorts s _).trans (sameEngine_clockChange ..))
    ((sameEngine_withPorts s _).trans (sameEngine_of_reaches (reaches_notifyAll ..)))

theorem sameEngine_refuse_ite {c : Prop} [Decidable c] {st : Status} {h : Handled} (hh : SameEngine s h.state) :
    SameEngine s (if c then refuse s st else h).state := by
  split
  · exact .refl s
  · exact hh

end

/-- The rows of the clock, the link, the streams and the ports leave of the engine all but the overload lines. -/
def leavesEngine : Instr → Bool
  | .clockSetSources .. | .streamStop .. | .portConfig .. | .portStart .. | .portStop .. | .portMute .. | .busReset | .disconnection
  | .busIdleSuspend | .selectConfiguration .. | .checkPeriodEnd | .synthesiserLock | .synthesiserUnlock | .lockTimerExpiry
  | .settleTimerExpiry | .holdoverTimerExpiry | .portResetTimerExpiry .. | .portSettleCountEnd .. | .portInputFrameComplete ..
  | .portOutputFrameBegin .. | .overloadLineChange .. => true
  | _ => false

theorem handler_sameEngine {c : Instr} {h : State → Handled} (hc : handlerOf c = some h) (leaves : leavesEngine c = true)
    (s : State) : SameEngine s (h s).state := by
  cases c <;> cases leaves <;> cases hc
  case clockSetSources mode fixed revert list =>
    dsimp only
    split
    · unfold handleClockSetSources
      split
      · split
        · exact sameEngine_clockEvent s _
        · exact .refl s
      · exact .refl s
    · exact .refl s
  case streamStop =>
    unfold handleStreamStop
    split
    · exact .refl s
    · split
      · exact .refl s
      · exact SameEngine.trans (t := s.withStu _) rfl (sameEngine_losePresence ..)
  case portConfig =>
    unfold handlePortConfig
    split
    · exact sameEngine_refuse_ite s (sameEngine_refuse_ite s (sameEngine_configurePort s ..))
    · exact .refl s
  case portStart =>
    unfold handlePortStart
    split
    · exact .refl s
    · exact sameEngine_refuse_ite s (sameEngine_refuse_ite s (sameEngine_changePort s ..))
  case portStop =>
    unfold handlePortStop
    split
    · exact .refl s
    · split
      · exact .refl s
      · exact sameEngine_changePort s ..
  case portMute =>
    unfold handlePortMute
    split
    · exact sameEngine_changePort s ..
    · exact .refl s

theorem event_sameEngine {c : Instr} (hc : commandOf c = none) (leaves : leavesEngine c = true) {s t : State}
    (hx : exec c s = .next t) : SameEngine s t := by
  cases c <;> cases leaves <;> cases hc <;> cases hx
  case busReset => exact .ite (.refl s) (sameEngine_leaveLink s _)
  case selectConfiguration value =>
    split
    · split
      · exact (sameEngine_leaveLink s _).trans rfl
      · rfl
      · rfl
    · rfl
  case busIdleSuspend =>
    split
    · exact sameEngine_suspendLink s _
    · exact sameEngine_suspendLink s _
    all_goals rfl
  case disconnection => exact sameEngine_leaveLink s _
  case checkPeriodEnd => exact .ite (sameEngine_clockEvent s _) (.refl s)
  case synthesiserLock => exact sameEngine_clockEvent s _
  case synthesiserUnlock => exact sameEngine_clockEvent s _
  case lockTimerExpiry => exact sameEngine_clockEvent s _
  case settleTimerExpiry => exact sameEngine_clockEvent s _
  case holdoverTimerExpiry => exact sameEngine_clockEvent s _
  all_goals exact sameEngine_changePort s ..

/-! ## What a command does to the state, when it does anything -/

theorem indexBelow_lt {n i : Nat} {b : Byte} (h : indexBelow n b = some i) : i < n := by
  simp only [indexBelow, Option.ite_none_right_eq_some, Option.some.injEq] at h
  omega

section
variable (s : State)

theorem state_handleRouteSetGain (id : Byte) (gain : Half) :
    (handleRouteSetGain id gain s).state = s ∨ ∃ n g, n < 128 ∧ (s.rme.route n).state = .active ∧ gainOf gain = some g ∧
      (handleRouteSetGain id gain s).state = schedule (setTarget (.route n) (some g.clamped) none none s) := by
  unfold handleRouteSetGain
  split
  · rename_i n g hn hg
    split
    · exact .inl rfl
    · exact .inl rfl
    · rename_i active
      split
      · exact .inl rfl
      · exact .inr ⟨n, g, indexBelow_lt hn, active, hg, rfl⟩
  · exact .inl rfl

theorem state_handleRouteSetMute (id mute : Byte) :
    (handleRouteSetMute id mute s).state = s ∨ ∃ n b, n < 128 ∧ (s.rme.route n).state = .active ∧
      (handleRouteSetMute id mute s).state = schedule (setTarget (.route n) none (some b) none s) := by
  unfold handleRouteSetMute
  split
  · rename_i n b hn hb
    split
    · exact .inl rfl
    · exact .inl rfl
    · rename_i active
      exact .inr ⟨n, b, indexBelow_lt hn, active, rfl⟩
  · exact .inl rfl

theorem state_handleBusSet (bus flags : Byte) (gain : Half) (mute : Byte) :
    (handleBusSet bus flags gain mute s).state = s ∨ ∃ b a a' g m, b < 8 ∧ busValuesOf a a' gain mute = some (g, m) ∧
      (handleBusSet bus flags gain mute s).state = schedule (setTarget (.bus b) (g.map Gain.clamped) m none s) := by
  unfold handleBusSet
  split
  · rename_i b a a' hb hf
    split
    · exact .inl rfl
    · rename_i g m values
      split
      · exact .inl rfl
      · exact .inr ⟨b, a, a', g, m, indexBelow_lt hb, values, rfl⟩
  · exact .inl rfl

theorem state_handleRouteRemove (id : Byte) :
    (handleRouteRemove id s).state = s ∨
      ∃ n, n < 128 ∧ (s.rme.route n).state = .active ∧ (handleRouteRemove id s).state = leaveActive n s := by
  unfold handleRouteRemove
  split
  · exact .inl rfl
  · rename_i n hn
    split
    · exact .inl rfl
    · exact .inl rfl
    · rename_i active
      exact .inr ⟨n, indexBelow_lt hn, active, rfl⟩

theorem state_handleRouteAdd (source destination : PointCode) (gain : Half) (flags : Byte) :
    (handleRouteAdd source destination gain flags s).state = s ∨ ∃ src dst g mute invert replace,
      sourcePointOf source = some src ∧ destPointOf destination = some dst ∧ gainOf gain = some g ∧ badOrder src dst = false ∧
      ((s.rme.laneRoute src dst .active).isSome = true → replace = true) ∧ s.rme.roomFor src dst replace = true ∧
      (handleRouteAdd source destination gain flags s).state = (addRoute src dst g.clamped mute invert s).1 := by
  unfold handleRouteAdd
  split
  · rename_i src dst g mute invert replace hs hd hg hf
    split
    · exact .inl rfl
    split
    · exact .inl rfl
    split
    · exact .inl rfl
    · rename_i order clash room
      exact .inr ⟨src, dst, g, mute, invert, replace, hs, hd, hg, by simpa using order, by simpa using clash, by simpa using room,
        rfl⟩
  · exact .inl rfl

theorem state_handleDiscover : (handleDiscover s).state = s ∨
    (s.sbc.bus ≠ .off ∧ s.sbc.search.running = false ∧ (handleDiscover s).state = schedule (startSearch s)) := by
  unfold handleDiscover
  split
  · exact .inl rfl
  split
  · exact .inl rfl
  · rename_i on idle
    exact .inr ⟨on, by simpa using idle, rfl⟩

theorem state_handleModuleForget (addresses : List Byte) :
    (handleModuleForget addresses s).state = s ∨ ∃ xs, addressesOf addresses = some xs ∧
      (s.forgettable xs).length ≤ queueCapacity .urgent - s.sou.urgent.length ∧
      (handleModuleForget addresses s).state = schedule (removeModules .forgotten (s.forgettable xs) s) := by
  unfold handleModuleForget
  split
  · exact .inl rfl
  · rename_i xs hx
    dsimp only
    split
    · exact .inl rfl
    · rename_i room
      exact .inr ⟨xs, hx, Nat.le_of_not_lt room, rfl⟩

theorem state_handleSurfaceSend (tag address kind priority retries notify : Byte) (data : List Byte) :
    (handleSurfaceSend tag address kind priority retries notify data s).state = s ∨ ∃ q f after dropped,
      hostFrameOf tag address kind priority retries notify data = some (q, f) ∧ s.sou.take q f = .appended after dropped ∧
      (handleSurfaceSend tag address kind priority retries notify data s).state =
        schedule (endFrames .dropped dropped (s.withSou after)) := by
  unfold handleSurfaceSend
  split
  · exact .inl rfl
  · rename_i q f hf
    split
    · exact .inl rfl
    · split
      · exact .inl rfl
      · exact .inl rfl
      · rename_i after dropped taken
        exact .inr ⟨q, f, after, dropped, hf, taken, rfl⟩

theorem state_handleSurfaceAbort (selector named : Byte) :
    (handleSurfaceAbort selector named s).state = s ∨ ∃ all, flagOf selector = some all ∧
      (handleSurfaceAbort selector named s).state = schedule (abortFrames (QFrame.named all named) s).1 := by
  unfold handleSurfaceAbort
  split
  · exact .inl rfl
  · rename_i all hall
    exact .inr ⟨all, hall, rfl⟩

theorem state_handleBindSet (index origin control targetKind targetIndex mode step feedback : Byte) :
    (handleBindSet index origin control targetKind targetIndex mode step feedback s).state = s ∨ ∃ i b, i < 32 ∧
      bindingOf origin control targetKind targetIndex mode step feedback = some b ∧ s.controlTaken i b.control = false ∧
      s.moduleMissing b.control = false ∧ s.routeMissing b.target = false ∧
      (handleBindSet index origin control targetKind targetIndex mode step feedback s).state =
        schedule (storeBinding i { b with serial := s.serialOf b.control } s) := by
  unfold handleBindSet
  split
  · rename_i i b hi hb
    split
    · exact .inl rfl
    split
    · exact .inl rfl
    split
    · exact .inl rfl
    · rename_i taken module_ route
      exact .inr ⟨i, b, indexBelow_lt hi, hb, by simpa using taken, by simpa using module_, by simpa using route, rfl⟩
  · exact .inl rfl

theorem state_handleSurfaceSetup (enable period lifetime auto : Byte) :
    (handleSurfaceSetup enable period lifetime auto s).state = s ∨ ∃ x, surfaceSettingsOf enable period lifetime auto = some x ∧
      (handleSurfaceSetup enable period lifetime auto s).state =
        if x.enable = false ∧ s.sbc.bus ≠ .off then busDisabled (storeSettings x s)
        else if x.enable = true ∧ s.sbc.bus = .off then busEnabled (storeSettings x s)
        else storeSettings x s := by
  unfold handleSurfaceSetup
  split
  · exact .inl rfl
  · rename_i x hx
    exact .inr ⟨x, hx, rfl⟩

end

end Sys2Proof.Machine
end

section
/-! PROOFS. The law of the bindings (10, sections 10.1 and 10.4): what leaves every binding as it is, then the acts that bind, release
and orphan, and the obligation assembled from these. -/

namespace Sys2Proof.Machine

open Sys2Proof.Safety

/-! ## Records by reference -/

theorem level_putLevel (m : Rme) (x y : LevelRef) (l : GainRec) :
    (x = y ∧ (m.putLevel x l).level y = l) ∨ (m.putLevel x l).level y = m.level y := by
  cases x with
  | route id =>
    cases y with
    | bus b => exact .inr rfl
    | route n =>
      by_cases same : id = n
      · subst same
        by_cases inside : id < m.routes.length
        · exact .inl ⟨rfl, by simp [Rme.putLevel, Rme.level, inside]⟩
        · right
          simp only [Rme.putLevel, Rme.level, Rme.putRoute, List.set_eq_of_length_le (Nat.le_of_not_lt inside)]
      · right
        simp only [Rme.putLevel, Rme.level, putRoute_route_ne m same]
  | bus b =>
    cases y with
    | route n => exact .inr rfl
    | bus n =>
      by_cases same : b = n
      · subst same
        by_cases inside : b < m.buses.length
        · exact .inl ⟨rfl, by simp [Rme.putLevel, Rme.level, inside]⟩
        · right
          simp only [Rme.putLevel, Rme.level, Rme.putBus, List.set_eq_of_length_le (Nat.le_of_not_lt inside)]
      · right
        simp only [Rme.putLevel, Rme.level, putBus_bus_ne m same]

/-- A record replaced: the entry's other fields stay. -/
theorem route_putLevel (m : Rme) (x : LevelRef) (l : GainRec) (id : Nat) :
    (m.putLevel x l).route id = { m.route id with level := (m.putLevel x l).level (.route id) } := by
  cases x with
  | bus b => rfl
  | route n =>
    by_cases same : n = id
    · subst same
      by_cases inside : n < m.routes.length
      · simp [Rme.putLevel, Rme.level, inside]
      · simp only [Rme.putLevel, Rme.level, Rme.putRoute, List.set_eq_of_length_le (Nat.le_of_not_lt inside)]
    · simp only [Rme.putLevel, Rme.level, putRoute_route_ne m same]

theorem putLevel_routes_length (m : Rme) (x : LevelRef) (l : GainRec) : (m.putLevel x l).routes.length = m.routes.length := by
  cases x <;> simp [Rme.putLevel, Rme.putRoute]

theorem putLevel_buses_length (m : Rme) (x : LevelRef) (l : GainRec) : (m.putLevel x l).buses.length = m.buses.length := by
  cases x <;> simp [Rme.putLevel, Rme.putBus]

/-! ## What leaves every binding as it is -/

/-- The tables keep their sizes, ACTIVE routes stay ACTIVE, and there is no new holder. -/
structure KeepsHolds (m n : Rme) : Prop where
  routes : n.routes.length = m.routes.length
  buses : n.buses.length = m.buses.length
  active : ∀ id, (m.route id).state = .active → (n.route id).state = .active
  holder : ∀ x c, (n.level x).holder = some c → (m.level x).holder = some c

theorem KeepsHolds.refl (m : Rme) : KeepsHolds m m := ⟨rfl, rfl, fun _ => id, fun _ _ => id⟩

theorem KeepsHolds.trans {m n o : Rme} (h : KeepsHolds m n) (h' : KeepsHolds n o) : KeepsHolds m o :=
  ⟨h'.routes.trans h.routes, h'.buses.trans h.buses, fun id ha => h'.active id (h.active id ha),
    fun x c hc => h.holder x c (h'.holder x c hc)⟩

/-- Every entry and every bus record changed alike, or the measuring alone. -/
theorem keepsHolds_of_map {m n : Rme} {f : Route → Route} {g : GainRec → GainRec} (routes : n.routes = m.routes.map f)
    (buses : n.buses = m.buses.map g) (active : ∀ r, r.state = .active → (f r).state = .active)
    (held : ∀ r c, (f r).level.holder = some c → r.level.holder = some c) (free : f Route.freeEntry = Route.freeEntry)
    (bus : ∀ l c, (g l).holder = some c → l.holder = some c) (power : g GainRec.busPowerOn = GainRec.busPowerOn) :
    KeepsHolds m n := by
  have route (id : Nat) : n.route id = f (m.route id) := by
    have mapped := List.getD_map (l := m.routes) (n := id) (d := Route.freeEntry) f
    rwa [free, ← routes] at mapped
  have record (b : Nat) : n.bus b = g (m.bus b) := by
    have mapped := List.getD_map (l := m.buses) (n := b) (d := GainRec.busPowerOn) g
    rwa [power, ← buses] at mapped
  refine ⟨by simp [routes], by simp [buses], fun id h => by rw [route]; exact active _ h, fun x c h => ?_⟩
  cases x with
  | route id => exact held _ c (by rwa [Rme.level, route] at h)
  | bus b => exact bus _ c (by rwa [Rme.level, record] at h)

theorem keepsHolds_of_tables {m n : Rme} (routes : n.routes = m.routes) (buses : n.buses = m.buses) : KeepsHolds m n :=
  keepsHolds_of_map (f := id) (g := id) (by simpa using routes) (by simpa using buses) (fun _ => id) (fun _ _ => id) rfl
    (fun _ _ => id) rfl

theorem keepsHolds_putLevel {m : Rme} {x : LevelRef} {l : GainRec} (h : ∀ c, l.holder = some c → (m.level x).holder = some c) :
    KeepsHolds m (m.putLevel x l) := by
  refine ⟨putLevel_routes_length .., putLevel_buses_length .., fun id ha => by rw [route_putLevel]; exact ha, fun y c hc => ?_⟩
  obtain ⟨rfl, new⟩ | old := level_putLevel m x y l
  · exact h c (by rwa [new] at hc)
  · rwa [old] at hc

theorem keepsHolds_releaseHolders (test : Control → Bool) (s : State) : KeepsHolds s.rme (releaseHolders test s).rme := by
  have unheld (l : GainRec) (c : Control) (h : (l.unheld test).holder = some c) : l.holder = some c := by
    unfold GainRec.unheld at h
    split at h
    · cases h
    · exact h
  exact keepsHolds_of_map rfl rfl (fun _ => id) (fun r c h => unheld r.level c h) rfl unheld rfl

theorem keepsHolds_releaseHold (b : Binding) (s : State) : KeepsHolds s.rme (releaseHold b s).rme := by
  unfold releaseHold
  split
  · exact keepsHolds_putLevel (fun c h => by cases h)
  · exact .refl _

/-- Bindings and addresses as they were: no binding moves, no holder is new, and every entry stands with its serial. -/
structure KeepsBinds (s t : State) : Prop where
  bdt : t.bdt = s.bdt
  holds : KeepsHolds s.rme t.rme
  serial : ∀ a e, s.mtb.entry a = some e → (t.mtb.entry a).map (fun e => e.serial) = some e.serial

theorem keepsBinds_of_mtb {s t : State} (bdt : t.bdt = s.bdt) (holds : KeepsHolds s.rme t.rme) (mtb : t.mtb = s.mtb) :
    KeepsBinds s t :=
  ⟨bdt, holds, fun a e h => by rw [mtb, h]; rfl⟩

theorem keepsBinds_of_frame {ps : List Part} {s t : State} (h : KeepsBut ps s t) (rme : Part.rme ∉ ps := by decide)
    (mtb : Part.mtb ∉ ps := by decide) (bdt : Part.bdt ∉ ps := by decide) : KeepsBinds s t :=
  keepsBinds_of_mtb (h .bdt bdt) (by rw [show t.rme = s.rme from h .rme rme]; exact .refl _) (h .mtb mtb)

theorem serialOf_of_keeps {s t : State} (h : KeepsBinds s t) {c : Control} (there : s.moduleMissing c = false) :
    t.moduleMissing c = false ∧ t.serialOf c = s.serialOf c := by
  obtain ⟨origin, n⟩ := c
  cases origin with
  | bank => exact ⟨rfl, rfl⟩
  | remote a =>
    simp only [State.moduleMissing, State.serialOf, Option.isNone_eq_false_iff, Option.isSome_iff_exists] at there ⊢
    obtain ⟨e, he⟩ := there
    have same := h.serial a e he
    rw [same, he]
    exact ⟨by cases ht : t.mtb.entry a <;> simp_all, rfl⟩

theorem routeMissing_of_holds {s t : State} (h : KeepsHolds s.rme t.rme) {x : Target} (there : s.routeMissing x = false) :
    t.routeMissing x = false := by
  unfold State.routeMissing at *
  split at there
  · simp only [bne_eq_false_iff_eq] at there ⊢
    exact h.active _ there
  · rfl

theorem bindingHas_of_keeps {s t : State} (h : KeepsBinds s t) {b : Binding} (has : BindingHas s b) : BindingHas t b := by
  obtain ⟨route, module_⟩ := has
  refine ⟨fun e c => routeMissing_of_holds h.holds (route e c), fun active => ?_⟩
  obtain ⟨there, same⟩ := serialOf_of_keeps h (module_ active).1
  exact ⟨there, same.trans (module_ active).2⟩

theorem holderBound_of_keeps {s t : State} (h : KeepsBinds s t) {x : LevelRef} (bound : HolderBound s x) : HolderBound t x := by
  intro c hc
  rw [h.bdt]
  exact bound c (h.holds.holder x c hc)

theorem bindingsSound_of_keeps {s t : State} (h : KeepsBinds s t) (sound : BindingsSound s) : BindingsSound t := by
  obtain ⟨size, routes, buses, each, apart, onRoutes, onBuses⟩ := sound
  refine ⟨by rw [h.bdt, size], by rw [h.holds.routes, routes], by rw [h.holds.buses, buses], fun b hb => ?_, by rwa [h.bdt],
    fun id hid => holderBound_of_keeps h (onRoutes id hid), fun n hn => holderBound_of_keeps h (onBuses n hn)⟩
  rw [h.bdt] at hb
  exact ⟨(each b hb).1, bindingHas_of_keeps h (each b hb).2⟩

/-! ## The acts of the surface -/

/-- The law, with the table in order: so an entry is the one found at its address. -/
structure Bound (s : State) : Prop where
  sound : BindingsSound s
  ascending : Ascending s.mtb.entries

section
variable {s t : State} (h : Bound s)
include h

theorem bound_of_keeps (k : KeepsBinds s t) (asc : Ascending t.mtb.entries) : Bound t := ⟨bindingsSound_of_keeps k h.sound, asc⟩

theorem bound_of_frame {ps : List Part} (r : KeepsBut ps s t) (rme : Part.rme ∉ ps := by decide)
    (mtb : Part.mtb ∉ ps := by decide) (bdt : Part.bdt ∉ ps := by decide) : Bound t :=
  bound_of_keeps h (keepsBinds_of_frame r rme mtb bdt) (by rw [show t.mtb = s.mtb from r .mtb mtb]; exact h.ascending)

theorem bound_of_reaches {ps : List Part} (r : Reaches ps s t) (rme : Part.rme ∉ ps := by decide)
    (mtb : Part.mtb ∉ ps := by decide) (bdt : Part.bdt ∉ ps := by decide) : Bound t := bound_of_frame h r.frame rme mtb bdt

/-- Where only the engine of the three differs, and its holds are kept. -/
theorem bound_of_holds {ps : List Part} (r : Reaches ps s t) (holds : KeepsHolds s.rme t.rme)
    (mtb : Part.mtb ∉ ps := by decide) (bdt : Part.bdt ∉ ps := by decide) : Bound t :=
  bound_of_keeps h (keepsBinds_of_mtb (r.frame .bdt bdt) holds (r.frame .mtb mtb))
    (by rw [show t.mtb = s.mtb from r.frame .mtb mtb]; exact h.ascending)

theorem bound_withRme {m : Rme} (holds : KeepsHolds s.rme m) : Bound (s.withRme m) :=
  bound_of_holds h (reaches_withRme s m) holds

theorem bound_setTarget (x : LevelRef) (g : Option Gain) (m : Option Bool) (cause : Option Nat) :
    Bound (setTarget x g m cause s) := by
  refine bound_of_holds h (reaches_setTarget x g m cause s) ?_
  rw [setTarget_eq]
  exact keepsHolds_putLevel fun c hc => by simpa using hc

/-- A holder given to a record is the control of a binding on it. -/
theorem bound_setHolder {x : LevelRef} {b : Binding} (hb : b ∈ s.bdt) (used : b.state ≠ .empty) (ref : b.target.ref = x) :
    Bound (setHolder x (some b.control) s) := by
  obtain ⟨⟨size, routes, buses, each, apart, onRoutes, onBuses⟩, asc⟩ := h
  have state (id : Nat) : (setHolder x (some b.control) s).rme.route id =
      { s.rme.route id with level := (setHolder x (some b.control) s).rme.level (.route id) } := route_putLevel ..
  have held (y : LevelRef) (old : HolderBound s y) : HolderBound (setHolder x (some b.control) s) y := by
    intro c hc
    obtain ⟨rfl, new⟩ | same := level_putLevel s.rme x y { s.rme.level x with holder := some b.control }
    · rw [setHolder, State.withRme_rme, new] at hc
      obtain rfl : b.control = c := by simpa using hc
      exact ⟨b, hb, used, rfl, ref⟩
    · rw [setHolder, State.withRme_rme, same] at hc
      exact old c hc
  refine ⟨⟨size, (putLevel_routes_length ..).trans routes, (putLevel_buses_length ..).trans buses, fun d hd => ?_, apart,
    fun id hid => held _ (onRoutes id hid), fun n hn => held _ (onBuses n hn)⟩, asc⟩
  obtain ⟨fields, route, module_⟩ := each d hd
  refine ⟨fields, fun e c => ?_, module_⟩
  have there := route e c
  unfold State.routeMissing at there ⊢
  split at there
  · rw [state]
    exact there
  · rfl

theorem bound_boundEvent {i : Nat} {b : Binding} (e : SurfaceEvent) (hb : b ∈ s.bdt) (active : b.state = .active) :
    Bound (boundEvent i b e s) := by
  have used : b.state ≠ .empty := by simp [active]
  have released : Bound (setHolder b.target.ref none s) :=
    bound_withRme h (keepsHolds_putLevel fun c hc => by cases hc)
  have target := bound_setTarget h
  unfold boundEvent absoluteEvent relativeEvent toggleEvent
  dsimp only
  split
  · split
    · split
      · split
        · exact bound_setHolder h hb used rfl
        · exact h
      · split
        · exact released
        · exact h
    · split
      · exact target ..
      · exact h
    · split
      · exact target ..
      · exact h
    · exact h
  · split
    · exact target ..
    · exact h
  · split
    · exact target ..
    · exact h

theorem bound_deliverEvent (e : SurfaceEvent) : Bound (deliverEvent e s) :=
  deliverEvent_keeps (fun _ _ e _ there active _ h => bound_boundEvent h e (List.mem_of_getElem? there) active)
    (fun b _ h => bound_of_reaches h (reaches_notify b _)) e h

theorem bound_discardEvent : Bound (discardEvent s) :=
  bound_of_keeps h ⟨rfl, .refl _, fun _ _ he => congrArg (Option.map _) he⟩ h.ascending

theorem bound_takeEvents (a : Nat) (stamp : Word32) (bytes : List Byte) : Bound (takeEvents a stamp bytes s) :=
  takeEvents_keeps (P := Bound) (fun e _ _ h => bound_deliverEvent h e) (fun _ h => bound_discardEvent h) a stamp bytes h

/-! ## The table's acts -/

/-- An entry stored where none was, or over one of the same serial. -/
theorem bound_putEntry {e : Entry} (same : ∀ d, s.mtb.entry e.address = some d → d.serial = e.serial) : Bound (putEntry e s) := by
  refine bound_of_keeps h ⟨rfl, .refl _, fun a d hd => ?_⟩ (ascending_insertEntry h.ascending)
  rw [putEntry_entry]
  split
  · rename_i here
    subst here
    rw [same d hd]
    rfl
  · rw [hd]
    rfl

theorem bound_judgeModule (a : Nat) (r : TxnResult) : Bound (judgeModule a r s) := by
  unfold judgeModule
  split
  · exact h
  · rename_i e he
    split
    · exact h
    · have judged : (e.judged r s.sbc.newExpiry).address = e.address ∧ (e.judged r s.sbc.newExpiry).serial = e.serial := by
        unfold Entry.judged
        split <;> exact ⟨rfl, rfl⟩
      have stored : Bound (putEntry (e.judged r s.sbc.newExpiry) s) := by
        refine bound_putEntry h fun d hd => ?_
        rw [judged.1, (entry_mem he).2, he] at hd
        rw [judged.2, Option.some.inj hd]
      dsimp only
      split
      · exact stored
      · exact bound_of_reaches stored (reaches_notify ..)

theorem bound_refreshExpiries : Bound (refreshExpiries s) := by
  refine bound_of_keeps h ⟨rfl, .refl _, fun a e he => ?_⟩ (List.pairwise_map.mpr h.ascending)
  have found : (refreshExpiries s).mtb.entry a = (s.mtb.entry a).map (fun e => { e with expiry := s.sbc.newExpiry }) := by
    simp only [refreshExpiries, State.withMtb_mtb, Mtb.entry, List.find?_map]
    rfl
  rw [found, he]
  rfl

/-! ## Orphaning and reattachment -/

/-- Every binding changed in its state and cause alone. -/
theorem bound_of_map {f : Binding → Binding} (bdt : t.bdt = s.bdt.map f) (routes : t.rme.routes.length = s.rme.routes.length)
    (buses : t.rme.buses.length = s.rme.buses.length)
    (holder : ∀ x c, (t.rme.level x).holder = some c → (s.rme.level x).holder = some c) (asc : Ascending t.mtb.entries)
    (keep : ∀ b, (f b).control = b.control ∧ (f b).target = b.target ∧ ((f b).state = .empty ↔ b.state = .empty))
    (each : ∀ b ∈ s.bdt, BindingFields b → BindingHas s b → BindingFields (f b) ∧ BindingHas t (f b)) : Bound t := by
  obtain ⟨⟨size, routes', buses', old, apart, onRoutes, onBuses⟩, -⟩ := h
  have bound (x : LevelRef) (old : HolderBound s x) : HolderBound t x := by
    intro c hc
    obtain ⟨b, hb, used, control, ref⟩ := old c (holder x c hc)
    obtain ⟨sameControl, sameTarget, empty⟩ := keep b
    exact ⟨f b, by rw [bdt]; exact List.mem_map_of_mem hb, fun he => used (empty.mp he), sameControl.trans control,
      by rw [sameTarget, ref]⟩
  refine ⟨⟨by simp [bdt, size], by rw [routes, routes'], by rw [buses, buses'], fun d hd => ?_, ?_,
    fun id hid => bound _ (onRoutes id hid), fun n hn => bound _ (onBuses n hn)⟩, asc⟩
  · rw [bdt] at hd
    obtain ⟨b, hb, rfl⟩ := List.mem_map.mp hd
    exact each b hb (old b hb).1 (old b hb).2
  · rw [bdt, List.pairwise_map]
    refine apart.imp fun {b d} differ eb ed => ?_
    rw [(keep b).1, (keep d).1]
    exact differ (fun e => eb ((keep b).2.2.mpr e)) (fun e => ed ((keep d).2.2.mpr e))

omit h in
/-- An orphaning touches the engine's holders and the bindings alone. -/
theorem orphanModule_spec (a : Nat) (s : State) :
    (orphanModule a s).mtb = s.mtb ∧ KeepsHolds s.rme (orphanModule a s).rme ∧ (orphanModule a s).bdt = s.bdt.map (fun b =>
      if b.state == .active && b.control.origin == .remote a then { b with state := .orphaned, cause := .lostModule } else b) := by
  have released : Reaches [.rme] s (s.bdt.foldl (fun s b =>
      if b.state == .active && b.control.origin == .remote a then releaseHold b s else s) s) :=
    .foldl _ s fun s b _ => .ite (fun _ => reaches_releaseHold b s) fun _ => .refl s
  refine ⟨released.frame .mtb (by decide), ?_, ?_⟩
  · refine foldl_keeps (P := fun t => KeepsHolds s.rme t.rme) (fun t b _ k => ?_) (.refl _)
    split
    · exact k.trans (keepsHolds_releaseHold b t)
    · exact k
  · have same : Part.same .bdt s _ := released.frame .bdt (by decide)
    simp only [orphanModule, State.withBdt_bdt]
    exact congrArg (List.map _) same

theorem bound_removeModule (a : Nat) (d : ModuleDetail) : Bound (removeModule a d s) := by
  cases he : s.mtb.entry a with
  | none =>
    rw [removeModule_of_none d he]
    exact h
  | some e =>
    have before : Reaches [.records, .sbc, .mtb, .sou] s (purge a (unlist a e d s)) :=
      (reaches_unlist a e d s).andThen (reaches_purge a _)
    have entries : (purge a (unlist a e d s)).mtb.entries = s.mtb.entries.filter (fun x => x.address != a) := by
      rw [show (purge a (unlist a e d s)).mtb = (unlist a e d s).mtb from (reaches_purge a _).frame .mtb (by decide)]
      simp [unlist, notify_eq]
    obtain ⟨mtb, holds, bdt⟩ := orphanModule_spec a (purge a (unlist a e d s))
    rw [show (purge a (unlist a e d s)).bdt = s.bdt from before.frame .bdt (by decide)] at bdt
    rw [show (purge a (unlist a e d s)).rme = s.rme from before.frame .rme (by decide)] at holds
    have gone : Bound (orphanModule a (purge a (unlist a e d s))) := by
      refine bound_of_map h bdt holds.routes holds.buses holds.holder ?_ (fun b => ?_) fun b _ fields has => ?_
      · rw [mtb, entries]
        exact h.ascending.filter _
      · split
        · rename_i leaves
          simp only [Bool.and_eq_true, beq_iff_eq] at leaves
          simp [leaves.1]
        · simp
      · split
        · rename_i leaves
          simp only [Bool.and_eq_true, beq_iff_eq] at leaves
          obtain ⟨cause, rest⟩ := fields
          obtain ⟨route, -⟩ := has
          have none_ : b.cause = .none := by
            by_contra hc
            simp [cause.mpr hc] at leaves
          refine ⟨⟨by simp, fun _ => rest (by simp [leaves.1])⟩, fun _ _ => routeMissing_of_holds holds
            (route (by simp [leaves.1]) (by simp [none_])), nofun⟩
        · rename_i stays
          refine ⟨fields, fun used c => routeMissing_of_holds holds (has.1 used c), fun active => ?_⟩
          obtain ⟨there, serial⟩ := has.2 active
          have same : (orphanModule a (purge a (unlist a e d s))).mtb.entry = fun n => if n = a then none else s.mtb.entry n := by
            funext n
            rw [mtb, Mtb.entry, entries, List.find?_filter]
            split
            · rename_i here
              subst here
              simp
            · rename_i other
              refine congrArg (fun p => List.find? p s.mtb.entries) (funext fun x => ?_)
              by_cases hx : x.address = n <;> simp [hx, other]
          obtain ⟨state, cause, ⟨origin, number⟩, serialB, target, mode, step, feedback⟩ := b
          cases origin with
          | bank => exact ⟨rfl, serial⟩
          | remote n =>
            have other : n ≠ a := by
              rintro rfl
              exact stays (by simp_all)
            simp only [State.moduleMissing, State.serialOf, same, if_neg other] at there serial ⊢
            exact ⟨there, serial⟩
    rw [removeModule_of_some d he]
    split
    · exact gone
    · exact bound_of_reaches gone (reaches_handFrame ..)

/-- R192: the bindings that a module takes up again stand for it as it stands in the table. -/
theorem bound_reattach {a : Nat} {x : Serial} {e : Entry} (there : s.mtb.entry a = some e) (serial : e.serial = x) :
    Bound (reattach a x s) := by
  have back : Bound (s.withBdt (s.bdt.map (fun b =>
      if b.reattaches a x then { b with state := .active, cause := .none } else b))) := by
    refine bound_of_map h (f := fun b => if b.reattaches a x then { b with state := .active, cause := .none } else b) rfl rfl rfl
      (fun _ _ => id) h.ascending (fun b => ?_) fun b _ fields has => ?_
    · split
      · rename_i joins
        simp only [Binding.reattaches, Bool.and_eq_true, beq_iff_eq] at joins
        simp [joins]
      · simp
    · split
      · rename_i joins
        simp only [Binding.reattaches, Bool.and_eq_true, beq_iff_eq] at joins
        obtain ⟨⟨⟨state, cause⟩, origin⟩, same⟩ := joins
        refine ⟨⟨by simp, fun _ => fields.2 (by simp [state])⟩, fun _ _ => has.1 (by simp [state]) (by simp [cause]), fun _ => ?_⟩
        simp [State.moduleMissing, State.serialOf, origin, there, same, serial]
      · exact ⟨fields, has⟩
  refine foldl_keeps (fun t b _ ht => ?_) back
  split
  · exact bound_of_reaches ht (reaches_sendFeedback ..)
  · exact ht

/-! ## Routes that leave and come -/

omit h in
theorem putRoute_holder {m : Rme} {id : Nat} {r : Route} (hr : r.level.holder = none) (x : LevelRef) (c : Control)
    (hc : ((m.putRoute id r).level x).holder = some c) : (m.level x).holder = some c := by
  cases x with
  | bus b => exact hc
  | route n =>
    by_cases same : id = n
    · subst same
      by_cases inside : id < m.routes.length
      · simp [Rme.level, inside, hr] at hc
      · rwa [Rme.putRoute, List.set_eq_of_length_le (Nat.le_of_not_lt inside)] at hc
    · simpa only [Rme.level, putRoute_route_ne m same] using hc

omit h in
theorem keepsHolds_putRoute {m : Rme} {id : Nat} {r : Route} (hr : r.level.holder = none)
    (active : (m.route id).state = .active → r.state = .active) : KeepsHolds m (m.putRoute id r) := by
  refine ⟨by simp [Rme.putRoute], rfl, fun n hn => ?_, putRoute_holder hr⟩
  by_cases same : id = n
  · subst same
    by_cases inside : id < m.routes.length
    · rw [putRoute_route_self inside]
      exact active hn
    · rwa [Rme.putRoute, List.set_eq_of_length_le (Nat.le_of_not_lt inside)]
  · rwa [putRoute_route_ne m same]

omit h in
/-- The route that a lane names in a state is in that state, in that lane. -/
theorem laneRoute_spec {m : Rme} {source dest : Point} {st : RouteState} {id : Nat} (found : m.laneRoute source dest st = some id) :
    id < m.routes.length ∧ (m.route id).state = st ∧ (m.route id).inLane source dest = true := by
  rw [Rme.laneRoute, List.findIdx?_eq_some_iff_getElem] at found
  obtain ⟨inside, passes, -⟩ := found
  rw [Rme.route, List.getD_eq_getElem _ _ inside]
  simpa [inside] using passes

omit h in
theorem keepsHolds_cutReleasing (m : Rme) (source dest : Point) : KeepsHolds m (m.cutReleasing source dest).1 := by
  unfold Rme.cutReleasing
  split
  · rename_i id found
    refine keepsHolds_putRoute rfl fun active => ?_
    rw [(laneRoute_spec found).2.1] at active
    cases active
  · exact .refl m

omit h in
/-- A route that leaves ACTIVE takes no other with it and leaves no holder. -/
theorem demote_spec (m : Rme) (id : Nat) :
    ∃ r : Route, r.level.holder = none ∧ (m.demote id).1 = m.putRoute id r := by
  unfold Rme.demote
  split
  · exact ⟨_, rfl, rfl⟩
  · refine ⟨_, ?_, rfl⟩
    simp only [GainRec.rampTo]
    split <;> rfl

omit h in
/-- R99, R100: what leaving ACTIVE does, one act after the other. -/
theorem leaveActive_eq (id : Nat) (s : State) :
    leaveActive id s =
      notifyAll ((s.rme.cutReleasing (s.rme.route id).source (s.rme.route id).dest).2 ++
          ((s.rme.cutReleasing (s.rme.route id).source (s.rme.route id).dest).1.demote id).2)
        (orphanRoute id (s.withRme ((s.rme.cutReleasing (s.rme.route id).source (s.rme.route id).dest).1.demote id).1)) := rfl

/-- R100, R102: the bindings of the route that leaves ACTIVE are orphaned by it. -/
theorem bound_leaveActive (id : Nat) : Bound (leaveActive id s) := by
  have cut := keepsHolds_cutReleasing s.rme (s.rme.route id).source (s.rme.route id).dest
  obtain ⟨r, unheld, gone⟩ := demote_spec (s.rme.cutReleasing (s.rme.route id).source (s.rme.route id).dest).1 id
  rw [leaveActive_eq, gone]
  refine bound_of_reaches ?_ (reaches_notifyAll ..)
  refine bound_of_map h (f := fun b => if b.state ≠ .empty ∧ b.target.ref = .route id then
    { b with state := .orphaned, cause := .lostRoute } else b) rfl ((List.length_set ..).trans cut.routes) cut.buses
    (fun x c hc => cut.holder x c (putRoute_holder unheld x c hc)) h.ascending (fun b => ?_) fun b _ fields has => ?_
  · split
    · rename_i leaves
      simp [leaves.1]
    · simp
  · split
    · rename_i leaves
      exact ⟨⟨by simp, fun _ => fields.2 leaves.1⟩, fun _ hc => absurd rfl hc, nofun⟩
    · rename_i stays
      refine ⟨fields, fun used c => ?_, has.2⟩
      have there := has.1 used c
      simp only [orphanRoute, State.routeMissing, State.withBdt_rme, State.withRme_rme] at there ⊢
      split
      · rename_i n ref
        have other : id ≠ n := by
          rintro rfl
          exact stays ⟨used, ref⟩
        rw [ref] at there
        simp only [bne_eq_false_iff_eq] at there ⊢
        rw [putRoute_route_ne _ other]
        exact cut.active n there
      · rfl

theorem bound_addRoute (source dest : Point) (gain : Gain) (mute invert : Bool) :
    Bound (addRoute source dest gain mute invert s).1 := by
  have cleared : Bound (clearLane source dest s) := by
    unfold clearLane
    split
    · exact bound_leaveActive h _
    · exact h
  exact bound_withRme cleared (keepsHolds_putRoute (by simp) fun _ => rfl)

/-! ## The search and the scheduler -/

theorem bound_releaseHolders (test : Control → Bool) : Bound (releaseHolders test s) :=
  bound_withRme h (keepsHolds_releaseHolders test s)

theorem bound_rejoin {a : Answer} {e : Entry} (he : e ∈ s.mtb.entries) : Bound (rejoin a e s).1 := by
  have stored : Bound (putEntry { e with kind := a.kind, controls := a.controls, touch := a.touch, meters := a.meters
                                         state := .joining, quality := 0 } s) := by
    refine bound_putEntry h fun d hd => ?_
    rw [entry_of_mem h.ascending he] at hd
    rw [← Option.some.inj hd]
  refine bound_of_reaches ?_ (reaches_setSearch _ _)
  split
  · exact stored
  · exact bound_releaseHolders stored _

theorem bound_refuseModule (a : Answer) : Bound (refuseModule a s).1 := bound_of_reaches h (reaches_refuseModule a s)

omit h in
/-- R158: an address found free holds no entry. -/
theorem lowestAddress_free {a : Nat} (found : s.lowestAddress = some a) :
    s.mtb.entry a = none ∧ 1 ≤ a ∧ a ≤ 30 ∧ ∀ f ∈ s.sou.urgent, f.frame.kind = .release → f.frame.address ≠ a := by
  have free := List.find?_some found
  have range := List.mem_of_find?_eq_some found
  simp only [State.addressFree, Bool.and_eq_true, Option.isNone_iff_eq_none, Bool.not_eq_true', List.any_eq_false] at free
  simp only [List.mem_map, List.mem_range] at range
  obtain ⟨n, hn, rfl⟩ := range
  refine ⟨free.1, by omega, by omega, fun f hf kind same => ?_⟩
  exact free.2 f hf (by simp [kind, same])

theorem bound_joinNew (a : Answer) : Bound (joinNew a s).1 := by
  unfold joinNew
  split
  · exact bound_refuseModule h a
  · rename_i address found
    have stored := bound_putEntry h (e := ⟨address, a.serial, a.kind, a.controls, a.touch, a.meters, .joining, 0,
      Config.joiningExpiry s.fresh⟩) fun d hd => by rw [(lowestAddress_free found).1] at hd; cases hd
    exact bound_of_reaches (bound_of_reaches stored (reaches_withFresh _ _)) (reaches_setSearch _ _)

theorem bound_assignStep (a : Answer) : Bound (assignStep a s).1 := by
  unfold assignStep
  split
  · rename_i found
    exact bound_rejoin h (List.mem_of_find?_eq_some found)
  · split
    · exact bound_joinNew h a
    · split
      · exact bound_joinNew (bound_removeModule h ..) a
      · exact bound_refuseModule h a

theorem bound_schedule : Bound (schedule s) := by
  obtain ⟨-, same⟩ | ⟨-, -, same⟩ | ⟨o, -, -, taken⟩ := schedule_cases s
  · rwa [same]
  · rwa [same]
  · rw [taken]
    cases o with
    | assignStep a => exact bound_of_reaches (bound_assignStep h a) (reaches_startTxn ..)
    | startUp => exact bound_of_reaches h (reaches_withSbc s _)
    | queued q f => exact bound_of_reaches h ((reaches_withSou s _).andThen (reaches_startTxn ..) (rs := [.sbc, .sou]))
    | poll a => exact bound_of_reaches h (reaches_withSbc s _)
    | callStep p => exact bound_of_reaches h (reaches_withSbc s _)

theorem bound_removeModules (d : ModuleDetail) (as : List Nat) : Bound (removeModules d as s) :=
  removeModules_keeps (P := Bound) d (fun a _ h => bound_removeModule h a d) as h

theorem bound_busCleared : Bound (busCleared s) :=
  bound_schedule (bound_of_reaches (bound_refreshExpiries (bound_of_reaches h (reaches_withSbc s _))) (reaches_setBus ..))

theorem bound_busEnabled : Bound (busEnabled s) :=
  bound_schedule (bound_of_reaches (bound_refreshExpiries (bound_of_reaches h (reaches_withSbc s _))) (reaches_setBus ..))

theorem bound_confirmModule {e : Entry} (there : s.mtb.entry e.address = some e) (from_ : Option ModuleState) :
    Bound (confirmModule e from_ s) := by
  have stored := bound_putEntry h (e := { e with state := .online, expiry := s.sbc.newExpiry }) fun d hd => by
    rw [there] at hd
    rw [← Option.some.inj hd]
  refine bound_reattach (bound_of_reaches stored (reaches_notify ..)) (e := { e with state := .online, expiry := s.sbc.newExpiry })
    ?_ rfl
  rw [notify_eq, State.withMsu_mtb, putEntry_entry, if_pos rfl]

theorem bound_stepResult (r : TxnResult) : Bound (stepResult r s) := by
  unfold stepResult
  split
  · exact bound_of_reaches h (reaches_callResult ..)
  · simp only [assignResult]
    have moved : Bound (setSearch s.sbc.search.stepOver s) := bound_of_reaches h (reaches_setSearch ..)
    split
    · exact moved
    · rename_i e joining
      split
      · simp only [State.joiningEntry, Option.filter_eq_some_iff, Bool.and_eq_true] at joining
        refine bound_confirmModule moved ?_ _
        rw [(entry_mem joining.1).2]
        exact joining.1
      · exact bound_removeModule moved ..
  · exact bound_of_reaches h (reaches_setSearch ..)
  · exact h

theorem bound_endTxn (x : Txn) (r : TxnResult) : Bound (endTxn x r s) := by
  refine endTxn_keeps (P := Bound) (Q := Bound) (bound_of_reaches h (reaches_withSbc s _)) (fun t h => bound_judgeModule h _ r)
    (fun _ _ t h => bound_takeEvents h ..) (fun t h => ?_)
  unfold toOwner
  split
  · exact h
  · exact h
  · exact bound_stepResult h r
  · exact bound_of_reaches h (reaches_frameOutcome ..)

theorem bound_endTxnIn (phases : List TxnPhase) (r : TxnResult) : Bound (endTxnIn phases r s) := by
  unfold endTxnIn
  split
  · split
    · exact bound_endTxn h _ r
    · exact h
  · exact h

/-! ## Bindings that are made and cleared -/

omit h in
/-- A record with a holder is there to be replaced. -/
theorem putLevel_level_of_held {m : Rme} {x : LevelRef} {c : Control} (held : (m.level x).holder = some c) (l : GainRec) :
    (m.putLevel x l).level x = l := by
  cases x with
  | route id =>
    have inside : id < m.routes.length := by
      by_contra out
      rw [Rme.level, Rme.route, List.getD_eq_default _ _ (Nat.le_of_not_lt out)] at held
      cases held
    simp only [Rme.level, Rme.putLevel, putRoute_route_self inside]
  | bus b =>
    have inside : b < m.buses.length := by
      by_contra out
      rw [Rme.level, Rme.bus, List.getD_eq_default _ _ (Nat.le_of_not_lt out)] at held
      cases held
    simp only [Rme.level, Rme.putLevel, putBus_bus_self inside]

omit h in
theorem releaseHold_released (b : Binding) (s : State) :
    ((releaseHold b s).rme.level b.target.ref).holder ≠ some b.control := by
  unfold releaseHold
  split
  · rename_i held
    rw [setHolder, State.withRme_rme, putLevel_level_of_held held]
    simp
  · assumption

/-- R184: no other binding that is not EMPTY has a control that is not taken. -/
theorem bound_set {i : Nat} {b : Binding} (hi : i < 32) (bdt : t.bdt = s.bdt.set i b) (mtb : t.mtb = s.mtb)
    (holds : KeepsHolds s.rme t.rme)
    (released : (s.binding i).state ≠ .empty → (t.rme.level (s.binding i).target.ref).holder ≠ some (s.binding i).control)
    (fields : BindingFields b) (has : BindingHas s b) (free : b.state ≠ .empty → s.controlTaken i b.control = false) : Bound t := by
  have same := keepsBinds_of_mtb (s := s) (t := t.withBdt s.bdt) rfl holds mtb
  obtain ⟨⟨size, routes, buses, each, apart, onRoutes, onBuses⟩, asc⟩ := h
  have inside : i < s.bdt.length := by omega
  have bound (x : LevelRef) (old : HolderBound s x) : HolderBound t x := by
    intro c hc
    obtain ⟨d, hd, used, control, ref⟩ := old c (holds.holder x c hc)
    obtain ⟨n, hn, rfl⟩ := List.mem_iff_getElem.mp hd
    by_cases here : n = i
    · subst here
      have there : s.binding n = s.bdt[n] := List.getD_eq_getElem _ _ hn
      exact absurd (by rw [there, ref, control]; exact hc) (released (by rwa [there]))
    · refine ⟨s.bdt[n], ?_, used, control, ref⟩
      rw [bdt, List.mem_iff_getElem]
      exact ⟨n, by simpa using hn, List.getElem_set_ne (Ne.symm here) _⟩
  refine ⟨⟨by simp [bdt, size], by rw [holds.routes, routes], by rw [holds.buses, buses], fun d hd => ?_, ?_,
    fun id hid => bound _ (onRoutes id hid), fun n hn => bound _ (onBuses n hn)⟩, by rwa [mtb]⟩
  · rw [bdt] at hd
    obtain hd | rfl := List.mem_or_eq_of_mem_set hd
    · exact ⟨(each d hd).1, bindingHas_of_keeps same (each d hd).2⟩
    · exact ⟨fields, bindingHas_of_keeps same has⟩
  · have differ (n : Nat) (hn : n < s.bdt.length) (other : n ≠ i) (used : b.state ≠ .empty) (d : s.bdt[n].state ≠ .empty) :
        s.bdt[n].control ≠ b.control := by
      intro clash
      have taken : s.controlTaken i b.control = true := by
        rw [State.controlTaken, List.any_eq_true]
        exact ⟨(n, s.bdt[n]), mem_numbered.mpr ⟨Nat.zero_le _, by simp [hn]⟩, by simp [other, d, clash]⟩
      rw [free used] at taken
      cases taken
    rw [bdt, List.pairwise_iff_getElem]
    rw [List.pairwise_iff_getElem] at apart
    intro n m hn hm lt
    rw [List.length_set] at hn hm
    by_cases hin : i = n
    · subst hin
      rw [List.getElem_set_self, List.getElem_set_ne (Nat.ne_of_lt lt)]
      exact fun used other => (differ m hm (Nat.ne_of_gt lt) used other).symm
    · rw [List.getElem_set_ne hin]
      by_cases him : i = m
      · subst him
        rw [List.getElem_set_self]
        exact fun other used => differ n hn (Nat.ne_of_lt lt) used other
      · rw [List.getElem_set_ne him]
        exact apart n m hn hm lt

theorem bound_storeBinding {i : Nat} {b : Binding} (hi : i < 32) (fields : BindingFields b) (has : BindingHas s b)
    (free : b.state ≠ .empty → s.controlTaken i b.control = false) : Bound (storeBinding i b s) := by
  have start : Reaches [.rme] s (if (s.binding i).state = .empty then s else releaseHold (s.binding i) s) :=
    .ite (fun _ => .refl s) fun _ => reaches_releaseHold _ s
  have stored : Bound ((if (s.binding i).state = .empty then s else releaseHold (s.binding i) s).withBdt
      ((if (s.binding i).state = .empty then s else releaseHold (s.binding i) s).bdt.set i b)) := by
    refine bound_set h hi ?_ (start.frame .mtb (by decide)) ?_ ?_ fields has free
    · rw [show (if (s.binding i).state = .empty then s else releaseHold (s.binding i) s).bdt = s.bdt from
        start.frame .bdt (by decide)]
      rfl
    · rw [State.withBdt_rme]
      split
      · exact .refl _
      · exact keepsHolds_releaseHold ..
    · intro used
      rw [State.withBdt_rme, if_neg used]
      exact releaseHold_released _ _
  unfold storeBinding
  dsimp only
  split
  · exact bound_of_reaches stored (reaches_sendFeedback ..)
  · exact stored

theorem bound_handleBindClear (index : Byte) : Bound (handleBindClear index s).state := by
  unfold handleBindClear
  split
  · exact h
  · rename_i i hi
    split
    · exact h
    · refine bound_set h (i := i) (b := Binding.emptyEntry) ?_
        (congrArg (fun bs => bs.set i Binding.emptyEntry) ((reaches_releaseHold (s.binding i) s).frame .bdt (by decide)))
        ((reaches_releaseHold (s.binding i) s).frame .mtb (by decide)) (keepsHolds_releaseHold ..)
        (fun _ => releaseHold_released _ _) ⟨by simp [Binding.emptyEntry], fun used => absurd rfl used⟩
        ⟨fun used => absurd rfl used, nofun⟩ fun used => absurd rfl used
      simp only [indexBelow] at hi
      split at hi <;> simp_all

omit h in
theorem bindingOf_spec {o c k i m st f : Byte} {b : Binding} (hb : bindingOf o c k i m st f = some b) :
    b.state = .active ∧ b.cause = .none ∧ b.mode.suits b.target = true ∧ 1 ≤ b.step ∧ b.step ≤ 60 ∧
      targetInRange b.target = true ∧ controlInRange b.control = true := by
  unfold bindingOf at hb
  split at hb
  · rename_i control target mode flag hc ht hm hf
    split at hb
    · rename_i suits
      cases hb
      refine ⟨rfl, rfl, suits, by simp only [clampTo]; omega, by simp only [clampTo]; omega, ?_, ?_⟩
      · unfold targetOf at ht
        split at ht <;> simp only [Option.map_eq_some_iff, indexBelow, reduceCtorEq] at ht
        all_goals
          obtain ⟨n, hn, rfl⟩ := ht
          split at hn <;> simp_all [targetInRange, Target.ref]
      · unfold controlOf originOf addressOf at hc
        split at hc
        · split at hc <;> cases hc
          simp_all [controlInRange]
        · rename_i a ha
          split at hc <;> cases hc
          split at ha
          · cases ha
          · simp only [Option.map_eq_some_iff, Option.ite_none_right_eq_some] at ha
            obtain ⟨n, ⟨range, same⟩, rest⟩ := ha
            cases rest
            cases same
            simp_all [controlInRange]
        · cases hc
    · cases hb
  · cases hb

theorem bound_handleBindSet (index origin control targetKind targetIndex mode step feedback : Byte) :
    Bound (handleBindSet index origin control targetKind targetIndex mode step feedback s).state := by
  obtain same | ⟨i, b, hi, hb, taken, module_, route, same⟩ :=
    state_handleBindSet s index origin control targetKind targetIndex mode step feedback <;> rw [same]
  · exact h
  · obtain ⟨active, cause, suits, low, high, target, control⟩ := bindingOf_spec hb
    refine bound_schedule (bound_storeBinding h hi ⟨by simp [active, cause], fun _ => ⟨suits, low, high, target, control, ?_⟩⟩
      ⟨fun _ _ => route, fun _ => ⟨module_, rfl⟩⟩ fun _ => taken)
    simp only [State.serialOf, State.moduleMissing] at module_ ⊢
    split <;> simp_all [← Option.isSome_iff_ne_none]

/-! ## The rows -/

omit h in
theorem keepsHolds_changeRate (m : Rme) : KeepsHolds m m.changeRate.1 := by
  refine keepsHolds_of_map (f := Route.atRateChange) (g := GainRec.finishRamp) rfl rfl (fun r active => ?_) (fun r c hc => ?_) rfl
    (fun l c hc => ?_) rfl
  · simp [Route.atRateChange, active]
  · unfold Route.atRateChange GainRec.finishRamp at hc
    split at hc
    · cases hc
    · split at hc <;> exact hc
  · unfold GainRec.finishRamp at hc
    split at hc <;> exact hc

omit h in
theorem holder_stepRamp (l : GainRec) : l.stepRamp.1.holder = l.holder := by
  unfold GainRec.stepRamp
  split
  · rfl
  · split <;> rfl

omit h in
theorem keepsHolds_stepRamps (m : Rme) : KeepsHolds m m.stepRamps.1 := by
  refine keepsHolds_of_map (f := Route.stepped) (g := fun b => b.stepRamp.1) rfl rfl (fun r active => ?_) (fun r c hc => ?_) rfl
    (fun l c hc => by rwa [holder_stepRamp] at hc) rfl
  · simp [Route.stepped, active]
  · unfold Route.stepped at hc
    dsimp only at hc
    split at hc
    · cases hc
    · rwa [holder_stepRamp] at hc

omit h in
theorem keepsHolds_sameEngine (same : SameEngine s t) : KeepsHolds s.rme t.rme := by
  rw [same]
  exact keepsHolds_of_tables rfl rfl

omit h in
/-- The records after a studio frame are those with every ramp stepped (R113). -/
theorem studioFrame_records (s : State) : (studioFrame s).rme.routes = s.rme.stepRamps.1.routes ∧
    (studioFrame s).rme.buses = s.rme.stepRamps.1.buses ∧ (studioFrame s).rme.rampLength = s.rme.rampLength := by
  have shown (t : State) : (handMeterFrames t).rme = t.rme := (reaches_handMeterFrames t).frame .rme (by decide)
  unfold studioFrame
  dsimp only
  split <;> simp only [shown, notifyMerged_eq] <;> exact ⟨rfl, rfl, rfl⟩

omit h in
theorem studioFrame_mtb (s : State) : (studioFrame s).mtb = s.mtb := by
  have shown (t : State) : (handMeterFrames t).mtb = t.mtb := (reaches_handMeterFrames t).frame .mtb (by decide)
  unfold studioFrame
  dsimp only
  split <;> simp only [shown, notifyMerged_eq] <;> rfl

omit h in
theorem studioFrame_bdt (s : State) : (studioFrame s).bdt = s.bdt := by
  have shown (t : State) : (handMeterFrames t).bdt = t.bdt := (reaches_handMeterFrames t).frame .bdt (by decide)
  unfold studioFrame
  dsimp only
  split <;> simp only [shown, notifyMerged_eq] <;> rfl

theorem bound_studioFrame : Bound (studioFrame s) := by
  obtain ⟨routes, buses, -⟩ := studioFrame_records s
  refine bound_of_keeps h (keepsBinds_of_mtb (studioFrame_bdt s)
    ((keepsHolds_stepRamps s.rme).trans (keepsHolds_of_tables routes buses)) (studioFrame_mtb s)) ?_
  rw [studioFrame_mtb]
  exact h.ascending

theorem bound_finishRoute (id : Nat) : Bound (finishRoute id s) := by
  unfold finishRoute
  dsimp only
  split
  · exact h
  split
  · rename_i releasing
    refine bound_of_reaches (bound_withRme h (keepsHolds_putRoute rfl fun active => ?_)) (reaches_notifyAll ..)
    rw [releasing] at active
    cases active
  · refine bound_withRme h (KeepsHolds.trans (n := s.rme.putLevel (.route id) (s.rme.route id).level.finishRamp)
      (keepsHolds_putLevel fun c hc => ?_) (.refl _))
    simp only [GainRec.finishRamp] at hc
    split at hc <;> exact hc

/-- A change of the rate, of the three reaches the engine alone (R119). -/
theorem bound_changeRate (r : Rate) : Bound (changeRate r s) := by
  refine bound_of_holds h (reaches_changeRate r s) ?_
  simp only [changeRate, notifyMerged_eq, State.withFresh_rme, State.withMsu_rme, withPorts]
  exact (keepsHolds_changeRate s.rme).trans (keepsHolds_of_tables rfl rfl)

end

/-- Nothing is bound and nothing is held at power-on. -/
theorem bound_of_powerOn {s : State} (bdt : s.bdt = State.reset.bdt) (rme : s.rme = State.reset.rme)
    (mtb : s.mtb = State.reset.mtb) : Bound s := by
  have reset : Bound State.reset := ⟨resetMeetsEveryLaw.1.bindings, .nil⟩
  exact bound_of_keeps reset (keepsBinds_of_mtb bdt (by rw [rme]; exact .refl _) mtb) (by rw [mtb]; exact .nil)

theorem handler_bound {c : Instr} {handle : State → Handled} (hc : handlerOf c = some handle) {s : State} (h : Bound s) :
    Bound (handle s).state := by
  have reach := handler_reaches hc s
  have same : leavesEngine c = true → KeepsHolds s.rme (handle s).state.rme :=
    fun leaves => keepsHolds_sameEngine (handler_sameEngine hc leaves s)
  cases c <;> cases hc
  case reset => exact bound_of_powerOn rfl rfl rfl
  case clockSetRate =>
    unfold handleClockSetRate
    split
    · exact h
    · dsimp only [accept]
      split
      · exact h
      · exact bound_changeRate h _
  case routeAdd a b c d =>
    obtain same | ⟨_, _, _, _, _, _, -, -, -, -, -, -, same⟩ := state_handleRouteAdd s a b c d <;> rw [same]
    · exact h
    · exact bound_addRoute h ..
  case routeRemove a =>
    obtain same | ⟨_, -, -, same⟩ := state_handleRouteRemove s a <;> rw [same]
    · exact h
    · exact bound_leaveActive h _
  case routeSetGain a b =>
    obtain same | ⟨_, _, -, -, -, same⟩ := state_handleRouteSetGain s a b <;> rw [same]
    · exact h
    · exact bound_schedule (bound_setTarget h ..)
  case routeSetMute a b =>
    obtain same | ⟨_, _, -, -, same⟩ := state_handleRouteSetMute s a b <;> rw [same]
    · exact h
    · exact bound_schedule (bound_setTarget h ..)
  case busSet a b c d =>
    obtain same | ⟨_, _, _, _, _, -, -, same⟩ := state_handleBusSet s a b c d <;> rw [same]
    · exact h
    · exact bound_schedule (bound_setTarget h ..)
  case rampSet =>
    unfold handleRampSet
    split
    · exact h
    · exact bound_withRme h (keepsHolds_of_tables rfl rfl)
  case meterAssign =>
    unfold handleMeterAssign
    split
    · split
      · exact h
      · exact bound_withRme h (keepsHolds_of_tables rfl rfl)
    · exact h
  case meterRead =>
    unfold handleMeterRead
    dsimp only
    split
    · exact h
    · split
      · exact h
      · exact bound_withRme h (keepsHolds_of_tables rfl rfl)
  case meterSubscribe => exact bound_withRme h (keepsHolds_of_tables rfl rfl)
  case surfaceSetup a b c d =>
    obtain same | ⟨x, -, same⟩ := state_handleSurfaceSetup s a b c d <;> rw [same]
    · exact h
    · have stored : Bound (storeSettings x s) := bound_of_reaches h (reaches_withSbc s _)
      split
      · exact bound_of_reaches (bound_of_reaches stored (reaches_withSbc _ _)) (reaches_setBus ..)
      · split
        · exact bound_busEnabled stored
        · exact stored
  case discover =>
    obtain same | ⟨-, -, same⟩ := state_handleDiscover s <;> rw [same]
    · exact h
    · exact bound_schedule (bound_of_reaches h (reaches_setSearch ..))
  case moduleForget xs =>
    dsimp only
    split
    · obtain same | ⟨_, -, -, same⟩ := state_handleModuleForget s xs <;> rw [same]
      · exact h
      · exact bound_schedule (bound_removeModules h ..)
    · exact h
  case surfaceSend a b c d e f g =>
    dsimp only
    split
    · obtain same | ⟨_, _, _, _, -, -, same⟩ := state_handleSurfaceSend s a b c d e f g <;> rw [same]
      · exact h
      · exact bound_schedule (bound_of_reaches (bound_of_reaches h (reaches_withSou ..)) (reaches_endFrames ..))
    · exact h
  case surfaceAbort a b =>
    obtain same | ⟨_, -, same⟩ := state_handleSurfaceAbort s a b <;> rw [same]
    · exact h
    · exact bound_schedule (bound_of_reaches h (reaches_abortFrames ..))
  case bindSet => exact bound_handleBindSet h ..
  case bindClear => exact bound_handleBindClear h _
  case faderConfig =>
    unfold handleFaderConfig
    split
    · unfold configureFader
      dsimp only
      split
      · exact bound_releaseHolders (bound_of_reaches h (reaches_changeFader ..)) _
      · exact bound_of_reaches h (reaches_changeFader ..)
    · exact h
  all_goals
    dsimp only [reachOf] at reach
    first
    | exact bound_of_reaches h reach
    | exact bound_of_holds h reach (same rfl)

theorem event_bound {c : Instr} (hc : commandOf c = none) (take : c ≠ .takeCommand) {s t : State} (h : Bound s)
    (hx : exec c s = .next t) : Bound t := by
  have reach := event_reaches_of_next hc take hx
  have same : leavesEngine c = true → KeepsHolds s.rme t.rme :=
    fun leaves => keepsHolds_sameEngine (event_sameEngine hc leaves hx)
  have ite {c : Prop} [Decidable c] {a b : State} (ha : Bound a) (hb : Bound b) : Bound (if c then a else b) := by
    split
    · exact ha
    · exact hb
  have opens (cause : StartCause) : Bound (sessionOpens cause s) := by
    have start : Bound ((s.withPhase .running).withMsu { s.msu with cause := cause }) :=
      bound_of_keeps h (keepsBinds_of_mtb rfl (.refl _) rfl) h.ascending
    exact bound_schedule (bound_of_reaches (bound_of_reaches start (reaches_withSbc ..)) (reaches_notify ..))
  cases c <;> cases hc <;> cases hx
  case takeCommand => exact absurd rfl take
  case powerOn => exact bound_of_powerOn rfl rfl rfl
  case initialisationComplete => exact ite (opens _) h
  case resetComplete => exact ite (opens _) h
  case evaluateStudioFrame => exact bound_schedule (bound_studioFrame h)
  case rampEnd record =>
    cases record with
    | route id => exact bound_finishRoute h _
    | bus b =>
      refine bound_withRme h (KeepsHolds.trans (n := s.rme.putLevel (.bus b) (s.rme.bus b).finishRamp)
        (keepsHolds_putLevel fun c hc => ?_) (.refl _))
      simp only [GainRec.finishRamp] at hc
      split at hc <;> exact hc
  case meterPeriodEnd =>
    have measured : Bound (s.withRme s.rme.periodEnd) := bound_withRme h (keepsHolds_of_tables rfl rfl)
    exact ite h (bound_schedule (bound_of_reaches (bound_of_reaches measured (reaches_notifyAll ..)) (reaches_handMeterFrames _)))
  case pollBoundary =>
    exact ite (ite (bound_schedule (bound_of_reaches (bound_removeModules h ..) (reaches_withSbc ..)))
      (bound_of_reaches h (reaches_withSbc ..))) h
  case autoDiscoveryStart => exact ite (bound_schedule (bound_of_reaches h (reaches_setSearch ..))) h
  case busFree => exact ite (bound_schedule (bound_of_reaches h (reaches_withSbc ..))) h
  case frameSendingEnd =>
    split
    · split
      · split
        · exact bound_endTxn (bound_of_reaches h (reaches_withSbc ..)) ..
        · exact bound_of_reaches (bound_of_reaches h (reaches_withSbc ..)) (reaches_withSbc ..)
      · exact h
    · exact bound_of_reaches h (reaches_withSbc ..)
  case replyWindowExpiry => exact ite h (bound_endTxnIn h ..)
  case replyCorrupt => exact bound_endTxnIn h ..
  case replyComplete =>
    split
    · refine ite ?_ h
      split
      · exact bound_endTxn h ..
      · exact h
    · exact h
  case lineBreakStart => exact bound_endTxnIn (bound_of_reaches h (reaches_withSbc ..)) ..
  case clearingCheckEnd =>
    have waits : Bound (waitRetry s) := bound_of_reaches h (reaches_withSbc ..)
    dsimp only
    split
    · exact ite (bound_busCleared h) (ite (bound_of_reaches h (reaches_withSbc ..)) (bound_of_reaches waits (reaches_setBus ..)))
    · exact ite (ite (bound_busCleared h) waits) h
    · exact h
    · exact h
  case frameDelayExpiry => exact bound_schedule (bound_of_reaches h (reaches_withSou ..))
  case servoPeriod samples =>
    have moved {t : State} (i n : Nat) (ht : Bound t) : Bound (emitMoved i n t) := by
      unfold emitMoved emitPosition
      exact ite (bound_deliverEvent (bound_of_reaches ht (reaches_changeFader ..)) _) ht
    refine bound_schedule (foldl_keeps (P := Bound) (fun t i _ ht => bound_of_reaches ht (reaches_driveStep t samples i))
      (foldl_keeps (P := Bound) (fun t i _ ht => ?_) (bound_of_reaches h (reaches_withFsv ..))))
    unfold touchStep
    exact ite ht (ite (moved _ _ (bound_deliverEvent (bound_of_reaches ht (reaches_changeFader ..)) _)) (ite (moved _ _ ht)
      (ite (bound_of_reaches (bound_deliverEvent (bound_of_reaches (moved _ _ ht) (reaches_changeFader ..)) _)
        (reaches_changeFader ..)) ht)))
  all_goals
    dsimp only [reachOf] at reach
    first
    | exact bound_of_reaches h reach
    | exact bound_of_holds h reach (same rfl)

end Sys2Proof.Machine

open Sys2Proof.Machine Sys2Proof.Safety in
/-- Settles O10, row by row: what leaves every binding as it is, and the acts that bind, release, orphan and reattach. -/
theorem bindingsLawKept : Obligations.BindingsLawKept := by
  intro s t sound hstep
  have start : Bound s := ⟨sound.bindings, List.pairwise_map.mp sound.modules.2.1⟩
  have all : Bound t := step_law_of_state (Pre := Bound) (Post := Bound) (ok := fun _ => True) (fun _ => id)
    (fun _ _ h => ⟨h.sound, h.ascending⟩) (fun _ _ _ _ h => ⟨h.sound, h.ascending⟩) (fun _ _ h => ⟨h.sound, h.ascending⟩)
    (fun _ _ _ hc h => handler_bound hc h) (fun _ _ _ hc take _ h hx => event_bound hc take h hx) (fun _ _ => trivial) start
    hstep
  exact all.sound

end

section
/-! PROOFS. The law of the route table and of the mix buses (05, 06): levels and their ramps, the table as a function of the id, the
acts on it, and the obligation assembled from these. -/

namespace Sys2Proof.Machine

open Sys2Proof.Safety

/-! ## Ramps and levels -/

section
variable {m : Ramp} {l : GainRec}

/-- A part of the way from the start: not beyond the target (R111). -/
theorem Ramp.value_between {n : Nat} (short : n ≤ m.length) :
    min m.start m.target ≤ m.value n ∧ m.value n ≤ max m.start m.target := by
  unfold Ramp.value
  obtain up | down := Nat.le_total m.start m.target
  · obtain ⟨d, hd⟩ := Nat.exists_eq_add_of_le up
    have part : Int.tdiv (((m.target : Int) - m.start) * n) m.length = ((d * n / m.length : Nat) : Int) := by
      rw [show ((m.target : Int) - m.start) = (d : Int) by omega]
      exact_mod_cast Int.ofNat_tdiv _ _
    have most : d * n / m.length ≤ d := Nat.div_le_of_le_mul (by rw [Nat.mul_comm]; exact Nat.mul_le_mul_right d short)
    rw [part]
    generalize d * n / m.length = q at most
    omega
  · obtain ⟨d, hd⟩ := Nat.exists_eq_add_of_le down
    have part : Int.tdiv (((m.target : Int) - m.start) * n) m.length = -((d * n / m.length : Nat) : Int) := by
      rw [show ((m.target : Int) - m.start) = -(d : Int) by omega, Int.neg_mul, Int.neg_tdiv]
      exact_mod_cast congrArg Neg.neg (Int.ofNat_tdiv (d * n) m.length)
    have most : d * n / m.length ≤ d := Nat.div_le_of_le_mul (by rw [Nat.mul_comm]; exact Nat.mul_le_mul_right d short)
    rw [part]
    generalize d * n / m.length = q at most
    omega

theorem Ramp.value_zero (m : Ramp) : m.value 0 = m.start := by simp [Ramp.value]

/-- A coefficient is in range where its gain setting is (R109). -/
theorem coeff_le {g : Gain} (h : gainInRange g = true) : g.coeff ≤ 4174456 := by
  cases g with
  | off => exact Nat.zero_le _
  | tenths t =>
    simp only [gainInRange, Bool.and_eq_true, decide_eq_true_eq] at h
    exact coeff_tenths_le h.1 h.2

theorem targetCoeff_le (h : gainInRange l.gain = true) : l.targetCoeff ≤ 4174456 := by
  unfold GainRec.targetCoeff
  split
  · exact Nat.zero_le _
  · exact coeff_le h

/-- The lengths that RAMP_SET allows (R107). -/
abbrev RampLengths : List Nat := [0, 64, 256, 1024, 4096]

theorem rampTo_heading (t n : Nat) : (l.rampTo t n).heading = t := by
  by_cases h : n = 0 <;> simp [GainRec.rampTo, GainRec.heading, h]

theorem rampTo_gain (t n : Nat) : (l.rampTo t n).gain = l.gain ∧ (l.rampTo t n).mute = l.mute ∧ (l.rampTo t n).holder = l.holder := by
  unfold GainRec.rampTo
  split <;> exact ⟨rfl, rfl, rfl⟩

theorem levelSound_rampTo (h : LevelSound l) {t n : Nat} (ht : t ≤ 4174456) (hn : n ∈ RampLengths) : LevelSound (l.rampTo t n) := by
  obtain ⟨gain, coeff, -⟩ := h
  unfold GainRec.rampTo
  split
  · exact ⟨gain, ht, by simp⟩
  · rename_i nonzero
    refine ⟨gain, coeff, fun m hm => ?_⟩
    cases hm
    refine ⟨by simp_all, Nat.pos_of_ne_zero nonzero, coeff, ht, by rw [Ramp.value_zero], Nat.min_le_left .., Nat.le_max_left ..⟩

theorem levelSound_setTarget (h : LevelSound l) {g : Option Gain} {m : Option Bool} {n : Nat}
    (hg : ∀ x ∈ g, gainInRange x = true) (hn : n ∈ RampLengths) :
    LevelSound (l.setTarget g m n) ∧ (l.setTarget g m n).heading = (l.setTarget g m n).targetCoeff := by
  obtain ⟨gain, coeff, ramp⟩ := h
  have range : gainInRange (g.getD l.gain) = true := by
    cases g with
    | none => exact gain
    | some x => exact hg x rfl
  have given : LevelSound { l with gain := g.getD l.gain, mute := m.getD l.mute } := ⟨range, coeff, ramp⟩
  unfold GainRec.setTarget
  dsimp only
  split
  · rename_i same
    exact ⟨given, same.symm⟩
  · refine ⟨levelSound_rampTo given (targetCoeff_le given.1) hn, ?_⟩
    rw [rampTo_heading, GainRec.targetCoeff, GainRec.targetCoeff, (rampTo_gain _ _).1, (rampTo_gain _ _).2.1]

theorem levelSound_unheld (h : LevelSound l) (c : Option Control) :
    LevelSound { l with holder := c } ∧ ({ l with holder := c } : GainRec).heading = l.heading ∧
      ({ l with holder := c } : GainRec).targetCoeff = l.targetCoeff := ⟨h, rfl, rfl⟩

theorem stepRamp_heading : l.stepRamp.1.heading = l.heading := by
  cases h : l.ramp with
  | none => simp [GainRec.stepRamp, GainRec.heading, h]
  | some m => by_cases last : m.length ≤ m.step + 1 <;> simp [GainRec.stepRamp, GainRec.heading, h, last]

theorem stepRamp_gain : l.stepRamp.1.gain = l.gain ∧ l.stepRamp.1.mute = l.mute := by
  unfold GainRec.stepRamp
  split
  · exact ⟨rfl, rfl⟩
  · split <;> exact ⟨rfl, rfl⟩

theorem levelSound_stepRamp (h : LevelSound l) : LevelSound l.stepRamp.1 := by
  obtain ⟨gain, coeff, ramp⟩ := h
  unfold GainRec.stepRamp
  split
  · exact ⟨gain, coeff, ramp⟩
  · rename_i m hm
    have sound := ramp m hm
    obtain ⟨lengths, step, start, target, -⟩ := sound
    split
    · exact ⟨gain, target, by simp⟩
    · rename_i more
      have between := Ramp.value_between (m := m) (n := m.step + 1) (by omega)
      refine ⟨gain, ?_, fun m' hm' => ?_⟩
      · dsimp only
        omega
      · cases hm'
        exact ⟨lengths, by dsimp only; omega, start, target, rfl, between⟩

theorem levelSound_finishRamp (h : LevelSound l) :
    LevelSound l.finishRamp ∧ l.finishRamp.heading = l.heading ∧ l.finishRamp.targetCoeff = l.targetCoeff := by
  obtain ⟨gain, coeff, ramp⟩ := h
  cases hm : l.ramp with
  | none =>
    simp only [GainRec.finishRamp, hm]
    exact ⟨⟨gain, coeff, ramp⟩, trivial, trivial⟩
  | some m =>
    obtain ⟨-, -, -, target, -⟩ := ramp m hm
    simp only [GainRec.finishRamp, GainRec.heading, hm]
    exact ⟨⟨gain, target, by simp⟩, trivial, rfl⟩

end

/-! ## Gain settings -/

theorem gainInRange_clamped {h : Half} {g : Gain} (hg : gainOf h = some g) : gainInRange g.clamped = true := by
  unfold gainOf at hg
  split at hg
  · cases hg
    rfl
  · split at hg
    · cases hg
    · cases hg
      simp only [Gain.clamped, gainInRange, Bool.and_eq_true, decide_eq_true_eq]
      omega

theorem gainInRange_taper {p : Nat} (hp : p ≤ 1023) : gainInRange (taper p) = true := by
  unfold taper
  split
  · rfl
  split
  · simp only [gainInRange, Bool.and_eq_true, decide_eq_true_eq]
    omega
  split
  · simp only [gainInRange, Bool.and_eq_true, decide_eq_true_eq]
    omega
  · simp only [gainInRange, Bool.and_eq_true, decide_eq_true_eq]
    omega

theorem gainInRange_encoderGain {g : Gain} (h : gainInRange g = true) (d : Int) (step : Nat) :
    gainInRange (encoderGain g d step) = true := by
  unfold encoderGain
  split
  · split <;> rfl
  · split
    · rfl
    · simp only [gainInRange, Bool.and_eq_true, decide_eq_true_eq] at h ⊢
      omega

/-! ## The table as a function of the id -/

/-- The law of the engine, entry by entry. -/
structure RoutesLaw (m : Rme) : Prop where
  routes : m.routes.length = 128
  buses : m.buses.length = 8
  length : m.rampLength ∈ RampLengths
  route : ∀ id, RouteSound (m.route id)
  apart : ∀ i j, i ≠ j → ¬ laneClash (m.route i) (m.route j)
  bus : ∀ b, LevelSound (m.bus b) ∧ (m.bus b).heading = (m.bus b).targetCoeff

theorem routeSound_freeEntry : RouteSound Route.freeEntry :=
  ⟨fun _ => rfl, fun used => absurd rfl used, nofun, nofun⟩

theorem laneClash_comm {r q : Route} (h : laneClash r q) : laneClash q r := by
  obtain ⟨used, same, lane⟩ := h
  refine ⟨same ▸ used, same.symm, ?_⟩
  unfold Route.inLane at *
  rw [Bool.and_eq_true, beq_iff_eq] at *
  obtain ⟨dest, lane⟩ := lane
  refine ⟨dest.symm, ?_⟩
  rw [dest]
  split at lane
  · rw [beq_iff_eq] at lane ⊢
    exact lane.symm
  · rfl

theorem levelSound_busPowerOn : LevelSound GainRec.busPowerOn ∧ GainRec.busPowerOn.heading = GainRec.busPowerOn.targetCoeff :=
  ⟨⟨by decide, by decide, by simp [GainRec.busPowerOn]⟩, by decide +kernel⟩

theorem routesLaw_iff {m : Rme} : RoutesLaw m ↔ RoutesSound m := by
  constructor
  · rintro ⟨routes, buses, length, route, apart, bus⟩
    refine ⟨routes, buses, length, fun r hr => ?_, ?_, fun l hl => ?_⟩
    · obtain ⟨i, hi, rfl⟩ := List.mem_iff_getElem.mp hr
      rw [← List.getD_eq_getElem m.routes Route.freeEntry hi]
      exact route i
    · rw [List.pairwise_iff_getElem]
      intro i j hi hj lt
      rw [← List.getD_eq_getElem m.routes Route.freeEntry hi, ← List.getD_eq_getElem m.routes Route.freeEntry hj]
      exact apart i j (Nat.ne_of_lt lt)
    · obtain ⟨i, hi, rfl⟩ := List.mem_iff_getElem.mp hl
      rw [← List.getD_eq_getElem m.buses GainRec.busPowerOn hi]
      exact bus i
  · rintro ⟨routes, buses, length, route, apart, bus⟩
    rw [List.pairwise_iff_getElem] at apart
    have inside (i : Nat) (hi : i < m.routes.length) : m.route i = m.routes[i] := List.getD_eq_getElem _ _ hi
    have out (i : Nat) (hi : ¬ i < m.routes.length) : m.route i = Route.freeEntry := List.getD_eq_default _ _ (Nat.le_of_not_lt hi)
    refine ⟨routes, buses, length, fun i => ?_, fun i j differ clash => ?_, fun b => ?_⟩
    · by_cases hi : i < m.routes.length
      · rw [inside i hi]
        exact route _ (List.getElem_mem _)
      · rw [out i hi]
        exact routeSound_freeEntry
    · by_cases hi : i < m.routes.length
      · by_cases hj : j < m.routes.length
        · rw [inside i hi, inside j hj] at clash
          obtain lt | gt := Nat.lt_or_gt_of_ne differ
          · exact apart i j hi hj lt clash
          · exact apart j i hj hi gt (laneClash_comm clash)
        · rw [out j hj] at clash
          exact clash.1 clash.2.1.symm
      · rw [out i hi] at clash
        exact clash.1 rfl
    · by_cases hb : b < m.buses.length
      · rw [Rme.bus, List.getD_eq_getElem _ _ hb]
        exact bus _ (List.getElem_mem _)
      · rw [Rme.bus, List.getD_eq_default _ _ (Nat.le_of_not_lt hb)]
        exact levelSound_busPowerOn

/-! ## The acts on the table -/

theorem route_putRoute (m : Rme) (id n : Nat) (r : Route) :
    (m.putRoute id r).route n = if n = id ∧ id < m.routes.length then r else m.route n := by
  by_cases same : id = n
  · subst same
    by_cases inside : id < m.routes.length
    · simp [inside]
    · rw [Rme.putRoute, List.set_eq_of_length_le (Nat.le_of_not_lt inside)]
      simp [inside]
  · rw [putRoute_route_ne m same, if_neg fun h => same h.1.symm]

section
variable {m : Rme} (h : RoutesLaw m)
include h

/-- An entry replaced by one that clashes with none of the others. -/
theorem routesLaw_putRoute {id : Nat} {r : Route} (sound : RouteSound r)
    (clear : ∀ n, n ≠ id → ¬ laneClash r (m.route n)) : RoutesLaw (m.putRoute id r) := by
  refine ⟨by simpa [Rme.putRoute] using h.routes, h.buses, h.length, fun n => ?_, fun i j differ => ?_, h.bus⟩
  · rw [route_putRoute]
    split
    · exact sound
    · exact h.route n
  · rw [route_putRoute, route_putRoute]
    split
    · rename_i here
      rw [if_neg fun there => differ (here.1.trans there.1.symm)]
      exact clear j fun there => differ (here.1.trans there.symm)
    · split
      · rename_i there
        exact fun clash => clear i (fun here => differ (here.trans there.1.symm)) (laneClash_comm clash)
      · exact h.apart i j differ

/-- An entry that keeps its state and its points. -/
theorem routesLaw_putRoute_same {id : Nat} {r : Route} (sound : RouteSound r) (state : r.state = (m.route id).state)
    (source : r.source = (m.route id).source) (dest : r.dest = (m.route id).dest) : RoutesLaw (m.putRoute id r) := by
  refine routesLaw_putRoute h sound fun n other clash => h.apart id n (Ne.symm other) ?_
  unfold laneClash at *
  rwa [state, source, dest] at clash

theorem routesLaw_free (id : Nat) : RoutesLaw (m.putRoute id Route.freeEntry) :=
  routesLaw_putRoute h routeSound_freeEntry fun _ _ clash => clash.1 rfl

theorem routesLaw_putBus {b : Nat} {l : GainRec} (sound : LevelSound l) (heads : l.heading = l.targetCoeff) :
    RoutesLaw (m.putBus b l) := by
  refine ⟨h.routes, by simpa [Rme.putBus] using h.buses, h.length, h.route, h.apart, fun n => ?_⟩
  obtain ⟨-, new⟩ | old := level_putLevel m (.bus b) (.bus n) l
  · rw [show (m.putBus b l).bus n = l from new]
    exact ⟨sound, heads⟩
  · rw [show (m.putBus b l).bus n = m.bus n from old]
    exact h.bus n

/-- Every entry and every bus changed alike, entries keeping their points and their state or becoming FREE. -/
theorem routesLaw_of_map {n : Rme} {f : Route → Route} {g : GainRec → GainRec} (routes : n.routes = m.routes.map f)
    (buses : n.buses = m.buses.map g) (length : n.rampLength ∈ RampLengths) (sound : ∀ r, RouteSound r → RouteSound (f r))
    (keep : ∀ r, (f r).state = .free ∨ ((f r).state = r.state ∧ (f r).source = r.source ∧ (f r).dest = r.dest))
    (bus : ∀ l, LevelSound l ∧ l.heading = l.targetCoeff → LevelSound (g l) ∧ (g l).heading = (g l).targetCoeff) : RoutesLaw n := by
  rw [routesLaw_iff] at h ⊢
  obtain ⟨size, size', -, each, apart, eachBus⟩ := h
  refine ⟨by simp [routes, size], by simp [buses, size'], length, fun r hr => ?_, ?_, fun l hl => ?_⟩
  · rw [routes] at hr
    obtain ⟨q, hq, rfl⟩ := List.mem_map.mp hr
    exact sound q (each q hq)
  · rw [routes, List.pairwise_map]
    refine apart.imp fun {r q} clear clash => clear ?_
    obtain ⟨used, same, lane⟩ := clash
    obtain freed | ⟨state, source, dest⟩ := keep r
    · exact absurd freed used
    · obtain freed | ⟨state', source', dest'⟩ := keep q
      · exact absurd (same.symm.trans freed) used
      · refine ⟨state ▸ used, state'.symm.trans (same.trans state), ?_⟩
        unfold Route.inLane at *
        rwa [source, dest, source', dest'] at lane
  · rw [buses] at hl
    obtain ⟨k, hk, rfl⟩ := List.mem_map.mp hl
    exact bus k (eachBus k hk)

theorem routesLaw_of_tables {n : Rme} (routes : n.routes = m.routes) (buses : n.buses = m.buses)
    (length : n.rampLength ∈ RampLengths) : RoutesLaw n :=
  routesLaw_of_map h (f := id) (g := id) (by simpa using routes) (by simpa using buses) length (fun _ => id)
    (fun _ => .inr ⟨rfl, rfl, rfl⟩) (fun _ => id)

/-- R95: the record that a set-target names, an ACTIVE route's or a bus's, heads for what it is given. -/
theorem routesLaw_setTarget {x : LevelRef} (active : ∀ id, x = .route id → (m.route id).state = .active) {g : Option Gain}
    {mu : Option Bool} (hg : ∀ y ∈ g, gainInRange y = true) :
    RoutesLaw (m.putLevel x ((m.level x).setTarget g mu m.rampLength)) := by
  cases x with
  | route id =>
    have now := active id rfl
    obtain ⟨-, used, -, -⟩ := h.route id
    obtain ⟨source, dest, order, level⟩ := used (by simp [now])
    obtain ⟨sound, heads⟩ := levelSound_setTarget level (m := mu) hg h.length
    refine routesLaw_putRoute_same h ⟨fun free => ?_, fun _ => ⟨source, dest, order, sound⟩, fun _ => heads, fun gone => ?_⟩ rfl rfl
      rfl
    · rw [now] at free
      cases free
    · rw [now] at gone
      cases gone
  | bus b =>
    obtain ⟨sound, heads⟩ := levelSound_setTarget (h.bus b).1 (m := mu) hg h.length
    exact routesLaw_putBus h sound heads

/-- A holder set on an ACTIVE route or on a bus, or cleared anywhere. -/
theorem routesLaw_setHolder {x : LevelRef} {c : Option Control}
    (active : c ≠ none → ∀ id, x = .route id → (m.route id).state = .active) :
    RoutesLaw (m.putLevel x { m.level x with holder := c }) := by
  cases x with
  | route id =>
    obtain ⟨free, used, heads, releasing⟩ := h.route id
    refine routesLaw_putRoute_same h ⟨fun is => ?_, used, heads, fun gone => ?_⟩ rfl rfl rfl
    · have entry := free is
      have none_ : c = none := by
        by_contra some_
        rw [active some_ id rfl] at is
        cases is
      rw [entry, none_]
      simp [Rme.level, entry, Route.freeEntry]
    · have none_ : c = none := by
        by_contra some_
        rw [active some_ id rfl] at gone
        cases gone
      obtain ⟨head, ramp, -⟩ := releasing gone
      exact ⟨head, ramp, none_⟩
  | bus b => exact routesLaw_putBus h (h.bus b).1 (h.bus b).2

theorem routesLaw_releaseHolders (test : Control → Bool) {s : State} (same : s.rme = m) :
    RoutesLaw (releaseHolders test s).rme := by
  subst same
  have unheld (l : GainRec) : l.unheld test = l ∨ l.unheld test = { l with holder := none } := by
    unfold GainRec.unheld
    split
    · exact .inr rfl
    · exact .inl rfl
  refine routesLaw_of_map h (f := fun r => { r with level := r.level.unheld test }) (g := fun l => l.unheld test) rfl rfl h.length
    (fun r sound => ?_) (fun _ => .inr ⟨rfl, rfl, rfl⟩) fun l sound => ?_
  · obtain ⟨free, used, heads, releasing⟩ := sound
    obtain same | cleared := unheld r.level
    · simp only [same]
      exact ⟨free, used, heads, releasing⟩
    · simp only [cleared]
      refine ⟨fun is => ?_, used, heads, fun gone => ?_⟩
      · rw [free is]
        rfl
      · obtain ⟨head, ramp, -⟩ := releasing gone
        exact ⟨head, ramp, rfl⟩
  · obtain same | cleared := unheld l
    · rw [same]
      exact sound
    · rw [cleared]
      exact sound

/-! ## Lanes -/

omit h in
theorem inLane_of_inLane {r q : Route} {source dest : Point} (hr : r.inLane source dest = true) (hq : q.inLane source dest = true) :
    q.inLane r.source r.dest = true := by
  unfold Route.inLane at *
  simp only [Bool.and_eq_true, beq_iff_eq] at *
  obtain ⟨rfl, laneR⟩ := hr
  refine ⟨hq.1, ?_⟩
  have laneQ := hq.2
  cases hd : r.dest <;> simp_all

omit h in
theorem inLane_congr {r q : Route} {source dest : Point} (hr : r.inLane source dest = true) (hq : q.inLane r.source r.dest = true) :
    q.inLane source dest = true := by
  unfold Route.inLane at *
  simp only [Bool.and_eq_true, beq_iff_eq] at *
  obtain ⟨rfl, laneR⟩ := hr
  refine ⟨hq.1, ?_⟩
  have laneQ := hq.2
  cases hd : r.dest <;> simp_all

omit h in
/-- Where a lane names no route in a state, none is there. -/
theorem laneRoute_none {source dest : Point} {st : RouteState} (found : m.laneRoute source dest st = none) (used : st ≠ .free) (n : Nat)
    (state : (m.route n).state = st) : (m.route n).inLane source dest = false := by
  rw [Rme.laneRoute, List.findIdx?_eq_none_iff] at found
  by_cases inside : n < m.routes.length
  · have passes := found (m.route n) (by
      rw [Rme.route, List.getD_eq_getElem _ _ inside]
      exact List.getElem_mem _)
    simpa [state] using passes
  · rw [Rme.route, List.getD_eq_default _ _ (Nat.le_of_not_lt inside)] at state
    exact absurd state.symm used

/-- A lane has one route in a state (R93): it is the one that the lane names. -/
theorem laneRoute_only {source dest : Point} {st : RouteState} {id n : Nat} (found : m.laneRoute source dest st = some id)
    (used : st ≠ .free) (state : (m.route n).state = st) (lane : (m.route n).inLane source dest = true) : n = id := by
  obtain ⟨-, stateId, laneId⟩ := laneRoute_spec found
  by_contra differ
  exact h.apart id n (Ne.symm differ) ⟨stateId ▸ used, state.trans stateId.symm, inLane_of_inLane laneId lane⟩

/-- R99 step 1: afterwards the lane has no RELEASING route, and every other route stands as it was. -/
theorem cutReleasing_spec (source dest : Point) :
    RoutesLaw (m.cutReleasing source dest).1 ∧ (m.cutReleasing source dest).1.rampLength = m.rampLength ∧
      (∀ n, ((m.cutReleasing source dest).1.route n).state = .releasing →
        ((m.cutReleasing source dest).1.route n).inLane source dest = false) ∧
      ∀ n, (m.route n).state = .active ∨ ((m.cutReleasing source dest).1.route n).state = .active →
        (m.cutReleasing source dest).1.route n = m.route n := by
  unfold Rme.cutReleasing
  split
  · rename_i id found
    refine ⟨routesLaw_free h id, rfl, fun n => ?_, fun n active => ?_⟩ <;> simp only [Rme.freeRoute, route_putRoute]
    · split
      · exact nofun
      · rename_i other
        intro releasing
        by_contra lane
        refine other ⟨laneRoute_only h found nofun releasing (by simpa using lane), (laneRoute_spec found).1⟩
    · split
      · rename_i here
        simp only [Rme.freeRoute] at active
        rw [here.1, route_putRoute, if_pos ⟨rfl, here.2⟩, (laneRoute_spec found).2.1] at active
        obtain active | active := active <;> cases active
      · rfl
  · rename_i none_
    exact ⟨h, rfl, fun n releasing => laneRoute_none none_ nofun n releasing, fun _ _ => rfl⟩

/-- R99, R100: a route leaves ACTIVE, and no other enters or leaves it. -/
theorem demote_law {id : Nat} (active : (m.route id).state = .active)
    (clear : ∀ n, (m.route n).state = .releasing → (m.route n).inLane (m.route id).source (m.route id).dest = false) :
    RoutesLaw (m.demote id).1 ∧ ∀ n, ((m.demote id).1.route n).state = .active → n ≠ id ∧ (m.demote id).1.route n = m.route n := by
  have inside : id < m.routes.length := by
    by_contra out
    rw [Rme.route, List.getD_eq_default _ _ (Nat.le_of_not_lt out)] at active
    cases active
  have left (r : Route) (gone : r.state ≠ .active) (n : Nat) (now : ((m.putRoute id r).route n).state = .active) :
      n ≠ id ∧ (m.putRoute id r).route n = m.route n := by
    rw [route_putRoute] at now ⊢
    split at now
    · exact absurd now gone
    · rename_i other
      exact ⟨fun same => other ⟨same, inside⟩, if_neg other⟩
  unfold Rme.demote
  split
  · exact ⟨routesLaw_free h id, left _ nofun⟩
  · rename_i nonzero
    refine ⟨routesLaw_putRoute h ?_ fun n other clash => ?_, left _ nofun⟩
    · obtain ⟨-, used, -⟩ := h.route id
      obtain ⟨source, dest, order, level⟩ := used (by simp [active])
      refine ⟨nofun, fun _ => ⟨source, dest, order, ?_⟩, nofun, fun _ => ⟨rampTo_heading .., ?_, (rampTo_gain ..).2.2⟩⟩
      · exact levelSound_rampTo (levelSound_unheld level none).1 (Nat.zero_le _) h.length
      · rw [GainRec.rampTo, if_neg nonzero]
        rfl
    · have none_ := clear n clash.2.1
      rw [clash.2.2] at none_
      cases none_

omit h in
/-- A route that leaves ACTIVE leaves its lane without an ACTIVE route. -/
theorem leaveActive_law {s : State} (law : RoutesLaw s.rme) {id : Nat} (active : (s.rme.route id).state = .active) :
    RoutesLaw (leaveActive id s).rme ∧
      ∀ n, ((leaveActive id s).rme.route n).state = .active → n ≠ id ∧ (leaveActive id s).rme.route n = s.rme.route n := by
  obtain ⟨cut, -, clear, same⟩ := cutReleasing_spec law (s.rme.route id).source (s.rme.route id).dest
  obtain ⟨done, others⟩ := demote_law cut (id := id) (by rw [same id (.inl active), active])
    (by rw [same id (.inl active)]; exact clear)
  have rme : (leaveActive id s).rme = ((s.rme.cutReleasing (s.rme.route id).source (s.rme.route id).dest).1.demote id).1 := by
    rw [leaveActive_eq, notifyAll_eq]
    rfl
  rw [rme]
  refine ⟨done, fun n now => ?_⟩
  obtain ⟨other, kept⟩ := others n now
  rw [kept] at now
  exact ⟨other, kept.trans (same n (.inr now))⟩

omit h in
/-- R98, R99: a new route in a lane that has been cleared for it. -/
theorem addRoute_law {s : State} (law : RoutesLaw s.rme) {source dest : Point} {gain : Gain} (mute invert : Bool)
    (hs : source.isSource = true) (hd : dest.isSource = false) (order : badOrder source dest = false)
    (hg : gainInRange gain = true) : RoutesLaw (addRoute source dest gain mute invert s).1.rme := by
  have cleared : RoutesLaw (clearLane source dest s).rme ∧ ∀ n, ((clearLane source dest s).rme.route n).state = .active →
      ((clearLane source dest s).rme.route n).inLane source dest = false := by
    unfold clearLane
    split
    · rename_i id found
      obtain ⟨done, others⟩ := leaveActive_law law (laneRoute_spec found).2.1
      refine ⟨done, fun n now => ?_⟩
      obtain ⟨other, kept⟩ := others n now
      rw [kept] at now ⊢
      by_contra lane
      exact other (laneRoute_only law found nofun now (by simpa using lane))
    · rename_i none_
      exact ⟨law, fun n now => laneRoute_none none_ nofun n now⟩
  obtain ⟨done, clear⟩ := cleared
  have start : LevelSound ⟨gain, mute, 0, none, none⟩ := ⟨hg, Nat.zero_le _, by simp⟩
  obtain ⟨level, heads⟩ := levelSound_setTarget start (g := none) (m := none) (by simp) done.length
  refine routesLaw_putRoute done ⟨nofun, fun _ => ⟨hs, hd, order, level⟩, fun _ => heads, nofun⟩ fun n _ clash => ?_
  have none_ := clear n clash.2.1
  rw [clash.2.2] at none_
  cases none_

/-! ## Ramps that step or finish -/

omit h in
theorem routeSound_stepped {r : Route} (sound : RouteSound r) : RouteSound r.stepped := by
  obtain ⟨free, used, heads, releasing⟩ := sound
  unfold Route.stepped
  dsimp only
  split
  · exact routeSound_freeEntry
  · rename_i goes
    refine ⟨fun is => ?_, fun is => ?_, fun is => ?_, fun is => ?_⟩
    · rw [free is]
      rfl
    · obtain ⟨source, dest, order, level⟩ := used is
      exact ⟨source, dest, order, levelSound_stepRamp level⟩
    · rw [stepRamp_heading, heads is, GainRec.targetCoeff, GainRec.targetCoeff, stepRamp_gain.1, stepRamp_gain.2]
    · obtain ⟨head, ramp, holder⟩ := releasing is
      refine ⟨stepRamp_heading.trans head, ?_, (holder_stepRamp _).trans holder⟩
      obtain ⟨w, hw⟩ := Option.isSome_iff_exists.mp ramp
      by_cases last : w.length ≤ w.step + 1
      · exact absurd ⟨is, by simp [GainRec.stepRamp, hw, last]⟩ goes
      · simp [GainRec.stepRamp, hw, last]

theorem routesLaw_stepRamps : RoutesLaw m.stepRamps.1 := by
  refine routesLaw_of_map h (f := Route.stepped) (g := fun b => b.stepRamp.1) rfl rfl h.length (fun _ => routeSound_stepped)
    (fun r => ?_) fun l ⟨sound, heads⟩ => ⟨levelSound_stepRamp sound, ?_⟩
  · unfold Route.stepped
    dsimp only
    split
    · exact .inl rfl
    · exact .inr ⟨rfl, rfl, rfl⟩
  · rw [stepRamp_heading, heads, GainRec.targetCoeff, GainRec.targetCoeff, stepRamp_gain.1, stepRamp_gain.2]

omit h in
theorem routeSound_finished {r : Route} (sound : RouteSound r) (stays : r.state ≠ .releasing) :
    RouteSound { r with level := r.level.finishRamp } := by
  obtain ⟨free, used, heads, -⟩ := sound
  refine ⟨fun is => ?_, fun is => ?_, fun is => ?_, fun is => absurd is stays⟩
  · rw [free is]
    rfl
  · obtain ⟨source, dest, order, level⟩ := used is
    exact ⟨source, dest, order, (levelSound_finishRamp level).1⟩
  · obtain ⟨-, -, -, level⟩ := used (by rw [show r.state = .active from is]; nofun)
    obtain ⟨-, heading, target⟩ := levelSound_finishRamp level
    exact heading.trans ((heads is).trans target.symm)

omit h in
theorem busSound_finished {l : GainRec} (sound : LevelSound l ∧ l.heading = l.targetCoeff) :
    LevelSound l.finishRamp ∧ l.finishRamp.heading = l.finishRamp.targetCoeff := by
  obtain ⟨level, heading, target⟩ := levelSound_finishRamp sound.1
  exact ⟨level, heading.trans (sound.2.trans target.symm)⟩

theorem routesLaw_changeRate : RoutesLaw m.changeRate.1 := by
  refine routesLaw_of_map h (f := Route.atRateChange) (g := GainRec.finishRamp) rfl rfl h.length (fun r sound => ?_) (fun r => ?_)
    fun _ => busSound_finished
  · unfold Route.atRateChange
    split
    · exact routeSound_freeEntry
    · exact routeSound_finished sound ‹_›
  · unfold Route.atRateChange
    split
    · exact .inl rfl
    · exact .inr ⟨rfl, rfl, rfl⟩

end

theorem routesLaw_powerOn : RoutesLaw Rme.powerOn := routesLaw_iff.mpr resetMeetsEveryLaw.1.routes

/-! ## The acts of the surface -/

/-- The law of the engine, with what the surface's acts on it need: ACTIVE bindings are on ACTIVE routes, and fader positions
are in range. -/
structure Routed (s : State) : Prop where
  law : RoutesLaw s.rme
  bound : Bound s
  faders : FadersSound s.fsv

section
variable {s t : State}

/-- R192: the route of an ACTIVE binding is ACTIVE. -/
theorem active_of_bound (h : Bound s) {b : Binding} (hb : b ∈ s.bdt) (active : b.state = .active) {id : Nat}
    (ref : b.target.ref = .route id) : (s.rme.route id).state = .active := by
  obtain ⟨⟨cause, -⟩, route, -⟩ := h.sound.2.2.2.1 b hb
  have none_ : b.cause = .none := by
    by_contra some_
    have := cause.mpr some_
    rw [active] at this
    cases this
  have there := route (by simp [active]) (by simp [none_])
  rw [State.routeMissing, ref] at there
  simpa using there

theorem law_of_rme (h : RoutesLaw s.rme) (rme : t.rme = s.rme) : RoutesLaw t.rme := by rwa [rme]

theorem law_of_reaches (h : RoutesLaw s.rme) {ps : List Part} (r : Reaches ps s t) (rme : Part.rme ∉ ps := by decide) :
    RoutesLaw t.rme := law_of_rme h (r.frame .rme rme)

theorem law_setTarget (h : RoutesLaw s.rme) {x : LevelRef} (active : ∀ id, x = .route id → (s.rme.route id).state = .active)
    {g : Option Gain} {m : Option Bool} {cause : Option Nat} (hg : ∀ y ∈ g, gainInRange y = true) :
    RoutesLaw (setTarget x g m cause s).rme := by
  rw [setTarget_eq]
  exact routesLaw_setTarget h active hg

theorem law_boundEvent (h : RoutesLaw s.rme) (bound : Bound s) {i : Nat} {b : Binding} {e : SurfaceEvent} (fits : e.Fits)
    (hb : b ∈ s.bdt) (active : b.state = .active) : RoutesLaw (boundEvent i b e s).rme := by
  have on : ∀ id, b.target.ref = .route id → (s.rme.route id).state = .active := fun id => active_of_bound bound hb active
  have given : RoutesLaw (setHolder b.target.ref (some b.control) s).rme := routesLaw_setHolder h fun _ => on
  have released : RoutesLaw (setHolder b.target.ref none s).rme := routesLaw_setHolder h fun none_ => absurd rfl none_
  unfold boundEvent absoluteEvent relativeEvent toggleEvent
  dsimp only
  split
  · split
    · split
      · split
        · exact given
        · exact h
      · split
        · exact released
        · exact h
    · rename_i fader _
      split
      · exact law_setTarget h on fun y hy => by cases hy; exact gainInRange_taper (fits fader)
      · exact h
    · rename_i fader _
      split
      · exact law_setTarget h on fun y hy => by cases hy; exact gainInRange_taper (fits fader)
      · exact h
    · exact h
  · split
    · refine law_setTarget h on fun y hy => ?_
      cases hy
      refine gainInRange_encoderGain ?_ ..
      cases hx : b.target.ref with
      | route id =>
        obtain ⟨-, used, -⟩ := h.route id
        obtain ⟨-, -, -, gain, -⟩ := used (by rw [on id hx]; nofun)
        exact gain
      | bus n => exact (h.bus n).1.1
    · exact h
  · split
    · exact law_setTarget h on fun y hy => by cases hy
    · exact h

theorem routed_of_reaches (h : Routed s) {ps : List Part} (r : Reaches ps s t) (rme : Part.rme ∉ ps := by decide)
    (mtb : Part.mtb ∉ ps := by decide) (bdt : Part.bdt ∉ ps := by decide) (fsv : Part.fsv ∉ ps := by decide) : Routed t :=
  ⟨law_of_reaches h.law r rme, bound_of_reaches h.bound r rme mtb bdt, fadersSound_of_reaches h.faders r fsv⟩

theorem routed_deliverEvent (h : Routed s) {e : SurfaceEvent} (fits : e.Fits) : Routed (deliverEvent e s) := by
  have acted : Routed (bindingEvent e s) :=
    bindingEvent_keeps (P := Routed) (fun i b there active _ => ⟨law_boundEvent h.law h.bound fits (List.mem_of_getElem? there) active,
      bound_boundEvent h.bound e (List.mem_of_getElem? there) active, fadersSound_boundEvent h.faders i b e⟩) h
  unfold deliverEvent filterEvent
  dsimp only
  split
  · exact acted
  · exact routed_of_reaches acted (reaches_notify ..)

theorem routed_discardEvent (h : Routed s) : Routed (discardEvent s) := ⟨h.law, bound_discardEvent h.bound, h.faders⟩

theorem routed_takeEvents (h : Routed s) (a : Nat) (stamp : Word32) (bytes : List Byte) : Routed (takeEvents a stamp bytes s) :=
  takeEvents_keeps (P := Routed) (fun _ _ fits h => routed_deliverEvent h fits) (fun _ h => routed_discardEvent h) a stamp bytes h

theorem law_releaseHold (h : RoutesLaw s.rme) (b : Binding) : RoutesLaw (releaseHold b s).rme := by
  unfold releaseHold
  split
  · exact routesLaw_setHolder h fun none_ => absurd rfl none_
  · exact h

theorem law_removeModule (h : RoutesLaw s.rme) (a : Nat) (d : ModuleDetail) : RoutesLaw (removeModule a d s).rme := by
  cases he : s.mtb.entry a with
  | none => rwa [removeModule_of_none d he]
  | some e =>
    have before : RoutesLaw (purge a (unlist a e d s)).rme :=
      law_of_reaches h ((reaches_unlist a e d s).andThen (reaches_purge a _) (rs := [.records, .sbc, .mtb, .sou]))
    have gone : RoutesLaw (orphanModule a (purge a (unlist a e d s))).rme := by
      refine foldl_keeps (P := fun t => RoutesLaw t.rme) (fun t b _ ht => ?_) before
      split
      · exact law_releaseHold ht b
      · exact ht
    rw [removeModule_of_some d he]
    split
    · exact gone
    · exact law_of_reaches gone (reaches_handFrame ..)

theorem law_assignStep (h : RoutesLaw s.rme) (a : Answer) : RoutesLaw (assignStep a s).1.rme := by
  unfold assignStep
  split
  · unfold rejoin
    dsimp only
    split
    · exact h
    · exact routesLaw_releaseHolders h _ rfl
  · split
    · exact law_of_reaches h (reaches_joinNew ..)
    · split
      · exact law_of_reaches (law_removeModule h ..) (reaches_joinNew ..)
      · exact law_of_reaches h (reaches_refuseModule ..)

theorem law_schedule (h : RoutesLaw s.rme) : RoutesLaw (schedule s).rme := by
  obtain ⟨-, same⟩ | ⟨-, -, same⟩ | ⟨o, -, -, taken⟩ := schedule_cases s
  · rwa [same]
  · rwa [same]
  · rw [taken]
    cases o with
    | assignStep a => exact law_of_reaches (law_assignStep h a) (reaches_startTxn ..)
    | startUp => exact h
    | queued q f => exact h
    | poll a => exact h
    | callStep p => exact h

theorem law_removeModules (h : RoutesLaw s.rme) (d : ModuleDetail) (as : List Nat) : RoutesLaw (removeModules d as s).rme :=
  removeModules_keeps (P := fun s => RoutesLaw s.rme) d (fun a _ h => law_removeModule h a d) as h

theorem law_stepResult (h : RoutesLaw s.rme) (r : TxnResult) : RoutesLaw (stepResult r s).rme := by
  unfold stepResult
  split
  · exact law_of_reaches h (reaches_callResult ..)
  · simp only [assignResult]
    have moved : RoutesLaw (setSearch s.sbc.search.stepOver s).rme := h
    split
    · exact moved
    · split
      · exact law_of_reaches (law_of_reaches moved ((reaches_putEntry _ _).andThen (reaches_notify _ _) (rs := [.records, .mtb])))
          (reaches_reattach ..)
      · exact law_removeModule moved ..
  · exact h
  · exact h

theorem law_endTxn (h : Routed s) (x : Txn) (r : TxnResult) : RoutesLaw (endTxn x r s).rme := by
  refine endTxn_keeps (P := Routed) (Q := fun t => RoutesLaw t.rme) ⟨h.law, bound_of_reaches h.bound (reaches_withSbc s _), h.faders⟩
    (fun t h => ⟨law_of_reaches h.law (reaches_judgeModule ..), bound_judgeModule h.bound _ r,
      fadersSound_of_reaches h.faders (reaches_judgeModule ..)⟩)
    (fun _ _ t h => routed_takeEvents h ..) (fun t h => ?_)
  unfold toOwner
  split
  · exact h.law
  · exact h.law
  · exact law_stepResult h.law r
  · exact law_of_reaches h.law (reaches_frameOutcome ..)

theorem law_endTxnIn (h : Routed s) (phases : List TxnPhase) (r : TxnResult) : RoutesLaw (endTxnIn phases r s).rme := by
  unfold endTxnIn
  split
  · split
    · exact law_endTxn h _ r
    · exact h.law
  · exact h.law

end

/-! ## The rows -/

theorem law_handler {c : Instr} {handle : State → Handled} (hc : handlerOf c = some handle) {s : State} (h : Routed s) :
    RoutesLaw (handle s).state.rme := by
  have reach := handler_reaches hc s
  have same : leavesEngine c = true → RoutesLaw (handle s).state.rme := fun leaves => by
    rw [handler_sameEngine hc leaves s]
    exact routesLaw_of_tables h.law rfl rfl h.law.length
  have law := h.law
  cases c <;> cases hc
  case reset => exact routesLaw_powerOn
  case clockSetRate =>
    unfold handleClockSetRate
    split
    · exact law
    · dsimp only [accept]
      split
      · exact law
      · simp only [changeRate, notifyMerged_eq, State.withFresh_rme, State.withMsu_rme, withPorts]
        exact routesLaw_of_tables (routesLaw_changeRate law) rfl rfl law.length
  case routeAdd a b c d =>
    obtain same | ⟨src, dst, g, mute, invert, replace, hs, hd, hg, order, -, -, same⟩ := state_handleRouteAdd s a b c d <;> rw [same]
    · exact law
    · simp only [sourcePointOf, destPointOf, Option.filter_eq_some_iff, Bool.not_eq_true'] at hs hd
      exact addRoute_law law _ _ hs.2 hd.2 order (gainInRange_clamped hg)
  case routeRemove a =>
    obtain same | ⟨_, -, active, same⟩ := state_handleRouteRemove s a <;> rw [same]
    · exact law
    · exact (leaveActive_law law active).1
  case routeSetGain a b =>
    obtain same | ⟨n, g, -, active, hg, same⟩ := state_handleRouteSetGain s a b <;> rw [same]
    · exact law
    · exact law_schedule (law_setTarget law (fun id hid => by cases hid; exact active) fun y hy => by
        cases hy
        exact gainInRange_clamped hg)
  case routeSetMute a b =>
    obtain same | ⟨n, _, -, active, same⟩ := state_handleRouteSetMute s a b <;> rw [same]
    · exact law
    · exact law_schedule (law_setTarget law (fun id hid => by cases hid; exact active) fun y hy => by cases hy)
  case busSet a b c d =>
    obtain same | ⟨n, applyGain, _, g, m, -, values, same⟩ := state_handleBusSet s a b c d <;> rw [same]
    · exact law
    · refine law_schedule (law_setTarget law (fun id hid => by cases hid) fun y hy => ?_)
      obtain ⟨x, rfl, rfl⟩ := Option.map_eq_some_iff.mp hy
      unfold busValuesOf at values
      split at values <;> cases values
      rename_i hg _
      split at hg
      · obtain ⟨z, hz, same⟩ := Option.map_eq_some_iff.mp hg
        cases same
        exact gainInRange_clamped hz
      · cases hg
  case rampSet length =>
    unfold handleRampSet
    split
    · exact law
    · rename_i n hn
      have allowed : n ∈ RampLengths := by
        unfold rampLengthOf at hn
        split at hn <;> cases hn <;> decide
      exact routesLaw_of_tables law rfl rfl allowed
  case meterAssign =>
    unfold handleMeterAssign
    split
    · split
      · exact law
      · exact routesLaw_of_tables law rfl rfl law.length
    · exact law
  case meterRead =>
    unfold handleMeterRead
    dsimp only
    split
    · exact law
    · split
      · exact law
      · exact routesLaw_of_tables law rfl rfl law.length
  case meterSubscribe => exact routesLaw_of_tables law rfl rfl law.length
  case surfaceSetup a b c d =>
    obtain same | ⟨x, -, same⟩ := state_handleSurfaceSetup s a b c d <;> rw [same]
    · exact law
    · have stored : RoutesLaw (storeSettings x s).rme := law
      split
      · exact law_of_reaches (law_of_reaches stored (reaches_withSbc _ _)) (reaches_setBus ..)
      · split
        · exact law_schedule (law_of_reaches (law_of_reaches stored ((reaches_withSbc _ _).andThen (reaches_refreshExpiries _)
            (rs := [.sbc, .mtb]))) (reaches_setBus ..))
        · exact stored
  case discover =>
    obtain same | ⟨-, -, same⟩ := state_handleDiscover s <;> rw [same]
    · exact law
    · exact law_schedule law
  case moduleForget xs =>
    dsimp only
    split
    · obtain same | ⟨_, -, -, same⟩ := state_handleModuleForget s xs <;> rw [same]
      · exact law
      · exact law_schedule (law_removeModules law ..)
    · exact law
  case surfaceSend a b c d e f g =>
    dsimp only
    split
    · obtain same | ⟨_, _, _, _, -, -, same⟩ := state_handleSurfaceSend s a b c d e f g <;> rw [same]
      · exact law
      · exact law_schedule (law_of_reaches (law_of_reaches law (reaches_withSou ..)) (reaches_endFrames ..))
    · exact law
  case surfaceAbort a b =>
    obtain same | ⟨_, -, same⟩ := state_handleSurfaceAbort s a b <;> rw [same]
    · exact law
    · exact law_schedule (law_of_reaches law (reaches_abortFrames ..))
  case bindSet a b c d e f g i =>
    obtain same | ⟨n, y, -, -, -, -, -, same⟩ := state_handleBindSet s a b c d e f g i <;> rw [same]
    · exact law
    · have released : RoutesLaw (if (s.binding n).state = .empty then s else releaseHold (s.binding n) s).rme := by
        split
        · exact law
        · exact law_releaseHold law _
      refine law_schedule ?_
      unfold storeBinding
      dsimp only
      split
      · exact law_of_reaches (law_of_reaches released (reaches_withBdt ..)) (reaches_sendFeedback ..)
      · exact released
  case bindClear =>
    unfold handleBindClear
    split
    · exact law
    · split
      · exact law
      · exact law_releaseHold law _
  case faderConfig =>
    unfold handleFaderConfig
    split
    · unfold configureFader
      dsimp only
      split
      · exact routesLaw_releaseHolders (law_of_reaches law (reaches_changeFader ..)) _ rfl
      · exact law_of_reaches law (reaches_changeFader ..)
    · exact law
  all_goals
    dsimp only [reachOf] at reach
    first
    | exact law_of_reaches law reach
    | exact same rfl

/-- A local event's position is a channel's (R194). -/
theorem localEvent_fits {s t : State} (h : FadersSound s.fsv) (i : Nat) (k : EventKind)
    {v : Nat} (hv : k = .fader → v = (s.fsv.channel i).position) : (localEvent i k v t).Fits := by
  intro fader
  have at_ := hv fader
  simp only [localEvent, at_, Int.toNat_natCast]
  by_cases hi : i < 8
  · obtain ⟨-, -, -, -, -, -, -, -, -, position, -⟩ := faderSound_channel h hi
    exact position
  · rw [Fsv.channel, List.getD_eq_default _ _ (by rw [h.1]; exact Nat.le_of_not_lt hi)]
    exact Nat.zero_le _

theorem routed_emitMoved {s : State} (h : Routed s) (i n : Nat) : Routed (emitMoved i n s) := by
  unfold emitMoved emitPosition
  dsimp only
  split
  · exact routed_deliverEvent ⟨law_of_reaches h.law (reaches_changeFader ..), bound_of_reaches h.bound (reaches_changeFader ..),
      fadersSound_changeFader h.faders fun _ sound => faderSound_reported sound⟩ (localEvent_fits h.faders i _ fun _ => rfl)
  · exact h

theorem routed_touchStep {s : State} (h : Routed s) (i : Nat) : Routed (touchStep i s) := by
  have changed {t : State} (ht : Routed t) (op : Fader → Fader × Option FaderReason)
      (hop : FaderSound t.fsv.supplyGood (t.fsv.channel i) → FaderSound t.fsv.supplyGood (op (t.fsv.channel i)).1) :
      Routed (changeFader i op t) :=
    ⟨law_of_reaches ht.law (reaches_changeFader ..), bound_of_reaches ht.bound (reaches_changeFader ..),
      fadersSound_changeFader ht.faders fun _ => hop⟩
  have touch {t u : State} (ht : Routed t) (v : Nat) : Routed (deliverEvent (localEvent i .touch v u) t) :=
    routed_deliverEvent ht nofun
  unfold touchStep
  dsimp only
  split
  · exact h
  split
  · rename_i on _
    exact routed_emitMoved (touch (changed h _ fun sound => faderSound_touched sound on) _) ..
  split
  · exact routed_emitMoved h ..
  split
  · exact changed (touch (changed (routed_emitMoved h ..) _ faderSound_untouched) _) _ faderSound_homed
  · exact h

theorem law_event {c : Instr} (hc : commandOf c = none) (take : c ≠ .takeCommand) (wf : c.wellFormed = true) {s t : State}
    (h : Routed s) (hx : exec c s = .next t) : RoutesLaw t.rme := by
  have reach := event_reaches_of_next hc take hx
  have same : leavesEngine c = true → RoutesLaw t.rme := fun leaves => by
    rw [event_sameEngine hc leaves hx]
    exact routesLaw_of_tables h.law rfl rfl h.law.length
  have law := h.law
  have ite {c : Prop} [Decidable c] {a b : State} (ha : RoutesLaw a.rme) (hb : RoutesLaw b.rme) :
      RoutesLaw (if c then a else b).rme := by
    split
    · exact ha
    · exact hb
  have opens (cause : StartCause) : RoutesLaw (sessionOpens cause s).rme := by
    have start : RoutesLaw ((s.withPhase .running).withMsu { s.msu with cause := cause }).rme := law
    exact law_schedule (law_of_reaches (law_of_reaches start (reaches_withSbc ..)) (reaches_notify ..))
  have cleared : RoutesLaw (busCleared s).rme :=
    law_schedule (law_of_reaches (law_of_reaches law ((reaches_withSbc _ _).andThen (reaches_refreshExpiries _)
      (rs := [.sbc, .mtb]))) (reaches_setBus ..))
  cases c <;> cases hc <;> cases hx
  case takeCommand => exact absurd rfl take
  case powerOn => exact routesLaw_powerOn
  case initialisationComplete => exact ite (opens _) law
  case resetComplete => exact ite (opens _) law
  case evaluateStudioFrame =>
    obtain ⟨routes, buses, length⟩ := studioFrame_records s
    exact law_schedule (routesLaw_of_tables (routesLaw_stepRamps law) routes buses (by rw [length]; exact law.length))
  case rampEnd record =>
    cases record with
    | route id =>
      change RoutesLaw (finishRoute id s).rme
      unfold finishRoute
      dsimp only
      split
      · exact law
      split
      · exact law_of_reaches (s := s.withRme _) (routesLaw_free law _) (reaches_notifyAll ..)
      · exact routesLaw_putRoute_same law (routeSound_finished (law.route _) ‹_›) rfl rfl rfl
    | bus b =>
      obtain ⟨level, heads⟩ := busSound_finished (law.bus b)
      exact routesLaw_putBus law level heads
  case meterPeriodEnd =>
    have measured : RoutesLaw (s.withRme s.rme.periodEnd).rme := routesLaw_of_tables law rfl rfl law.length
    exact ite law (law_schedule (law_of_reaches (law_of_reaches measured (reaches_notifyAll ..)) (reaches_handMeterFrames _)))
  case pollBoundary =>
    exact ite (ite (law_schedule (law_of_reaches (law_removeModules law ..) (reaches_withSbc ..)))
      (law_of_reaches law (reaches_withSbc ..))) law
  case autoDiscoveryStart => exact ite (law_schedule law) law
  case busFree => exact ite (law_schedule law) law
  case frameSendingEnd =>
    split
    · split
      · split
        · exact law_endTxn (routed_of_reaches h (reaches_withSbc ..)) ..
        · exact law
      · exact law
    · exact law
  case replyWindowExpiry => exact ite law (law_endTxnIn h ..)
  case replyCorrupt => exact law_endTxnIn h ..
  case replyComplete =>
    split
    · refine ite ?_ law
      split
      · exact law_endTxn h ..
      · exact law
    · exact law
  case lineBreakStart => exact law_endTxnIn (routed_of_reaches h (reaches_withSbc ..)) ..
  case clearingCheckEnd =>
    dsimp only
    split
    · exact ite cleared (ite law (law_of_reaches (s := waitRetry s) law (reaches_setBus ..)))
    · exact ite (ite cleared law) law
    · exact law
    · exact law
  case frameDelayExpiry => exact law_schedule law
  case servoPeriod samples =>
    have start : Routed (sampleAll samples s) :=
      ⟨law, bound_of_reaches h.bound (reaches_withFsv ..), fadersSound_sampleAll h.faders wf⟩
    have touched := foldl_keeps (P := Routed) (f := fun s i => touchStep i s) (xs := List.range 8)
      (fun t i _ ht => routed_touchStep ht i) start
    exact law_schedule (foldl_keeps (P := fun t => RoutesLaw t.rme) (fun t i _ ht => law_of_reaches ht (reaches_driveStep t samples i))
      touched.law)
  all_goals
    dsimp only [reachOf] at reach
    first
    | exact law_of_reaches law reach
    | exact same rfl

end Sys2Proof.Machine

open Sys2Proof.Machine Sys2Proof.Safety in
/-- Settles O7, row by row, with the law of the bindings (an ACTIVE binding is on an ACTIVE route) and that of the faders. -/
theorem routesLawKept : Obligations.RoutesLawKept := by
  intro s t sound wf hstep
  have start : Routed s := ⟨routesLaw_iff.mpr sound.routes, ⟨sound.bindings, List.pairwise_map.mp sound.modules.2.1⟩, sound.faders⟩
  have all : RoutesLaw t.rme := step_law_of_state (Pre := Routed) (Post := fun t => RoutesLaw t.rme)
    (ok := fun c => c.wellFormed = true) (fun _ h => h.law)
    (fun _ _ h => ⟨h.law, ⟨h.bound.sound, h.bound.ascending⟩, h.faders⟩)
    (fun _ _ _ _ h => ⟨h.law, ⟨h.bound.sound, h.bound.ascending⟩, h.faders⟩) (fun _ _ h => h)
    (fun _ _ _ hc h => law_handler hc h) (fun _ _ _ hc take wf h hx => law_event hc take wf h hx) wf start hstep
  exact routesLaw_iff.mp all

end

section
/-! PROOFS. The law of the modules (08) is not kept: it leaves the pending answer of the search free, and an assign step makes an entry
of it as it stands. -/

namespace Sys2Proof.Machine

open Sys2Proof.Safety

/-- A pending answer with one control more than an entry may have; every answer that the part reads has at most 64 (R157). -/
def oversizedAnswer : Answer := ⟨0, .faderStrip, 65, false, 0⟩

/-- The part after initialisation, with that answer pending and a bus that is about to be free. -/
def oversized : State :=
  ((State.reset.withPhase .running).withSbc
    { State.reset.sbc with search := ⟨true, [], none, some oversizedAnswer, false⟩ }).withPending [.busFree]

theorem oversized_sound : Sound oversized :=
  { resetMeetsEveryLaw.1 with
    modules := by decide
    search := by decide
    bus := by decide }

/-- What the assign step makes of the answer. -/
def oversizedAfter : State :=
  schedule ((oversized.withPending []).withSbc { oversized.sbc with free := true })

theorem step_oversized : step oversized = .next oversizedAfter := rfl

theorem oversizedAfter_controls : oversizedAfter.mtb.entries.map (fun e => e.controls) = [65] := by decide

end Sys2Proof.Machine

open Sys2Proof.Machine Sys2Proof.Safety in
/-- Refutes O8: `Sound` does not bound the search's pending answer, so from a sound state with a pending answer of 65 controls the
assign step makes an entry of 65 controls. -/
theorem not_modulesLawKept : ¬ Obligations.ModulesLawKept := by
  intro law
  obtain ⟨⟨-, -, -, entries, -⟩, -⟩ := law oversized oversizedAfter oversized_sound step_oversized
  have some_ : 65 ∈ oversizedAfter.mtb.entries.map (fun e => e.controls) := by rw [oversizedAfter_controls]; exact List.mem_singleton_self _
  obtain ⟨e, he, controls⟩ := List.mem_map.mp some_
  obtain ⟨-, -, most, -⟩ := entries e he
  omega

end

section
/-! PROOFS. The queues of the Surface Output (09): what a queue keeps while frames join, leave, are renewed or marked, the pool, and
how the head frame meets the transaction in flight. -/

namespace Sys2Proof.Machine

open Sys2Proof.Safety

/-! ## One queue -/

/-- The law of one queue, with the owner of the transaction in flight. -/
structure QueueLaw (o : Option Owner) (q : QueueId) (fs : List QFrame) : Prop where
  size : fs.length ≤ queueCapacity q
  frames : ∀ f ∈ fs, FrameSound q f
  behind : ∀ f ∈ fs.tail, f.inFlight = false
  head : (fs.head?.map (fun f => f.inFlight)).getD false = true ↔ o = some (.output q)

section
variable {o : Option Owner} {q : QueueId} {fs gs : List QFrame}

/-- A queue other than that of the transaction in flight, or one with nothing in it, has no frame in flight. -/
theorem QueueLaw.idle (h : QueueLaw o q fs) (other : o ≠ some (.output q)) : ∀ f ∈ fs, f.inFlight = false := by
  intro f hf
  cases fs with
  | nil => cases hf
  | cons g rest =>
    obtain rfl | hf := List.mem_cons.mp hf
    · exact Bool.eq_false_iff.mpr fun flies => other (h.head.mp (by simpa using flies))
    · exact h.behind f hf

theorem queueLaw_of_idle (size : fs.length ≤ queueCapacity q) (frames : ∀ f ∈ fs, FrameSound q f)
    (idle : ∀ f ∈ fs, f.inFlight = false) (other : o ≠ some (.output q)) : QueueLaw o q fs := by
  refine ⟨size, frames, fun f hf => idle f (List.mem_of_mem_tail hf), ⟨fun flies => ?_, fun is => absurd is other⟩⟩
  cases fs with
  | nil => cases flies
  | cons g rest =>
    have rests := idle g (by simp)
    simp [rests] at flies

/-- Frames that leave are not in flight. -/
theorem queueLaw_of_sublist (h : QueueLaw o q fs) (sub : gs.Sublist fs) (keeps : ∀ f ∈ fs, f.inFlight = true → f ∈ gs) :
    QueueLaw o q gs := by
  have frames : ∀ f ∈ gs, FrameSound q f := fun f hf => h.frames f (sub.subset hf)
  have size := sub.length_le.trans h.size
  by_cases other : o = some (.output q)
  · cases fs with
    | nil => exact absurd (h.head.mpr other) (by simp)
    | cons f rest =>
      have flies : f.inFlight = true := by simpa using h.head.mpr other
      have stays := keeps f (by simp) flies
      obtain sub | ⟨l, rfl, sub⟩ := List.sublist_cons_iff.mp sub
      · exact absurd flies (by simp [h.behind f (sub.subset stays)])
      · exact ⟨size, frames, fun g hg => h.behind g (List.Sublist.subset (by assumption) hg), by simpa [flies] using other⟩
  · exact queueLaw_of_idle size frames (fun f hf => h.idle other f (sub.subset hf)) other

/-- Frames changed, in flight as they were. -/
theorem queueLaw_map (h : QueueLaw o q fs) {g : QFrame → QFrame} (sound : ∀ f ∈ fs, FrameSound q f → FrameSound q (g f))
    (flies : ∀ f ∈ fs, (g f).inFlight = f.inFlight) : QueueLaw o q (fs.map g) := by
  refine ⟨by simpa using h.size, fun f hf => ?_, fun f hf => ?_, ?_⟩
  · obtain ⟨x, hx, rfl⟩ := List.mem_map.mp hf
    exact sound x hx (h.frames x hx)
  · rw [← List.map_tail] at hf
    obtain ⟨x, hx, rfl⟩ := List.mem_map.mp hf
    rw [flies x (List.mem_of_mem_tail hx)]
    exact h.behind x hx
  · cases fs with
    | nil => simpa using h.head
    | cons f rest => simpa [flies f] using h.head

/-- A new frame joins the tail. -/
theorem queueLaw_append (h : QueueLaw o q fs) {f : QFrame} (sound : FrameSound q f) (rests : f.inFlight = false)
    (room : fs.length < queueCapacity q) : QueueLaw o q (fs ++ [f]) := by
  refine ⟨by simpa using room, fun g hg => ?_, fun g hg => ?_, ?_⟩
  · obtain hg | hg := List.mem_append.mp hg
    · exact h.frames g hg
    · rw [List.mem_singleton.mp hg]
      exact sound
  · cases fs with
    | nil => cases hg
    | cons x rest =>
      obtain hg | hg := List.mem_append.mp hg
      · exact h.behind g hg
      · rw [List.mem_singleton.mp hg]
        exact rests
  · cases fs with
    | nil => simpa [rests] using h.head
    | cons x rest => simpa using h.head

/-- The owner of no queue changes. -/
theorem queueLaw_owner (h : QueueLaw o q fs) {p : Option Owner} (same : o = some (.output q) ↔ p = some (.output q)) : QueueLaw p q fs :=
  ⟨h.size, h.frames, h.behind, h.head.trans same⟩

/-- The head frame is picked (R177). -/
theorem queueLaw_pickHead (h : QueueLaw none q fs) (some_ : fs ≠ []) : QueueLaw (some (.output q)) q (pickHead fs) := by
  cases fs with
  | nil => exact absurd rfl some_
  | cons f rest =>
    refine ⟨h.size, fun g hg => ?_, h.behind, by simp [pickHead]⟩
    obtain rfl | hg := List.mem_cons.mp hg
    · obtain ⟨retries, waits, address, host, feedback, meter, removal, other, -⟩ := h.frames f (by simp)
      exact ⟨retries, waits, address, host, feedback, meter, removal, other, nofun⟩
    · exact h.frames g (by simp [hg])

theorem queueLaw_undelayHead (h : QueueLaw o q fs) : QueueLaw o q (undelayHead fs) := by
  cases fs with
  | nil => exact h
  | cons f rest =>
    refine ⟨h.size, fun g hg => ?_, h.behind, h.head⟩
    obtain rfl | hg := List.mem_cons.mp hg
    · exact h.frames f (by simp)
    · exact h.frames g (by simp [hg])

end

/-! ## Blocks -/

@[simp] theorem blocksOf_nil : blocksOf [] = 0 := rfl
@[simp] theorem blocksOf_cons (f : QFrame) (fs : List QFrame) : blocksOf (f :: fs) = f.blocks + blocksOf fs := rfl
@[simp] theorem blocksOf_append (fs gs : List QFrame) : blocksOf (fs ++ gs) = blocksOf fs + blocksOf gs := by
  simp [blocksOf]

theorem blocksOf_map {fs : List QFrame} {g : QFrame → QFrame} (same : ∀ f ∈ fs, (g f).blocks = f.blocks) :
    blocksOf (fs.map g) = blocksOf fs := by
  induction fs with
  | nil => rfl
  | cons f rest ih =>
    simp only [List.map_cons, blocksOf_cons, same f (by simp), ih fun x hx => same x (by simp [hx])]

theorem blocksOf_sublist {fs gs : List QFrame} (sub : gs.Sublist fs) : blocksOf gs ≤ blocksOf fs := by
  induction sub with
  | slnil => exact Nat.le_refl _
  | cons f _ ih => simp only [blocksOf_cons]; omega
  | cons_cons f _ ih => simp only [blocksOf_cons]; omega

/-- R175 step 3: frames not in flight leave, oldest first, and only while the free blocks do not hold the new frame. -/
theorem dropUntil_spec {need free fr : Nat} {fs kept gone : List QFrame} (h : dropUntil need free fs = (kept, gone, fr)) :
    kept.Sublist fs ∧ (∀ f ∈ fs, f.inFlight = true → f ∈ kept) ∧ blocksOf kept + blocksOf gone = blocksOf fs ∧
      fr = free + blocksOf gone ∧ (∀ f ∈ gone, f ∈ fs ∧ f.inFlight = false) ∧
      (need ≤ fr ∨ fr = free + droppable fs) := by
  induction fs generalizing free kept gone with
  | nil =>
    cases h
    exact ⟨.slnil, by simp, rfl, rfl, by simp, .inr rfl⟩
  | cons f rest ih =>
    unfold dropUntil at h
    split at h
    · rename_i enough
      cases h
      exact ⟨.refl _, fun _ hx _ => hx, by simp, rfl, by simp, .inl enough⟩
    · split at h
      · rename_i flies
        cases hd : dropUntil need free rest with
        | mk kept' r =>
          obtain ⟨gone', fr'⟩ := r
          rw [hd] at h
          cases h
          obtain ⟨sub, keeps, blocks, fr_, out, all⟩ := ih hd
          refine ⟨sub.cons_cons f, fun x hx hf => ?_, ?_, fr_, fun x hx => ⟨by simp [out x hx], (out x hx).2⟩, ?_⟩
          · obtain rfl | hx := List.mem_cons.mp hx
            · simp
            · simp [keeps x hx hf]
          · simp only [blocksOf_cons]
            omega
          · simpa [droppable, flies] using all
      · rename_i rests
        cases hd : dropUntil need (free + f.blocks) rest with
        | mk kept' r =>
          obtain ⟨gone', fr'⟩ := r
          rw [hd] at h
          cases h
          obtain ⟨sub, keeps, blocks, fr_, out, all⟩ := ih hd
          refine ⟨sub.cons f, fun x hx hf => ?_, ?_, ?_, fun x hx => ?_, ?_⟩
          · obtain rfl | hx := List.mem_cons.mp hx
            · exact absurd hf rests
            · exact keeps x hx hf
          · simp only [blocksOf_cons]
            omega
          · simp only [blocksOf_cons]
            omega
          · obtain rfl | hx := List.mem_cons.mp hx
            · exact ⟨by simp, by simpa using rests⟩
            · exact ⟨by simp [out x hx], (out x hx).2⟩
          · refine all.imp_right fun all => ?_
            have part : droppable (f :: rest) = f.blocks + droppable rest := by simp [droppable, rests]
            omega

/-! ## All queues -/

/-- The law of the Surface Output, with the owner of the transaction in flight. -/
structure QueuesLaw (o : Option Owner) (u : Sou) : Prop where
  queue : ∀ q, QueueLaw o q (u.queue q)
  pool : u.used ≤ 64
  meters : (u.meter.map (fun f => f.frame.address)).Nodup
  history : u.history.length ≤ 16

theorem queuesLaw_iff {s : State} : QueuesLaw (s.sbc.txn.map (fun t => t.owner)) s.sou ↔ OutputSound s := by
  constructor
  · rintro ⟨queue, pool, meters, history⟩
    refine ⟨fun q _ => ?_, pool, meters, history⟩
    obtain ⟨size, frames, behind, head⟩ := queue q
    exact ⟨size, frames, behind, head⟩
  · rintro ⟨queue, pool, meters, history⟩
    refine ⟨fun q => ?_, pool, meters, history⟩
    obtain ⟨size, frames, behind, head⟩ := queue q (by cases q <;> simp)
    exact ⟨size, frames, behind, head⟩

theorem used_putQueue (u : Sou) (q : QueueId) (fs : List QFrame) :
    (u.putQueue q fs).used + blocksOf (u.queue q) = u.used + blocksOf fs := by
  cases q <;> simp only [Sou.putQueue, Sou.used, Sou.queue] <;> omega

section
variable {o : Option Owner} {u : Sou} (h : QueuesLaw o u)
include h

/-- One queue replaced, with the owner perhaps another one for it alone. -/
theorem queuesLaw_putQueue {p : Option Owner} {q : QueueId} {fs : List QFrame} (law : QueueLaw p q fs)
    (others : ∀ q', q' ≠ q → (o = some (.output q') ↔ p = some (.output q'))) (blocks : blocksOf fs ≤ blocksOf (u.queue q))
    (meters : q = .meter → (fs.map (fun f => f.frame.address)).Nodup) : QueuesLaw p (u.putQueue q fs) := by
  refine ⟨fun q' => ?_, ?_, ?_, ?_⟩
  · by_cases same : q' = q
    · subst same
      rw [putQueue_queue_self]
      exact law
    · rw [putQueue_queue_ne u same]
      exact queueLaw_owner (h.queue q') (others q' same)
  · have := used_putQueue u q fs
    have := h.pool
    omega
  · cases q with
    | meter => exact meters rfl
    | urgent => exact h.meters
    | normal => exact h.meters
  · rw [putQueue_history]
    exact h.history

theorem queuesLaw_owner {p : Option Owner} (same : ∀ q, o = some (.output q) ↔ p = some (.output q)) : QueuesLaw p u :=
  ⟨fun q => queueLaw_owner (h.queue q) (same q), h.pool, h.meters, h.history⟩

theorem queuesLaw_history {hs : List HistoryRecord} (short : hs.length ≤ 16) : QueuesLaw o { u with history := hs } :=
  ⟨fun q => by cases q <;> exact h.queue _, h.pool, h.meters, short⟩

omit h in
/-- R175: a frame admitted joins the tail of its queue; frames may have left METER, and NORMAL after it. -/
theorem take_appended {q : QueueId} {f : QFrame} {after : Sou} {dropped : List QFrame} (taken : u.take q f = .appended after dropped) :
    ∃ meter goneM free normal goneN free', dropUntil f.blocks u.freeBlocks u.meter = (meter, goneM, free) ∧
      (if q = .meter then (u.normal, [], free) else dropUntil f.blocks free u.normal) = (normal, goneN, free') ∧
      (u.queue q).length < queueCapacity q ∧
      f.blocks ≤ u.freeBlocks + (droppable u.meter + (if q = .meter then 0 else droppable u.normal)) ∧
      after = Sou.putQueue { u with meter := meter, normal := normal } q
        (Sou.queue { u with meter := meter, normal := normal } q ++ [f]) ∧ dropped = goneM ++ goneN := by
  unfold Sou.take at taken
  split at taken
  · cases taken
  rename_i room
  simp only [Nat.not_le] at room
  obtain ⟨⟨meter, goneM, free⟩, hm⟩ : ∃ r, r = dropUntil f.blocks u.freeBlocks u.meter := ⟨_, rfl⟩
  rw [← hm] at taken ⊢
  by_cases isMeter : q = .meter
  · simp only [isMeter, if_true] at taken room ⊢
    split at taken
    · cases taken
    · cases taken
      exact ⟨_, _, _, _, _, _, rfl, rfl, room, by omega, rfl, rfl⟩
  · simp only [isMeter, if_false] at taken room ⊢
    split at taken
    · cases taken
    · cases taken
      exact ⟨_, _, _, _, _, _, rfl, rfl, room, by omega, rfl, rfl⟩

theorem queuesLaw_take {q : QueueId} {f : QFrame} {after : Sou} {dropped : List QFrame} (taken : u.take q f = .appended after dropped)
    (sound : FrameSound q f) (rests : f.inFlight = false)
    (fresh : q = .meter → ∀ g ∈ u.meter, g.frame.address ≠ f.frame.address) : QueuesLaw o after := by
  obtain ⟨meter, goneM, free, normal, goneN, free', hm, hn, room, spare, rfl, -⟩ := take_appended taken
  obtain ⟨subM, keepsM, blocksM, freeM, -, allM⟩ := dropUntil_spec hm
  obtain ⟨subN, keepsN, blocksN, freeN, allN⟩ : normal.Sublist u.normal ∧ (∀ f ∈ u.normal, f.inFlight = true → f ∈ normal) ∧
      blocksOf normal + blocksOf goneN = blocksOf u.normal ∧ free' = free + blocksOf goneN ∧
      (f.blocks ≤ free' ∨ free' = free + (if q = .meter then 0 else droppable u.normal)) := by
    by_cases isMeter : q = .meter
    · rw [if_pos isMeter] at hn ⊢
      cases hn
      exact ⟨.refl _, fun _ hx _ => hx, rfl, rfl, .inr rfl⟩
    · rw [if_neg isMeter] at hn ⊢
      obtain ⟨sub, keeps, blocks, free_, -, all⟩ := dropUntil_spec hn
      exact ⟨sub, keeps, blocks, free_, all⟩
  have pool := h.pool
  generalize (if q = .meter then 0 else droppable u.normal) = spareN at spare allN
  simp only [Sou.freeBlocks, Sou.used] at spare freeM allM pool
  have enough : blocksOf u.urgent + blocksOf normal + blocksOf meter + f.blocks ≤ 64 := by omega
  have lawM : QueueLaw o .meter meter := queueLaw_of_sublist (h.queue .meter) subM keepsM
  have lawN : QueueLaw o .normal normal := queueLaw_of_sublist (h.queue .normal) subN keepsN
  have metersM : (meter.map (fun f => f.frame.address)).Nodup := h.meters.sublist (subM.map _)
  have sizeM := subM.length_le
  have sizeN := subN.length_le
  cases q with
  | urgent =>
    refine ⟨fun q => ?_, by simp only [Sou.used, Sou.putQueue, Sou.queue, blocksOf_append, blocksOf_cons, blocksOf_nil]; omega,
      metersM, h.history⟩
    cases q with
    | urgent => exact queueLaw_append (h.queue .urgent) sound rests room
    | normal => exact lawN
    | meter => exact lawM
  | normal =>
    refine ⟨fun q => ?_, by simp only [Sou.used, Sou.putQueue, Sou.queue, blocksOf_append, blocksOf_cons, blocksOf_nil]; omega,
      metersM, h.history⟩
    cases q with
    | urgent => exact h.queue .urgent
    | normal => exact queueLaw_append lawN sound rests (sizeN.trans_lt room)
    | meter => exact lawM
  | meter =>
    refine ⟨fun q => ?_, by simp only [Sou.used, Sou.putQueue, Sou.queue, blocksOf_append, blocksOf_cons, blocksOf_nil]; omega,
      ?_, h.history⟩
    · cases q with
      | urgent => exact h.queue .urgent
      | normal => exact lawN
      | meter => exact queueLaw_append lawM sound rests (sizeM.trans_lt room)
    · simp only [Sou.putQueue, Sou.queue, List.map_append, List.map_cons, List.map_nil]
      rw [List.nodup_append]
      refine ⟨metersM, by simp, fun a ha b hb => ?_⟩
      obtain ⟨g, hg, rfl⟩ := List.mem_map.mp ha
      rw [List.mem_singleton.mp hb]
      exact fresh rfl g (subM.subset hg)

end

/-! ## Frames that end, and frames handed over -/

section
variable {o : Option Owner} {s : State}

theorem queuesLaw_endFrame (h : QueuesLaw o s.sou) (f : QFrame) (r : FrameResult) : QueuesLaw o (endFrame f r s).sou := by
  unfold endFrame
  split
  · have short := h.history
    have bound : ∀ x : HistoryRecord, ((if 16 ≤ s.sou.history.length then s.sou.history.drop 1 else s.sou.history) ++ [x]).length ≤ 16 := by
      intro x
      simp only [List.length_append, List.length_singleton]
      split
      · simp only [List.length_drop]
        omega
      · omega
    dsimp only
    split
    · rw [notify_eq]
      exact queuesLaw_history h (bound _)
    · exact queuesLaw_history h (bound _)
  · exact h

theorem queuesLaw_endFrames (h : QueuesLaw o s.sou) (r : FrameResult) (fs : List QFrame) : QueuesLaw o (endFrames r fs s).sou := by
  induction fs generalizing s with
  | nil => exact h
  | cons f rest ih => exact ih (queuesLaw_endFrame h f r)

theorem replaceFirst_forall₂ (test : α → Bool) (g : α → α) (xs : List α) :
    List.Forall₂ (fun x y => y = x ∨ (test x = true ∧ y = g x)) xs (replaceFirst test g xs) := by
  induction xs with
  | nil => exact .nil
  | cons x rest ih =>
    unfold replaceFirst
    split
    · rename_i passes
      exact .cons (.inr ⟨passes, rfl⟩) (List.forall₂_same.mpr fun _ _ => .inl rfl)
    · exact .cons (.inl rfl) ih

/-- R174: frames that merge are of one origin and address, and their payloads are of one length. -/
theorem coalesces_spec {q : QueueId} {f g : QFrame} (hf : FrameSound q f) (hg : FrameSound q g) (merge : f.coalesces g = true) :
    (g.origin = .meter ∨ g.origin = .feedback) ∧ f.origin = g.origin ∧ f.frame.address = g.frame.address ∧
      f.frame.payload.length = g.frame.payload.length := by
  obtain ⟨-, -, -, -, feedback, meter, -⟩ := hf
  obtain ⟨-, -, -, -, feedback', meter', -⟩ := hg
  unfold QFrame.coalesces at merge
  split at merge
  · rename_i of og
    exact ⟨.inl og, of.trans og.symm, by simpa using merge, (meter of).2.1.trans (meter' og).2.1.symm⟩
  · rename_i of og
    simp only [Bool.and_eq_true, beq_iff_eq] at merge
    exact ⟨.inr og, of.trans og.symm, merge.1, (feedback of).2.1.trans (feedback' og).2.1.symm⟩
  · cases merge

theorem frameSound_renew {q : QueueId} {f g : QFrame} (hf : FrameSound q f) (hg : FrameSound q g) (merge : f.coalesces g = true) :
    FrameSound q (g.renew f) := by
  obtain ⟨origin, -, -, length⟩ := coalesces_spec hf hg merge
  obtain ⟨retries, waits, address, host, feedback, meter, removal, other, rests⟩ := hg
  refine ⟨retries, waits, address, fun is => ?_, fun is => ?_, fun is => ?_, fun is => ?_, other, fun still => ?_⟩
  · change g.origin = _ at is
    rw [is] at origin
    simp at origin
  · obtain ⟨a, b, c⟩ := feedback is
    exact ⟨a, length.trans b, c⟩
  · obtain ⟨a, b, c⟩ := meter is
    exact ⟨a, length.trans b, c⟩
  · change g.origin = _ at is
    rw [is] at origin
    simp at origin
  · change g.inFlight = false at still
    obtain ⟨renewed, mark⟩ := rests still
    exact ⟨by simp [QFrame.renew, renewed, still], mark⟩

theorem queueLaw_of_forall₂ {q : QueueId} {fs gs : List QFrame} (h : QueueLaw o q fs)
    (all : List.Forall₂ (fun f g => (FrameSound q f → FrameSound q g) ∧ g.inFlight = f.inFlight) fs gs) : QueueLaw o q gs := by
  refine ⟨all.length_eq ▸ h.size, fun g hg => ?_, fun g hg => ?_, ?_⟩
  · obtain ⟨i, hi, rfl⟩ := List.mem_iff_getElem.mp hg
    exact ((List.forall₂_iff_get.mp all).2 i (all.length_eq ▸ hi) hi).1 (h.frames _ (List.getElem_mem _))
  · cases all with
    | nil => cases hg
    | cons _ rest =>
      obtain ⟨i, hi, rfl⟩ := List.mem_iff_getElem.mp hg
      exact ((List.forall₂_iff_get.mp rest).2 i (rest.length_eq ▸ hi) hi).2.trans (h.behind _ (List.getElem_mem _))
  · cases all with
    | nil => exact h.head
    | cons first _ => simpa [first.2] using h.head

/-- An internal frame handed over (R174, R175). -/
theorem queuesLaw_handFrame (h : QueuesLaw o s.sou) {q : QueueId} {f : QFrame} (sound : FrameSound q f) (rests : f.inFlight = false)
    (meter : q = .meter → f.origin = .meter) : QueuesLaw o (handFrame q f s).sou := by
  unfold handFrame
  split
  · have frames := (h.queue q).frames
    have all : List.Forall₂ (fun x y : QFrame => y = x ∨ (FrameSound q x ∧ f.coalesces x = true ∧ y = x.renew f)) (s.sou.queue q)
        (replaceFirst (f.coalesces ·) (·.renew f) (s.sou.queue q)) := by
      rw [List.forall₂_iff_get]
      obtain ⟨length, each⟩ := List.forall₂_iff_get.mp (replaceFirst_forall₂ (f.coalesces ·) (·.renew f) (s.sou.queue q))
      exact ⟨length, fun i hi hi' => (each i hi hi').imp_right fun ⟨merge, same⟩ => ⟨frames _ (List.getElem_mem _), merge, same⟩⟩
    have blocks : blocksOf (replaceFirst (f.coalesces ·) (·.renew f) (s.sou.queue q)) = blocksOf (s.sou.queue q) := by
      generalize replaceFirst (f.coalesces ·) (·.renew f) (s.sou.queue q) = gs at all
      generalize s.sou.queue q = fs at all
      induction all with
      | nil => rfl
      | cons first _ ih =>
        rw [blocksOf_cons, blocksOf_cons, ih]
        obtain rfl | ⟨hx, merge, rfl⟩ := first
        · rfl
        · simp only [QFrame.blocks, QFrame.renew, (coalesces_spec sound hx merge).2.2.2]
    have addresses : (replaceFirst (f.coalesces ·) (·.renew f) (s.sou.queue q)).map (fun f => f.frame.address) =
        (s.sou.queue q).map (fun f => f.frame.address) := by
      generalize replaceFirst (f.coalesces ·) (·.renew f) (s.sou.queue q) = gs at all
      generalize s.sou.queue q = fs at all
      induction all with
      | nil => rfl
      | cons first _ ih =>
        rw [List.map_cons, List.map_cons, ih]
        obtain rfl | ⟨-, -, rfl⟩ := first <;> rfl
    refine queuesLaw_putQueue h (queueLaw_of_forall₂ (h.queue q) (all.imp fun x y hy => ?_)) (fun _ _ => Iff.rfl) (Nat.le_of_eq blocks)
      fun is => ?_
    · obtain rfl | ⟨-, merge, rfl⟩ := hy
      · exact ⟨id, rfl⟩
      · exact ⟨fun hx => frameSound_renew sound hx merge, rfl⟩
    · subst is
      rw [addresses]
      exact h.meters
  · rename_i apart
    split
    · rename_i after dropped taken
      refine queuesLaw_endFrames (s := s.withSou after) (queuesLaw_take h taken sound rests fun is g hg same => apart ?_) ..
      subst is
      obtain ⟨-, -, -, host, feedback, -, removal, -⟩ := (h.queue .meter).frames g hg
      have origin : g.origin = .meter := by
        cases og : g.origin with
        | host => exact absurd rfl (host og).1
        | feedback => cases (feedback og).1
        | removal => cases (removal og).1
        | meter => rfl
      rw [List.any_eq_true]
      exact ⟨g, hg, by simp [QFrame.coalesces, meter rfl, origin, same]⟩
    · exact h
    · exact h

/-! ## Frames withdrawn, and the head frame's outcome -/

/-- R179, R180: those named leave, but one in flight is marked. -/
theorem withdraw_eq (named : QFrame → Bool) (mark : EndMark) (fs : List QFrame) :
    withdraw named mark fs =
      ((fs.filter (fun f => !named f || f.inFlight)).map (fun f => if named f then { f with mark := some (f.mark.getD mark) } else f),
        fs.filter (fun f => named f && !f.inFlight)) := by
  induction fs with
  | nil => rfl
  | cons f rest ih =>
    unfold withdraw
    rw [ih]
    cases hn : named f <;> cases hf : f.inFlight <;> simp [hn, hf]

theorem queueLaw_withdraw {q : QueueId} {fs : List QFrame} (h : QueueLaw o q fs) (named : QFrame → Bool) (mark : EndMark) :
    QueueLaw o q (withdraw named mark fs).1 := by
  rw [withdraw_eq]
  refine queueLaw_map (queueLaw_of_sublist h List.filter_sublist fun f hf flies => by simp [hf, flies]) (fun f hf sound => ?_)
    fun f _ => ?_
  · obtain ⟨-, stays⟩ := List.mem_filter.mp hf
    split
    · rename_i isNamed
      have flies : f.inFlight = true := by simpa [isNamed] using stays
      obtain ⟨retries, waits, address, host, feedback, meter, removal, other, -⟩ := sound
      exact ⟨retries, waits, address, host, feedback, meter, removal, other, fun still => by simp [flies] at still⟩
    · exact sound
  · split <;> rfl

theorem blocksOf_withdraw (named : QFrame → Bool) (mark : EndMark) (fs : List QFrame) :
    blocksOf (withdraw named mark fs).1 ≤ blocksOf fs := by
  rw [withdraw_eq]
  refine (Nat.le_of_eq (blocksOf_map fun f _ => ?_)).trans (blocksOf_sublist List.filter_sublist)
  split <;> rfl

/-- Frames withdrawn from all three queues. -/
theorem queuesLaw_withdraw (h : QueuesLaw o s.sou) (named : QFrame → Bool) (mark : EndMark) :
    QueuesLaw o { s.sou with urgent := (withdraw named mark s.sou.urgent).1, normal := (withdraw named mark s.sou.normal).1
                             meter := (withdraw named mark s.sou.meter).1 } := by
  refine ⟨fun q => ?_, ?_, ?_, h.history⟩
  · cases q with
    | urgent => exact queueLaw_withdraw (h.queue .urgent) named mark
    | normal => exact queueLaw_withdraw (h.queue .normal) named mark
    | meter => exact queueLaw_withdraw (h.queue .meter) named mark
  · have pool := h.pool
    have u := blocksOf_withdraw named mark s.sou.urgent
    have n := blocksOf_withdraw named mark s.sou.normal
    have m := blocksOf_withdraw named mark s.sou.meter
    simp only [Sou.used] at pool ⊢
    omega
  · have addresses : (withdraw named mark s.sou.meter).1.map (fun f => f.frame.address) =
        (s.sou.meter.filter (fun f => !named f || f.inFlight)).map (fun f => f.frame.address) := by
      rw [withdraw_eq, List.map_map]
      refine List.map_congr_left fun f _ => ?_
      simp only [Function.comp_apply]
      split <;> rfl
    exact addresses ▸ h.meters.sublist (List.filter_sublist.map _)

theorem queuesLaw_purge (h : QueuesLaw o s.sou) (a : Nat) : QueuesLaw o (purge a s).sou :=
  queuesLaw_endFrames (s := s.withSou _) (queuesLaw_withdraw h _ _) ..

theorem queuesLaw_abortFrames (h : QueuesLaw o s.sou) (named : QFrame → Bool) : QueuesLaw o (abortFrames named s).1.sou :=
  queuesLaw_endFrames (s := s.withSou _) (queuesLaw_withdraw h _ _) ..

/-- A frame that stays after its transaction is one that its queue may hold, and is not in flight (R174, R178). -/
theorem frameSound_decided {q : QueueId} {f g : QFrame} {r : TxnResult} (sound : FrameSound q f) (stays : f.decided r = .stays g) :
    FrameSound q g ∧ g.inFlight = false ∧ g.frame = f.frame := by
  obtain ⟨retries, waits, address, host, feedback, meter, removal, other, -⟩ := sound
  unfold QFrame.decided at stays
  dsimp only at stays
  split at stays
  · split at stays <;> cases stays
  · rename_i unmarked
    split at stays
    · cases stays
      have few : f.origin.newRetries ≤ 3 := by cases f.origin <;> decide
      exact ⟨⟨few, by simp [QFrame.asNew], address, host, feedback, meter, removal, other, fun _ => ⟨rfl, unmarked⟩⟩, rfl, rfl⟩
    · rename_i old
      have plain : f.renewed = false ∧ f.mark = none := ⟨by simpa using old, unmarked⟩
      unfold QFrame.fate at stays
      split at stays
      case h_1 => cases stays
      case h_2 => cases stays
      case h_3 => cases stays
      case h_4 =>
        split at stays
        · cases stays
        · rename_i few
          simp only [Fate.stays.injEq] at stays
          subst stays
          exact ⟨⟨retries, by dsimp only at few ⊢; omega, address, host, feedback, meter, removal, other, fun _ => plain⟩, rfl, rfl⟩
      all_goals
        split at stays
        · simp only [Fate.stays.injEq] at stays
          subst stays
          exact ⟨⟨by dsimp only; omega, waits, address, host, feedback, meter, removal, other, fun _ => plain⟩, rfl, rfl⟩
        · cases stays

theorem queuesLaw_frameOutcome {q : QueueId} (h : QueuesLaw (some (.output q)) s.sou) (r : TxnResult) :
    QueuesLaw none (frameOutcome q r s).sou := by
  have others (q' : QueueId) (differ : q' ≠ q) : some (Owner.output q) = some (.output q') ↔ (none : Option Owner) = some (.output q') := by
    simp [Ne.symm differ]
  have law := h.queue q
  have meters := h.meters
  unfold frameOutcome
  split
  · rename_i empty
    rw [empty] at law
    exact absurd (law.head.mpr rfl) (by simp)
  · rename_i f rest hq
    rw [hq] at law
    have frames : ∀ g ∈ rest, FrameSound q g := fun g hg => law.frames g (by simp [hg])
    have size := law.size
    rw [List.length_cons] at size
    split
    · refine queuesLaw_endFrame (s := s.withSou _) (queuesLaw_putQueue h (queueLaw_of_idle (o := none) (by omega) frames law.behind nofun) others
        (by rw [hq, blocksOf_cons]; omega) fun is => ?_) ..
      subst is
      rw [show s.sou.meter = f :: rest from hq, List.map_cons] at meters
      exact (List.nodup_cons.mp meters).2
    · rename_i g stays
      obtain ⟨sound, rests, frame⟩ := frameSound_decided (law.frames f (by simp)) stays
      refine queuesLaw_putQueue h (queueLaw_of_idle (o := none) size (fun x hx => ?_) (fun x hx => ?_) nofun) others ?_ fun is => ?_
      · obtain rfl | hx := List.mem_cons.mp hx
        · exact sound
        · exact frames x hx
      · obtain rfl | hx := List.mem_cons.mp hx
        · exact rests
        · exact law.behind x hx
      · rw [hq, blocksOf_cons, blocksOf_cons, QFrame.blocks, QFrame.blocks, frame]
      · subst is
        rw [show s.sou.meter = f :: rest from hq] at meters
        simpa [frame] using meters

end

end Sys2Proof.Machine
end

section
/-! PROOFS. The laws of the surface bus (07, section 7.7) and of the Surface Output (09), kept by every step. -/

namespace Sys2Proof.Machine

open Sys2Proof.Safety

/-! ## Addresses and queues together -/

/-- A module address. -/
def ModuleAddress (a : Nat) : Prop := 1 ≤ a ∧ a ≤ 30

/-- A binding that is not EMPTY is for the local bank or for a module address. -/
def Binding.Addressed (b : Binding) : Prop := b.state ≠ .empty → ∀ a, b.control.origin = .remote a → a ≤ 30

theorem addressed_of_fields {b : Binding} (h : BindingFields b) : b.Addressed := by
  intro used a origin
  obtain ⟨-, -, -, -, range, -⟩ := h.2 used
  simp only [controlInRange, origin, Bool.and_eq_true, decide_eq_true_eq] at range
  exact range.1.2

/-- What the queues stand on: their own law, with the owner `o` of the transaction that holds a head frame, and module addresses
within 1 to 30 wherever a frame may take one from. -/
structure Posted (o : Option Owner) (s : State) : Prop where
  queues : QueuesLaw o s.sou
  entries : ∀ e ∈ s.mtb.entries, ModuleAddress e.address
  round : ∀ a ∈ s.sbc.roundList, ModuleAddress a
  bindings : ∀ b ∈ s.bdt, b.Addressed

section
variable {o : Option Owner} {s t : State}

theorem posted_of_sou {ps : List Part} (h : Posted o s) (r : Reaches ps s t) (queues : QueuesLaw o t.sou)
    (mtb : Part.mtb ∉ ps := by decide) (sbc : Part.sbc ∉ ps := by decide) (bdt : Part.bdt ∉ ps := by decide) : Posted o t := by
  refine ⟨queues, ?_, ?_, ?_⟩
  · rw [show t.mtb = s.mtb from r.frame .mtb mtb]
    exact h.entries
  · rw [show t.sbc = s.sbc from r.frame .sbc sbc]
    exact h.round
  · rw [show t.bdt = s.bdt from r.frame .bdt bdt]
    exact h.bindings

theorem posted_of_reaches {ps : List Part} (h : Posted o s) (r : Reaches ps s t) (sou : Part.sou ∉ ps := by decide)
    (mtb : Part.mtb ∉ ps := by decide) (sbc : Part.sbc ∉ ps := by decide) (bdt : Part.bdt ∉ ps := by decide) : Posted o t :=
  posted_of_sou h r (by rw [show t.sou = s.sou from r.frame .sou sou]; exact h.queues) mtb sbc bdt

variable (h : Posted o s)
include h

theorem posted_withSbc {b : Sbc} (round : ∀ a ∈ b.roundList, ModuleAddress a) : Posted o (s.withSbc b) :=
  ⟨h.queues, h.entries, round, h.bindings⟩

theorem posted_withBdt {bs : List Binding} (bindings : ∀ b ∈ bs, b.Addressed) : Posted o (s.withBdt bs) :=
  ⟨h.queues, h.entries, h.round, bindings⟩

theorem posted_mapBdt {f : Binding → Binding} (used : ∀ b ∈ s.bdt, (f b).state ≠ .empty → b.state ≠ .empty)
    (same : ∀ b, (f b).control = b.control) : Posted o (s.withBdt (s.bdt.map f)) := by
  refine posted_withBdt h fun b hb => ?_
  obtain ⟨x, hx, rfl⟩ := List.mem_map.mp hb
  intro now a origin
  rw [same] at origin
  exact h.bindings x hx (used x hx now) a origin

theorem posted_sendFeedback {b : Binding} (dest : ∀ a, b.control.origin = .remote a → a ≤ 30) : Posted o (sendFeedback b s) := by
  refine posted_of_sou h (reaches_sendFeedback b s) ?_
  unfold sendFeedback
  dsimp only
  split
  · rw [show (aimFader b.control.number _ s).sou = s.sou from (reaches_aimFader ..).frame .sou (by decide)]
    exact h.queues
  · rename_i a origin
    split
    · exact h.queues
    · exact queuesLaw_handFrame h.queues ⟨Nat.le_of_ble_eq_true rfl, Nat.zero_lt_succ _, dest a origin, nofun, fun _ => ⟨rfl, rfl, rfl⟩, nofun, nofun,
        fun _ => ⟨rfl, rfl⟩, fun _ => ⟨rfl, rfl⟩⟩ rfl nofun

theorem posted_setTarget (x : LevelRef) (g : Option Gain) (m : Option Bool) (cause : Option Nat) :
    Posted o (setTarget x g m cause s) := by
  have put : Posted o (s.withRme (s.rme.putLevel x ((s.rme.level x).setTarget g m s.rme.rampLength))) :=
    posted_of_reaches h (reaches_withRme ..)
  refine foldl_keeps (fun t y hy ht => ?_) put
  obtain ⟨i, b⟩ := y
  dsimp only
  split
  · rename_i hears
    simp only [Binding.hears, Bool.and_eq_true, beq_iff_eq] at hears
    have there := List.mem_of_getElem? (mem_numbered.mp hy).2
    exact posted_sendFeedback ht (put.bindings b there (by simp [hears.1]))
  · exact ht

theorem posted_boundEvent (i : Nat) (b : Binding) (e : SurfaceEvent) : Posted o (boundEvent i b e s) := by
  have held (x : LevelRef) (c : Option Control) : Posted o (setHolder x c s) := posted_of_reaches h (reaches_setHolder ..)
  have ite {c : Prop} [Decidable c] {a b : State} (ha : Posted o a) (hb : Posted o b) : Posted o (if c then a else b) := by
    split
    · exact ha
    · exact hb
  unfold boundEvent
  split
  · unfold absoluteEvent
    dsimp only
    split
    · exact ite (ite (held ..) h) (ite (held ..) h)
    · exact ite (posted_setTarget h ..) h
    · exact ite (posted_setTarget h ..) h
    · exact h
  · exact ite (posted_setTarget h ..) h
  · exact ite (posted_setTarget h ..) h

theorem posted_deliverEvent (e : SurfaceEvent) : Posted o (deliverEvent e s) :=
  deliverEvent_keeps (P := Posted o) (fun i b e _ _ _ _ h => posted_boundEvent h i b e)
    (fun _ _ h => posted_of_reaches h (reaches_notify ..)) e h

theorem posted_takeEvents (a : Nat) (stamp : Word32) (bytes : List Byte) : Posted o (takeEvents a stamp bytes s) :=
  takeEvents_keeps (P := Posted o) (fun e _ _ h => posted_deliverEvent h e) (fun _ h => ⟨h.queues, h.entries, h.round, h.bindings⟩)
    a stamp bytes h

theorem posted_putEntry {e : Entry} (range : ModuleAddress e.address) : Posted o (putEntry e s) := by
  refine ⟨h.queues, fun x hx => ?_, h.round, h.bindings⟩
  obtain rfl | hx := mem_insertEntry hx
  · exact range
  · exact h.entries x hx

theorem posted_judgeModule (a : Nat) (r : TxnResult) : Posted o (judgeModule a r s) := by
  unfold judgeModule
  split
  · exact h
  · rename_i e found
    have same : (e.judged r s.sbc.newExpiry).address = e.address := by
      unfold Entry.judged
      split <;> rfl
    split
    · exact h
    · have put : Posted o (putEntry (e.judged r s.sbc.newExpiry) s) :=
        posted_putEntry h (by rw [same]; exact h.entries e (entry_mem found).1)
      dsimp only
      split
      · exact put
      · exact posted_of_reaches put (reaches_notify ..)

theorem posted_refreshExpiries : Posted o (refreshExpiries s) := by
  refine ⟨h.queues, fun e he => ?_, h.round, h.bindings⟩
  obtain ⟨x, hx, rfl⟩ := List.mem_map.mp he
  exact h.entries x hx

theorem posted_removeModule (a : Nat) (d : ModuleDetail) : Posted o (removeModule a d s) := by
  cases he : s.mtb.entry a with
  | none =>
    rw [removeModule_of_none d he]
    exact h
  | some e =>
    have range : ModuleAddress a := by
      rw [← (entry_mem he).2]
      exact h.entries e (entry_mem he).1
    have listed : Posted o (unlist a e d s) := by
      simp only [unlist, notify_eq]
      exact ⟨h.queues, fun x hx => h.entries x (List.mem_of_mem_filter hx), fun x hx => h.round x (List.mem_of_mem_filter hx),
        h.bindings⟩
    have purged : Posted o (purge a (unlist a e d s)) := posted_of_sou listed (reaches_purge ..) (queuesLaw_purge listed.queues a)
    have gone : Posted o (orphanModule a (purge a (unlist a e d s))) := by
      have released : Posted o ((purge a (unlist a e d s)).bdt.foldl (fun s b =>
          if b.state == .active && b.control.origin == .remote a then releaseHold b s else s) (purge a (unlist a e d s))) := by
        refine foldl_keeps (P := Posted o) (fun t b _ ht => ?_) purged
        split
        · exact posted_of_reaches ht (reaches_releaseHold ..)
        · exact ht
      have same := (orphanModule_spec a (purge a (unlist a e d s))).2.2
      refine posted_withBdt released fun b hb => ?_
      obtain ⟨x, hx, rfl⟩ := List.mem_map.mp hb
      have old := released.bindings x hx
      split
      · rename_i leaves
        simp only [Bool.and_eq_true, beq_iff_eq] at leaves
        exact fun _ => old (by simp [leaves.1])
      · exact old
    rw [removeModule_of_some d he]
    split
    · exact gone
    · exact posted_of_sou gone (reaches_handFrame ..) (queuesLaw_handFrame gone.queues ⟨Nat.le_of_ble_eq_true rfl, Nat.zero_lt_succ _, range.2, nofun, nofun, nofun,
        fun _ => ⟨rfl, rfl, rfl⟩, fun _ => ⟨rfl, rfl⟩, fun _ => ⟨rfl, rfl⟩⟩ rfl nofun)

theorem posted_removeModules (d : ModuleDetail) (as : List Nat) : Posted o (removeModules d as s) :=
  removeModules_keeps (P := Posted o) d (fun a _ h => posted_removeModule h a d) as h

theorem posted_setSearch (x : Search) : Posted o (setSearch x s) := posted_withSbc h h.round

theorem posted_callResult (p : Stem) (r : TxnResult) : Posted o (callResult p r s) := by
  have splits : Posted o (collide p s) := by
    unfold collide
    dsimp only
    split
    · exact posted_setSearch h _
    · exact posted_of_reaches (posted_setSearch h _) (reaches_notify ..)
  unfold callResult
  split
  · exact posted_setSearch h _
  · split
    · split
      · exact posted_setSearch h _
      · exact splits
    · exact splits
  · exact splits

theorem posted_reattach (a : Nat) (x : Serial) : Posted o (reattach a x s) := by
  have back : Posted o (s.withBdt (s.bdt.map (fun b => if b.reattaches a x then { b with state := .active, cause := .none } else b))) := by
    refine posted_mapBdt h (fun b _ used => ?_) fun b => ?_
    · split at used
      · rename_i joins
        simp only [Binding.reattaches, Bool.and_eq_true, beq_iff_eq] at joins
        simp [joins]
      · exact used
    · split <;> rfl
  refine foldl_keeps (P := Posted o) (fun t b hb ht => ?_) back
  split
  · obtain ⟨there, joins⟩ := List.mem_filter.mp hb
    simp only [Binding.reattaches, Bool.and_eq_true, beq_iff_eq] at joins
    exact posted_sendFeedback ht (h.bindings b there (by simp [joins]))
  · exact ht

theorem posted_stepResult (r : TxnResult) : Posted o (stepResult r s) := by
  unfold stepResult
  split
  · exact posted_callResult h ..
  · simp only [assignResult]
    have moved : Posted o (setSearch s.sbc.search.stepOver s) := posted_setSearch h _
    split
    · exact moved
    · rename_i e joining
      split
      · simp only [State.joiningEntry, Option.filter_eq_some_iff] at joining
        have put := posted_putEntry moved (e := { e with state := .online, expiry := (setSearch s.sbc.search.stepOver s).sbc.newExpiry })
          (moved.entries e (entry_mem joining.1).1)
        exact posted_reattach (posted_of_reaches put (reaches_notify ..)) ..
      · exact posted_removeModule moved ..
  · exact posted_setSearch h _
  · exact h

omit h in
/-- R138: at the end of a transaction nothing is in flight, and the head frame it held has had its outcome. -/
theorem posted_endTxn {x : Txn} (h : Posted (some x.owner) s) (r : TxnResult) : Posted none (endTxn x r s) := by
  have free {t : State} (ht : Posted (some x.owner) t) (other : ∀ q, x.owner ≠ .output q) : Posted none t :=
    ⟨queuesLaw_owner ht.queues fun q => by simp [other q], ht.entries, ht.round, ht.bindings⟩
  refine endTxn_keeps (P := Posted (some x.owner)) (Q := Posted none) (posted_withSbc h ?_) (fun t h => posted_judgeModule h _ r)
    (fun _ _ t h => posted_takeEvents h ..) (fun t h => ?_)
  · cases r <;> exact h.round
  · unfold toOwner
    split
    · rename_i own
      exact free h (by simp [own])
    · rename_i own
      exact free h (by simp [own])
    · rename_i own
      exact free (posted_stepResult h r) (by simp [own])
    · rename_i q own
      rw [own] at h
      have r' := reaches_frameOutcome q r t
      exact ⟨queuesLaw_frameOutcome h.queues r, by rw [show (frameOutcome q r t).mtb = t.mtb from r'.frame .mtb (by decide)]; exact h.entries,
        by rw [show (frameOutcome q r t).sbc = t.sbc from r'.frame .sbc (by decide)]; exact h.round,
        by rw [show (frameOutcome q r t).bdt = t.bdt from r'.frame .bdt (by decide)]; exact h.bindings⟩

theorem posted_assignStep (a : Answer) : Posted o (assignStep a s).1 := by
  have joins {t : State} (ht : Posted o t) : Posted o (joinNew a t).1 := by
    unfold joinNew
    split
    · exact posted_of_reaches (posted_setSearch ht _) (reaches_notify ..)
    · rename_i address found
      obtain ⟨-, low, high, -⟩ := lowestAddress_free found
      exact posted_setSearch (posted_of_reaches (posted_putEntry ht ⟨low, high⟩) (reaches_withFresh ..)) _
  have refused : Posted o (refuseModule a s).1 := posted_of_reaches (posted_setSearch h _) (reaches_notify ..)
  unfold assignStep
  split
  · rename_i e found
    have put := posted_putEntry h (e := { e with kind := a.kind, controls := a.controls, touch := a.touch, meters := a.meters
                                                 state := .joining, quality := 0 }) (h.entries e (List.mem_of_find?_eq_some found))
    refine posted_setSearch ?_ _
    split
    · exact put
    · exact posted_of_reaches put (reaches_releaseHolders ..)
  · split
    · exact joins h
    · split
      · exact joins (posted_removeModule h ..)
      · exact refused

theorem posted_handMeterFrames : Posted o (handMeterFrames s) := by
  refine foldl_keeps (P := Posted o) (fun t a ha ht => ?_) h
  obtain ⟨e, he, rfl⟩ := List.mem_map.mp ha
  refine posted_of_sou ht (reaches_handFrame ..) (queuesLaw_handFrame ht.queues ⟨Nat.zero_le _, Nat.zero_lt_succ _,
    (h.entries e (List.mem_of_mem_filter he)).2, nofun, nofun, fun _ => ⟨rfl, by simp [newFrame, meterFrame], rfl⟩, nofun, fun _ => ⟨rfl, rfl⟩,
    fun _ => ⟨rfl, rfl⟩⟩ rfl fun _ => rfl)

theorem posted_studioFrame : Posted o (studioFrame s) := by
  have measured {c : Cku} {u : Stu} {m : Rme} {ps : List Port} {a b d e : List NoticeBody} :
      Posted o (notifyMerged a b d e (withPorts ps (((s.withCku c).withStu u).withRme m))) := by
    rw [notifyMerged_eq]
    exact ⟨h.queues, h.entries, h.round, h.bindings⟩
  unfold studioFrame
  dsimp only
  split
  · exact posted_handMeterFrames measured
  · exact measured

end

/-! ## The owner of the transaction in flight -/

/-- The owner of the transaction in flight. -/
def Sbc.owner (b : Sbc) : Option Owner := b.txn.map (fun t => t.owner)

/-- The law of the queues, of the addresses and of the bus. -/
structure Driven (s : State) : Prop where
  posted : Posted s.sbc.owner s
  bus : BusSound s.sbc

theorem busSound_of_sameBus {b c : Sbc} (h : BusSound b) (same : SameBus b c) : BusSound c := by
  rw [same]
  exact h

section
variable {s t : State}

theorem driven_of_reaches {ps : List Part} (h : Driven s) (r : Reaches ps s t) (sou : Part.sou ∉ ps := by decide)
    (mtb : Part.mtb ∉ ps := by decide) (sbc : Part.sbc ∉ ps := by decide) (bdt : Part.bdt ∉ ps := by decide) : Driven t := by
  have same : t.sbc = s.sbc := r.frame .sbc sbc
  rw [show Driven t ↔ Posted s.sbc.owner t ∧ BusSound s.sbc by rw [← same]; exact ⟨fun h => ⟨h.posted, h.bus⟩, fun h => ⟨h.1, h.2⟩⟩]
  exact ⟨posted_of_reaches h.posted r sou mtb sbc bdt, h.bus⟩

theorem driven_of_posted (h : Driven s) (same : SameBus s.sbc t.sbc) (posted : Posted s.sbc.owner t) : Driven t :=
  ⟨by rw [show t.sbc.owner = s.sbc.owner by rw [same]; rfl]; exact posted, busSound_of_sameBus h.bus same⟩

theorem driven_of_posted_reaches {ps : List Part} (h : Driven s) (r : Reaches ps s t) (posted : Posted s.sbc.owner t)
    (sbc : Part.sbc ∉ ps := by decide) : Driven t :=
  driven_of_posted h (sameBus_of_reaches r sbc) posted

/-- The bus changes its own state, with the transaction in flight left as it is. -/
theorem driven_withSbc (h : Driven s) {b : Sbc} (txn : b.txn = s.sbc.txn) (round : b.roundList = s.sbc.roundList) (bus : BusSound b) :
    Driven (s.withSbc b) := by
  refine ⟨?_, bus⟩
  rw [show (s.withSbc b).sbc.owner = s.sbc.owner by simp [Sbc.owner, txn]]
  exact posted_withSbc h.posted (by rw [round]; exact h.posted.round)

/-- A frame that its owner sends starts a transaction. -/
theorem driven_startTxn (h : BusSound s.sbc) {f : BusFrame} {o : Owner} (posted : Posted (some o) s)
    (sends : ownerSends ⟨f, o, .sending⟩ = true) : Driven (startTxn f o s) := by
  obtain ⟨-, -, rest⟩ := h
  refine ⟨posted_withSbc posted posted.round, ⟨fun t ht => ?_, nofun, rest⟩⟩
  cases ht
  exact sends

theorem queued_sends {q : QueueId} {f : QFrame} (h : FrameSound q f) : ownerSends ⟨f.frame, .output q, .sending⟩ = true := by
  obtain ⟨-, -, address, host, feedback, meter, removal, -⟩ := h
  simp only [ownerSends, Bool.and_eq_true, decide_eq_true_eq, Bool.or_eq_true, beq_iff_eq]
  refine ⟨address, ?_⟩
  cases og : f.origin with
  | host => obtain ⟨-, -, kind, -⟩ := host og; obtain kind | kind := kind <;> simp [kind]
  | feedback => simp [(feedback og).2.2]
  | meter => simp [(meter og).2.2]
  | removal => simp [(removal og).2.2]

theorem offered_head {fs : List QFrame} {f : QFrame} (h : offered fs = some f) : f ∈ fs := by
  cases fs with
  | nil => cases h
  | cons g rest =>
    simp only [offered, Option.ite_none_right_eq_some, Option.some.injEq] at h
    simp [h.2]

theorem assignStep_sends (a : Answer) (s : State) : ownerSends ⟨(assignStep a s).2, .search, .sending⟩ = true := by
  have joins (t : State) : ownerSends ⟨(joinNew a t).2, .search, .sending⟩ = true := by
    unfold joinNew
    split <;> rfl
  unfold assignStep
  split
  · rfl
  · split
    · exact joins _
    · split
      · exact joins _
      · rfl

/-- A pick when nothing is in flight (R139, R177). -/
theorem driven_takeOffer (h : Driven s) (rests : s.sbc.txn = none) {o : Offer} (offers : s.offer = some o) : Driven (takeOffer o s) := by
  have owner : s.sbc.owner = none := by simp [Sbc.owner, rests]
  have posted := h.posted
  rw [owner] at posted
  have taken {p : Owner} {t : State} (ht : Posted none t) (other : ∀ q, p ≠ .output q) : Posted (some p) t :=
    ⟨queuesLaw_owner ht.queues fun q => by simp [other q], ht.entries, ht.round, ht.bindings⟩
  have head {q : QueueId} {f : QFrame} (there : offered (s.sou.queue q) = some f) : Driven (takeOffer (.queued q f) s) := by
    have law := posted.queues.queue q
    refine driven_startTxn (s := s.withSou (s.sou.putQueue q (pickHead (s.sou.queue q)))) h.bus ⟨queuesLaw_putQueue posted.queues (queueLaw_pickHead law fun empty => ?_) (fun q' differ => ?_)
      ?_ ?_, posted.entries, posted.round, posted.bindings⟩ (queued_sends (law.frames f (offered_head there)))
    · rw [empty] at there
      cases there
    · simp [Ne.symm differ]
    · cases hq : s.sou.queue q with
      | nil => exact Nat.le_refl _
      | cons g rest => exact Nat.le_refl _
    · rintro rfl
      have meters := posted.queues.meters
      rw [show s.sou.meter = s.sou.queue .meter from rfl] at meters
      cases hq : s.sou.queue .meter with
      | nil => exact .nil
      | cons g rest =>
        rw [hq] at meters
        exact meters
  unfold State.offer at offers
  split at offers
  · cases offers
    exact driven_startTxn (f := ⟨0, .release, []⟩) (o := .controller) (s := s.withSbc { s.sbc with startUp := false }) h.bus
      (taken (posted_withSbc posted posted.round) nofun) rfl
  · simp only [Option.or_eq_some_iff, Option.map_eq_some_iff] at offers
    obtain ⟨f, there, rfl⟩ | ⟨-, ⟨a, there, rfl⟩ | ⟨-, search | ⟨-, ⟨f, there, rfl⟩ | ⟨-, f, there, rfl⟩⟩⟩⟩ := offers
    · exact head (q := .urgent) there
    · have range := posted.round a (List.mem_of_mem_head? there)
      refine driven_startTxn (f := ⟨a, .poll, []⟩) (o := .round) (s := s.withSbc { s.sbc with roundList := s.sbc.roundList.drop 1 }) h.bus
        (taken (posted_withSbc posted fun x hx => posted.round x (List.mem_of_mem_drop hx)) nofun) ?_
      simp [ownerSends, range.1, range.2]
    · unfold Search.offer at search
      split at search
      · split at search
        · rename_i a _
          cases search
          have bus : BusSound (assignStep a s).1.sbc := by
            refine busSound_of_sameBus h.bus ?_
            have joins {t : State} (ht : SameBus s.sbc t.sbc) : SameBus s.sbc (joinNew a t).1.sbc := by
              unfold joinNew refuseModule holdStep
              split
              · rw [notify_eq]
                exact ht.trans (sameBus_setSearch ..)
              · exact ht.trans (sameBus_setSearch ..)
            unfold assignStep
            split
            · simp only [rejoin]
              split <;> exact sameBus_setSearch ..
            · split
              · exact joins (.refl _)
              · split
                · exact joins (sameBus_removeModule ..)
                · unfold refuseModule
                  rw [notify_eq]
                  exact sameBus_setSearch ..
          exact driven_startTxn bus (taken (posted_assignStep posted a) nofun) (assignStep_sends a s)
        · simp only [Option.map_eq_some_iff] at search
          obtain ⟨p, -, rfl⟩ := search
          exact driven_startTxn (f := ⟨31, .call, p.bytes⟩) (o := .search)
            (s := setSearch { s.sbc.search with step := some (.call p), stack := s.sbc.search.stack.drop 1 } s) h.bus
            (taken (posted_setSearch posted _) nofun) rfl
      · cases search
    · exact head (q := .normal) there
    · exact head (q := .meter) there

theorem driven_schedule (h : Driven s) : Driven (schedule s) := by
  unfold schedule
  split
  · rename_i picks
    simp only [State.mayPick, Bool.and_eq_true, Option.isNone_iff_eq_none] at picks
    split
    · rename_i offers
      exact driven_takeOffer h picks.2 offers
    · exact h
  · exact h

/-- The end of a transaction counts it, and leaves the bus as it was otherwise (R138). -/
theorem driven_endTxn (h : Driven s) {x : Txn} (flight : s.sbc.txn = some x) (r : TxnResult) : Driven (endTxn x r s) := by
  have posted := h.posted
  rw [show s.sbc.owner = some x.owner by simp [Sbc.owner, flight]] at posted
  have same := sameBus_endTxn x r s
  have counted : BusSound { countResult r s.sbc with txn := none, free := false } := by
    obtain ⟨-, -, off, clearing, attempt, stuck, faulted, retry, faultTimer, code, low, high, noReplies, corrupts, overruns, stucks⟩ := h.bus
    have few (n : Nat) : saturate16 n ≤ 65535 := Nat.min_le_left ..
    cases r <;> first
      | exact ⟨nofun, fun _ => rfl, off, clearing, attempt, stuck, faulted, retry, faultTimer, code, low, high, noReplies, corrupts, overruns, stucks⟩
      | exact ⟨nofun, fun _ => rfl, off, clearing, attempt, stuck, faulted, retry, faultTimer, code, low, high, few _, corrupts, overruns, stucks⟩
      | exact ⟨nofun, fun _ => rfl, off, clearing, attempt, stuck, faulted, retry, faultTimer, code, low, high, noReplies, few _, overruns, stucks⟩
  refine ⟨?_, busSound_of_sameBus counted same⟩
  rw [show (endTxn x r s).sbc.owner = none by rw [same]; rfl]
  exact posted_endTxn posted r

theorem driven_endTxnIn (h : Driven s) (phases : List TxnPhase) (r : TxnResult) : Driven (endTxnIn phases r s) := by
  unfold endTxnIn
  split
  · rename_i x flight
    split
    · exact driven_endTxn h flight r
    · exact h
  · exact h

end

theorem driven_enterPhase {s : State} (h : Driven s) (p : TxnPhase) : Driven (enterPhase p s) := by
  obtain ⟨sends, cut, rest⟩ := h.bus
  have owner : (enterPhase p s).sbc.owner = s.sbc.owner := by
    simp only [enterPhase, State.withSbc_sbc, Sbc.owner, Option.map_map]
    rfl
  refine ⟨by rw [owner]; exact posted_withSbc h.posted h.posted.round, ⟨fun t ht => ?_, fun is => ?_, rest⟩⟩
  · obtain ⟨x, hx, rfl⟩ := Option.map_eq_some_iff.mp ht
    exact sends x hx
  · simp only [enterPhase, State.withSbc_sbc, Option.map_eq_none_iff]
    exact cut is

/-! ## The rows -/

section
variable {s t : State}

/-- Nothing queued, nothing in flight, and no module and no binding, as at power-on. -/
theorem driven_of_powerOn (sou : s.sou = State.reset.sou) (mtb : s.mtb = State.reset.mtb) (bdt : s.bdt = State.reset.bdt) {brk : Bool}
    (sbc : SameBus { Sbc.powerOn brk with cutShort := s.sbc.cutShort } s.sbc) (round : s.sbc.roundList = []) : Driven s := by
  have owner : s.sbc.owner = none := by
    rw [sbc]
    rfl
  have start : BusSound { Sbc.powerOn brk with cutShort := s.sbc.cutShort } := by
    refine ⟨fun t ht => ?_, fun _ => rfl, by simp [Sbc.powerOn]⟩
    cases ht
  refine ⟨?_, busSound_of_sameBus start sbc⟩
  rw [owner]
  refine ⟨?_, ?_, ?_, ?_⟩
  · rw [sou]
    exact queuesLaw_iff.mpr resetMeetsEveryLaw.1.output
  · rw [mtb]
    exact fun e he => by cases he
  · rw [round]
    exact fun a ha => by cases ha
  · rw [bdt]
    exact fun b hb => addressed_of_fields (resetMeetsEveryLaw.1.bindings.2.2.2.1 b hb).1

theorem driven_setBus (h : Posted s.sbc.owner s) {st : BusState} (bus : BusSound { s.sbc with bus := st }) (r : BusReason) :
    Driven (setBus st r s) := by
  rw [setBus_eq]
  exact ⟨⟨h.queues, h.entries, h.round, h.bindings⟩, bus⟩

/-- The bus comes to RUNNING, and the scheduler picks (R145 to R147, R149). -/
theorem driven_running {b : Sbc} (h : Posted b.owner (s.withSbc b)) (bus : BusSound { b with bus := .running }) (r : BusReason) :
    Driven (schedule (setBus .running r (refreshExpiries (s.withSbc b)))) :=
  driven_schedule (driven_setBus (s := refreshExpiries (s.withSbc b)) (posted_refreshExpiries h) bus r)

theorem driven_busCleared (h : Driven s) (on : s.sbc.enable = true) : Driven (busCleared s) := by
  obtain ⟨sends, cut, -, -, -, -, -, -, -, rest⟩ := h.bus
  exact driven_running (b := { s.sbc with attempt := 0, faultTimer := none, faultAttempt := false, stuckTimer := false, free := true })
    (posted_withSbc h.posted h.posted.round) ⟨sends, cut, by simp [on], by simp, Nat.zero_le _, nofun, nofun, nofun,
    Nat.zero_le _, rest⟩ _

theorem driven_storeBinding (h : Driven s) {i : Nat} {b : Binding} (fields : b.Addressed) (used : b.state ≠ .empty) :
    Driven (storeBinding i b s) := by
  have start : Reaches [.rme] s (if (s.binding i).state = .empty then s else releaseHold (s.binding i) s) :=
    .ite (fun _ => .refl s) fun _ => reaches_releaseHold _ s
  have before := driven_of_reaches h start
  have put : Driven ((if (s.binding i).state = .empty then s else releaseHold (s.binding i) s).withBdt
      ((if (s.binding i).state = .empty then s else releaseHold (s.binding i) s).bdt.set i b)) := by
    refine driven_of_posted before (.refl _) (posted_withBdt before.posted fun d hd => ?_)
    obtain hd | rfl := List.mem_or_eq_of_mem_set hd
    · exact before.posted.bindings d hd
    · exact fields
  unfold storeBinding
  dsimp only
  split
  · exact driven_of_posted_reaches put (reaches_sendFeedback ..) (posted_sendFeedback put.posted (fields used))
  · exact put

theorem driven_removeModules (h : Driven s) (d : ModuleDetail) (as : List Nat) : Driven (removeModules d as s) :=
  removeModules_keeps (P := Driven) d
    (fun a t h => driven_of_posted h (sameBus_removeModule a d t) (posted_removeModule h.posted a d)) as h

theorem driven_leaveActive (h : Driven s) (id : Nat) : Driven (leaveActive id s) := by
  rw [leaveActive_eq]
  have left := driven_of_reaches h (reaches_withRme s
    ((s.rme.cutReleasing (s.rme.route id).source (s.rme.route id).dest).1.demote id).1)
  have orphans : Driven (orphanRoute id (s.withRme ((s.rme.cutReleasing (s.rme.route id).source (s.rme.route id).dest).1.demote id).1)) := by
    refine driven_of_posted left (.refl _) (posted_mapBdt left.posted (fun b _ used => ?_) fun b => ?_)
    · split at used
      · rename_i leaves
        exact leaves.1
      · exact used
    · split <;> rfl
  exact driven_of_reaches orphans (reaches_notifyAll ..)

theorem hostFrameOf_sound {tag a k p r n : Byte} {data : List Byte} {q : QueueId} {f : QFrame} (fits : data.length ≤ 32)
    (made : hostFrameOf tag a k p r n data = some (q, f)) : FrameSound q f ∧ f.inFlight = false ∧ q ≠ .meter := by
  unfold hostFrameOf at made
  split at made
  · rename_i address kind queue retries notify ha hk hq hr hn
    split at made
    · rename_i ok
      cases made
      have range : address < 31 ∧ retries < 4 := by
        simp only [indexBelow, Option.ite_none_right_eq_some, Option.some.injEq] at ha hr
        omega
      have queue_ : q ≠ .meter := by
        rintro rfl
        unfold priorityOf at hq
        split at hq <;> cases hq
      have kinds : kind = .write ∨ kind = .setControl := by
        unfold sendKindOf at hk
        split at hk
        · cases hk
          exact .inl rfl
        · cases hk
          exact .inr rfl
        · cases hk
      exact ⟨⟨Nat.le_of_lt_succ range.2, Nat.zero_lt_succ _, Nat.le_of_lt_succ range.1, fun _ => ⟨queue_, fits, kinds, rfl⟩, nofun, nofun, nofun,
        fun other => absurd rfl other, fun _ => ⟨rfl, rfl⟩⟩, rfl, queue_⟩
    · cases made
  · cases made

theorem driven_handleSurfaceSetup (h : Driven s) (a b c d : Byte) : Driven (handleSurfaceSetup a b c d s).state := by
  obtain same | ⟨x, made, same⟩ := state_handleSurfaceSetup s a b c d <;> rw [same]
  · exact h
  · obtain ⟨sends, cut, off, clearing, attempt, stuck, faulted, retry, timer, -, -, -, counts⟩ := h.bus
    have range : x.periodCode ≤ 3 ∧ 1 ≤ x.lifetime ∧ x.lifetime ≤ 120 := by
      unfold surfaceSettingsOf at made
      split at made
      · cases made
        simp only [clampTo]
        omega
      · cases made
    obtain ⟨code, low, high⟩ := range
    have stored : Posted s.sbc.owner (storeSettings x s) := posted_withSbc h.posted h.posted.round
    split
    · rename_i stops
      refine driven_setBus ?_ ?_ _
      · exact posted_withSbc (o := s.sbc.owner) stored (by simp)
      exact ⟨sends, cut, by simp [storeSettings, stops.1], by simp, Nat.zero_le _, nofun, nofun, nofun, Nat.zero_le _, code, low, high, counts⟩
    · split
      · rename_i starts
        have calm : s.sbc.attempt = 0 ∧ s.sbc.faultTimer = none ∧ s.sbc.faultAttempt = false := by
          refine ⟨?_, ?_, ?_⟩
          · by_contra some_
            simpa [starts.2] using clearing.mp (Nat.pos_of_ne_zero some_)
          · by_contra some_
            simpa [starts.2] using (faulted (Option.isSome_iff_ne_none.mpr some_)).1
          · by_contra some_
            simpa [starts.2] using retry (by simpa using some_)
        refine driven_running (b := { (storeSettings x s).sbc with
          stuckTimer := (storeSettings x s).sbc.lineBreak && !(storeSettings x s).sending })
          (posted_withSbc (o := s.sbc.owner) stored h.posted.round) ?_ _
        refine ⟨sends, cut, by simp [storeSettings, starts.1], by simp [storeSettings, calm], attempt, fun breaks => ⟨rfl, ?_⟩, ?_, ?_, timer,
          code, low, high, counts⟩
        · simp only [Bool.and_eq_true] at breaks
          exact breaks.1
        · simp [storeSettings, calm]
        · simp [storeSettings, calm]
      · rename_i stops starts
        refine driven_withSbc h rfl rfl ⟨sends, cut, ?_, clearing, attempt, stuck, faulted, retry, timer, code, low, high, counts⟩
        dsimp only
        cases he : x.enable <;> simp_all

theorem driven_handleSurfaceSend (h : Driven s) {data : List Byte} (fits : data.length ≤ 32) (a b c d e f : Byte) :
    Driven (handleSurfaceSend a b c d e f data s).state := by
  obtain same | ⟨q, fr, after, dropped, made, taken, same⟩ := state_handleSurfaceSend s a b c d e f data <;> rw [same]
  · exact h
  · obtain ⟨sound, rests, host⟩ := hostFrameOf_sound fits made
    have admitted : Posted s.sbc.owner (s.withSou after) := posted_of_sou h.posted (reaches_withSou ..)
      (queuesLaw_take h.posted.queues taken sound rests fun is => absurd is host)
    have ended := posted_of_sou admitted (reaches_endFrames .dropped dropped _) (queuesLaw_endFrames admitted.queues ..)
    exact driven_schedule (driven_of_posted_reaches h ((reaches_withSou s after).andThen (reaches_endFrames .dropped dropped _)
      (rs := [.records, .sou])) ended)

end

theorem handler_driven {c : Instr} {handle : State → Handled} (hc : handlerOf c = some handle) {s : State} (h : Driven s) :
    Driven (handle s).state := by
  have reach := handler_reaches hc s
  cases c <;> cases hc
  case reset => exact driven_of_powerOn (brk := s.sbc.lineBreak) rfl rfl rfl rfl rfl
  case routeAdd a b c d =>
    dsimp only [reachOf] at reach
    obtain same | ⟨src, dst, g, mute, invert, _, -, -, -, -, -, -, same⟩ := state_handleRouteAdd s a b c d <;> rw [same]
    · exact h
    · refine driven_of_reaches ?_ (reaches_withRme ..)
      unfold clearLane
      split
      · exact driven_leaveActive h _
      · exact h
  case routeRemove a =>
    obtain same | ⟨_, -, -, same⟩ := state_handleRouteRemove s a <;> rw [same]
    · exact h
    · exact driven_leaveActive h _
  case routeSetGain a b =>
    obtain same | ⟨_, _, -, -, -, same⟩ := state_handleRouteSetGain s a b <;> rw [same]
    · exact h
    · exact driven_schedule (driven_of_posted_reaches h (reaches_setTarget ..) (posted_setTarget h.posted ..))
  case routeSetMute a b =>
    obtain same | ⟨_, _, -, -, same⟩ := state_handleRouteSetMute s a b <;> rw [same]
    · exact h
    · exact driven_schedule (driven_of_posted_reaches h (reaches_setTarget ..) (posted_setTarget h.posted ..))
  case busSet a b c d =>
    obtain same | ⟨_, _, _, _, _, -, -, same⟩ := state_handleBusSet s a b c d <;> rw [same]
    · exact h
    · exact driven_schedule (driven_of_posted_reaches h (reaches_setTarget ..) (posted_setTarget h.posted ..))
  case surfaceSetup => exact driven_handleSurfaceSetup h ..
  case surfaceStatus a =>
    unfold handleSurfaceStatus
    split
    · exact h
    · dsimp only [accept]
      split
      · obtain ⟨sends, cut, off, clearing, attempt, stuck, faulted, retry, timer, code, low, high, -⟩ := h.bus
        exact driven_withSbc h rfl rfl ⟨sends, cut, off, clearing, attempt, stuck, faulted, retry, timer, code, low, high, Nat.zero_le _,
          Nat.zero_le _, Nat.zero_le _, Nat.zero_le _⟩
      · exact h
  case discover =>
    obtain same | ⟨-, -, same⟩ := state_handleDiscover s <;> rw [same]
    · exact h
    · exact driven_schedule (driven_withSbc h rfl rfl h.bus)
  case moduleForget xs =>
    dsimp only
    split
    · obtain same | ⟨_, -, -, same⟩ := state_handleModuleForget s xs <;> rw [same]
      · exact h
      · exact driven_schedule (driven_removeModules h ..)
    · exact h
  case surfaceSend a b c d e f g =>
    dsimp only
    split
    · exact driven_handleSurfaceSend h ‹_› ..
    · exact h
  case surfaceAbort a b =>
    obtain same | ⟨_, -, same⟩ := state_handleSurfaceAbort s a b <;> rw [same]
    · exact h
    · exact driven_schedule (driven_of_posted_reaches h (reaches_abortFrames ..)
        (posted_of_sou h.posted (reaches_abortFrames ..) (queuesLaw_abortFrames h.posted.queues _)))
  case surfaceHistory a =>
    unfold handleSurfaceHistory
    dsimp only
    split
    · exact h
    · have short := h.posted.queues.history
      refine driven_of_posted_reaches h (reaches_withSou ..) (posted_of_sou h.posted (reaches_withSou ..)
        (queuesLaw_history h.posted.queues ?_))
      simp only [List.length_drop]
      omega
  case bindSet a b c d e f g i =>
    obtain same | ⟨i, x, hi, hb, taken, module_, route, same⟩ := state_handleBindSet s a b c d e f g i <;> rw [same]
    · exact h
    · obtain ⟨active, cause, suits, low, high, target, control⟩ := bindingOf_spec hb
      refine driven_schedule (driven_storeBinding h (fun _ a origin => ?_) (by simp [active]))
      dsimp only at origin
      simp only [controlInRange, origin, Bool.and_eq_true, decide_eq_true_eq] at control
      exact control.1.2
  case bindClear a =>
    unfold handleBindClear
    split
    · exact h
    · rename_i i hi
      dsimp only
      split
      · exact h
      · have released := driven_of_reaches h (reaches_releaseHold (s.binding i) s)
        refine driven_of_posted released (.refl _) (posted_withBdt released.posted fun d hd => ?_)
        obtain hd | rfl := List.mem_or_eq_of_mem_set hd
        · exact released.posted.bindings d hd
        · exact fun used => absurd rfl used
  all_goals
    dsimp only [reachOf] at reach
    exact driven_of_reaches h reach

theorem event_driven {c : Instr} (hc : commandOf c = none) (take : c ≠ .takeCommand) {s t : State} (h : Driven s)
    (hx : exec c s = .next t) : Driven t := by
  have reach := event_reaches_of_next hc take hx
  have ite {c : Prop} [Decidable c] {a b : State} (ha : c → Driven a) (hb : ¬ c → Driven b) : Driven (if c then a else b) := by
    split
    · exact ha ‹_›
    · exact hb ‹_›
  obtain ⟨sends, cut, off, clearing, attempt, stuck, faulted, retry, timer, code, low, high, noReplies, corrupts, overruns, stucks⟩ := h.bus
  have few (n : Nat) : saturate16 n ≤ 65535 := Nat.min_le_left ..
  have opens (cause : StartCause) : Driven (sessionOpens cause s) := by
    have start : Driven (((s.withPhase .running).withMsu { s.msu with cause := cause }).withSbc { s.sbc with
        startUp := true, stuckTimer := s.sbc.lineBreak && s.sbc.bus == .running }) := by
      refine ⟨⟨h.posted.queues, h.posted.entries, h.posted.round, h.posted.bindings⟩, ⟨sends, cut, off, clearing, attempt, fun breaks => ?_,
        faulted, retry, timer, code, low, high, noReplies, corrupts, overruns, stucks⟩⟩
      simp only [State.withSbc_sbc, Bool.and_eq_true, beq_iff_eq] at breaks
      exact breaks.symm
    exact driven_schedule (driven_of_reaches start (reaches_notify ..))
  cases c <;> cases hc <;> cases hx
  case takeCommand => exact absurd rfl take
  case powerOn => exact driven_of_powerOn (brk := s.sbc.lineBreak) rfl rfl rfl rfl rfl
  case initialisationComplete => exact ite (fun _ => opens _) fun _ => h
  case resetComplete => exact ite (fun _ => opens _) fun _ => h
  case evaluateStudioFrame =>
    have same : (studioFrame s).sbc = s.sbc := by
      have shown (t : State) : (handMeterFrames t).sbc = t.sbc := (reaches_handMeterFrames t).frame .sbc (by decide)
      unfold studioFrame
      dsimp only
      split <;> simp only [shown, notifyMerged_eq] <;> rfl
    exact driven_schedule (driven_of_posted h (by rw [same]; exact .refl _) (posted_studioFrame h.posted))
  case rampEnd record =>
    cases record with
    | route id => exact driven_of_reaches h (reaches_finishRoute s id)
    | bus b => exact driven_of_reaches h (reaches_withRme s _)
  case meterPeriodEnd =>
    refine ite (fun _ => h) fun _ => ?_
    have measured := driven_of_reaches (driven_of_reaches h (reaches_withRme s s.rme.periodEnd))
      (reaches_notifyAll (s.rme.periodEnd.reportNotices s.cku.counter) _)
    exact driven_schedule (driven_of_posted_reaches measured (reaches_handMeterFrames _) (posted_handMeterFrames measured.posted))
  case pollBoundary =>
    refine ite (fun _ => ite (fun _ => ?_) fun _ => ?_) fun _ => h
    · have gone := driven_removeModules h .expired s.expired
      refine driven_schedule ⟨posted_withSbc gone.posted fun a ha => ?_, gone.bus⟩
      obtain ⟨e, he, rfl⟩ := List.mem_map.mp ha
      exact gone.posted.entries e (List.mem_of_mem_filter he)
    · exact driven_withSbc h rfl rfl ⟨sends, cut, off, clearing, attempt, stuck, faulted, retry, timer, code, low, high, noReplies, corrupts,
        few _, stucks⟩
  case autoDiscoveryStart => exact ite (fun _ => driven_schedule (driven_withSbc h rfl rfl h.bus)) fun _ => h
  case busFree => exact ite (fun _ => driven_schedule (driven_withSbc h rfl rfl h.bus)) fun _ => h
  case frameSendingEnd =>
    split
    · rename_i x flight
      refine ite (fun _ => ?_) fun _ => h
      have timed : Driven (s.withSbc { s.sbc with stuckTimer := s.sbc.stuckTimer || (s.sbc.lineBreak && s.busRuns) }) := by
        refine driven_withSbc h rfl rfl ⟨sends, cut, off, clearing, attempt, fun breaks => ?_, faulted, retry, timer, code, low, high,
          noReplies, corrupts, overruns, stucks⟩
        simp only [Bool.or_eq_true, Bool.and_eq_true, State.busRuns, beq_iff_eq] at breaks
        obtain old | ⟨breaks, -, runs⟩ := breaks
        · exact stuck old
        · exact ⟨runs, breaks⟩
      refine ite (fun _ => driven_endTxn timed flight _) fun _ => ?_
      refine driven_enterPhase ?_ _
      exact driven_withSbc timed rfl rfl timed.bus
    · rename_i flight
      exact driven_withSbc h rfl rfl ⟨sends, nofun, off, clearing, attempt, stuck, faulted, retry, timer, code, low, high, noReplies, corrupts,
        overruns, stucks⟩
  case replyStartBit => exact ite (fun _ => driven_enterPhase h _) fun _ => h
  case replyWindowExpiry => exact ite (fun _ => h) fun _ => driven_endTxnIn h ..
  case replyCorrupt => exact driven_endTxnIn h ..
  case replyComplete =>
    split
    · rename_i x flight
      refine ite (fun _ => ?_) fun _ => h
      split
      · exact driven_endTxn h flight _
      · exact h
    · exact h
  case lineCharacter => exact ite (fun _ => h) fun _ => driven_withSbc h rfl rfl h.bus
  case lineBreakStart =>
    refine driven_endTxnIn ?_ ..
    refine driven_withSbc h rfl rfl ⟨sends, cut, off, clearing, attempt, fun breaks => ?_, faulted, retry, timer, code, low,
      high, noReplies, corrupts, overruns, stucks⟩
    simp only [Bool.or_eq_true, Bool.and_eq_true, State.busRuns, beq_iff_eq] at breaks
    obtain old | ⟨⟨-, runs⟩, -⟩ := breaks
    · exact ⟨(stuck old).1, rfl⟩
    · exact ⟨runs, rfl⟩
  case lineBreakEnd =>
    exact driven_withSbc h rfl rfl ⟨sends, cut, off, clearing, attempt, nofun, faulted, retry, timer, code, low, high, noReplies, corrupts,
      overruns, stucks⟩
  case stuckTimerExpiry =>
    refine ite (fun runs => ?_) fun _ => h
    refine driven_setBus ?_ ?_ _
    · exact posted_withSbc h.posted h.posted.round
    have on : s.sbc.enable = true := by
      by_contra disabled
      simpa [runs.1] using off.mpr (by simpa using disabled)
    have calm : s.sbc.faultTimer.isSome = true → False := fun waits => by simpa [runs.1] using (faulted waits).1
    have still : s.sbc.faultAttempt = true → False := fun tries => by simpa [runs.1] using retry tries
    exact ⟨sends, cut, by simp [on], by simp, Nat.le_of_ble_eq_true rfl, nofun, fun waits => (calm waits).elim, fun tries => (still tries).elim, timer, code, low,
      high, noReplies, corrupts, overruns, few _⟩
  case clearingCheckEnd quiet =>
    have on (st : BusState) (is : s.sbc.bus = st) (not_off : st ≠ .off) : s.sbc.enable = true := by
      by_contra disabled
      exact not_off (is.symm.trans (off.mpr (by simpa using disabled)))
    dsimp only
    split
    · rename_i is
      refine ite (fun _ => driven_busCleared h (on _ is nofun)) fun _ => ite (fun few_ => ?_) fun _ => ?_
      · exact driven_withSbc h rfl rfl ⟨sends, cut, off, by simp [is], by dsimp only; omega, stuck, faulted, retry, timer, code, low, high,
          noReplies, corrupts, overruns, stucks⟩
      · refine driven_setBus (s := waitRetry s) (posted_withSbc h.posted h.posted.round) ?_ _
        exact ⟨sends, cut, by simp [waitRetry, on _ is nofun], by simp [waitRetry], Nat.zero_le _,
          fun breaks => by simpa [is] using (stuck breaks).1, fun _ => ⟨rfl, rfl⟩, nofun, Nat.le_refl _, code, low, high, noReplies, corrupts,
          overruns, stucks⟩
    · rename_i is
      refine ite (fun _ => ite (fun _ => driven_busCleared h (on _ is nofun)) fun _ => ?_) fun _ => h
      exact driven_withSbc h rfl rfl ⟨sends, cut, off, by simp [is], Nat.zero_le _, stuck, fun _ => ⟨is, rfl⟩, nofun, Nat.le_refl _, code, low,
        high, noReplies, corrupts, overruns, stucks⟩
    · exact h
    · exact h
  case faultRetryExpiry =>
    refine ite (fun is => ?_) fun _ => h
    exact driven_withSbc h rfl rfl ⟨sends, cut, off, clearing, attempt, stuck, nofun, fun _ => is.1, Nat.zero_le _, code, low, high, noReplies,
      corrupts, overruns, stucks⟩
  case surfaceMillisecondTick =>
    have ticked : BusSound { s.sbc with millis := s.sbc.millis + 1, faultTimer := s.sbc.faultTimer.map (· - 1) } := by
      refine ⟨sends, cut, off, clearing, attempt, stuck, fun waits => faulted (by simpa using waits), retry, ?_, code, low, high, noReplies,
        corrupts, overruns, stucks⟩
      cases hf : s.sbc.faultTimer with
      | none => exact Nat.zero_le _
      | some n =>
        rw [hf] at timer
        exact (Nat.sub_le n 1).trans timer
    have counted : Driven (s.withSbc _) := driven_withSbc h (b := { s.sbc with
      millis := s.sbc.millis + 1, faultTimer := s.sbc.faultTimer.map (· - 1) }) rfl rfl ticked
    exact driven_of_reaches (driven_of_reaches counted (reaches_withCku _ s.cku.countDown))
      (reaches_withPtu _ (s.ptu.map (fun p => { p with resetTimer := p.resetTimer.map (· - 1) })))
  case frameDelayExpiry q =>
    have law := h.posted.queues.queue q
    refine driven_schedule (driven_of_posted_reaches h (reaches_withSou ..) (posted_of_sou h.posted (reaches_withSou ..)
      (queuesLaw_putQueue h.posted.queues (queueLaw_undelayHead law) (fun _ _ => Iff.rfl) ?_ ?_)))
    · cases hq : s.sou.queue q with
      | nil => exact Nat.le_refl _
      | cons g rest => exact Nat.le_refl _
    · rintro rfl
      have meters := h.posted.queues.meters
      rw [show s.sou.meter = s.sou.queue .meter from rfl] at meters
      cases hq : s.sou.queue .meter with
      | nil => exact .nil
      | cons g rest =>
        rw [hq] at meters
        exact meters
  case servoPeriod samples =>
    have delivered {t : State} (e : SurfaceEvent) (ht : Driven t) : Driven (deliverEvent e t) :=
      driven_of_posted_reaches ht (reaches_deliverEvent ..) (posted_deliverEvent ht.posted e)
    have moved {t : State} (i n : Nat) (ht : Driven t) : Driven (emitMoved i n t) := by
      unfold emitMoved emitPosition
      exact ite (fun _ => delivered _ (driven_of_reaches ht (reaches_changeFader ..))) fun _ => ht
    refine driven_schedule (foldl_keeps (P := Driven) (fun t i _ ht => driven_of_reaches ht (reaches_driveStep t samples i))
      (foldl_keeps (P := Driven) (fun t i _ ht => ?_) (driven_of_reaches h (reaches_withFsv ..))))
    unfold touchStep
    exact ite (fun _ => ht) fun _ => ite (fun _ => moved _ _ (delivered _ (driven_of_reaches ht (reaches_changeFader ..)))) fun _ =>
      ite (fun _ => moved _ _ ht) fun _ => ite (fun _ => driven_of_reaches (delivered _ (driven_of_reaches (moved _ _ ht)
        (reaches_changeFader ..))) (reaches_changeFader ..)) fun _ => ht
  all_goals
    dsimp only [reachOf] at reach
    exact driven_of_reaches h reach

end Sys2Proof.Machine

open Sys2Proof.Machine Sys2Proof.Safety in
/-- Settles O9, row by row: frames join, leave and are picked within the law of their queue, and the bus changes its timers with its
state. -/
theorem outputLawKept : Obligations.OutputLawKept := by
  intro s t sound hstep
  have start : Driven s := by
    refine ⟨⟨queuesLaw_iff.mpr sound.output, fun e he => ?_, fun a ha => ?_, fun b hb => ?_⟩, sound.bus⟩
    · obtain ⟨low, high, -⟩ := sound.modules.2.2.2.1 e he
      exact ⟨low, high⟩
    · obtain ⟨e, found⟩ := Option.isSome_iff_exists.mp (sound.modules.2.2.2.2.2.2.1 a ha)
      obtain ⟨there, same⟩ := entry_mem found
      obtain ⟨low, high, -⟩ := sound.modules.2.2.2.1 e there
      exact ⟨same ▸ low, same ▸ high⟩
    · exact addressed_of_fields (sound.bindings.2.2.2.1 b hb).1
  have all : Driven t := step_law_of_state (Pre := Driven) (Post := Driven) (ok := fun _ => True) (fun _ => id)
    (fun _ _ h => ⟨⟨h.posted.queues, h.posted.entries, h.posted.round, h.posted.bindings⟩, h.bus⟩)
    (fun _ _ _ _ h => ⟨⟨h.posted.queues, h.posted.entries, h.posted.round, h.posted.bindings⟩, h.bus⟩)
    (fun _ _ h => ⟨⟨h.posted.queues, h.posted.entries, h.posted.round, h.posted.bindings⟩, h.bus⟩)
    (fun _ _ _ hc h => handler_driven hc h) (fun _ _ _ hc take _ h hx => event_driven hc take h hx) (fun _ _ => trivial) start
    hstep
  exact ⟨all.bus, queuesLaw_iff.mp all.posted.queues⟩

end

section
/-! PROOFS. What the acts on routes, buses and bindings leave of the engine: all but its routes and buses (05, 10). -/

namespace Sys2Proof.Machine

open Sys2Proof.Safety

/-- Of the engine at most the routes and the buses differ. -/
def OnlyLevels (m n : Rme) : Prop := n = { m with routes := n.routes, buses := n.buses }

theorem OnlyLevels.refl (m : Rme) : OnlyLevels m m := rfl

theorem OnlyLevels.trans {m n k : Rme} (h : OnlyLevels m n) (h' : OnlyLevels n k) : OnlyLevels m k := by
  unfold OnlyLevels at *
  rw [h', h]

theorem OnlyLevels.overload {m n : Rme} (h : OnlyLevels m n) : n.overload = m.overload := by rw [h]

theorem onlyLevels_of_reaches {ps : List Part} {s t : State} (r : Reaches ps s t) (rme : Part.rme ∉ ps := by decide) :
    OnlyLevels s.rme t.rme := by
  rw [show t.rme = s.rme from r.frame .rme rme]
  exact .refl _

theorem onlyLevels_putLevel (m : Rme) (x : LevelRef) (l : GainRec) : OnlyLevels m (m.putLevel x l) := by
  cases x <;> rfl

theorem onlyLevels_cutReleasing (m : Rme) (source dest : Point) : OnlyLevels m (m.cutReleasing source dest).1 := by
  unfold Rme.cutReleasing
  split <;> rfl

theorem onlyLevels_demote (m : Rme) (id : Nat) : OnlyLevels m (m.demote id).1 := by
  obtain ⟨r, -, same⟩ := demote_spec m id
  rw [same]
  rfl

section
variable {m : Rme} {s : State} (h : OnlyLevels m s.rme)
include h

theorem levels_of_reaches {ps : List Part} {t : State} (r : Reaches ps s t) (rme : Part.rme ∉ ps := by decide) : OnlyLevels m t.rme :=
  h.trans (onlyLevels_of_reaches r rme)

theorem levels_setTarget (x : LevelRef) (g : Option Gain) (mute : Option Bool) (cause : Option Nat) :
    OnlyLevels m (setTarget x g mute cause s).rme :=
  levels_of_reaches (s := s.withRme _) (h.trans (onlyLevels_putLevel ..)) (reaches_feedbackAll ..)

theorem levels_releaseHold (b : Binding) : OnlyLevels m (releaseHold b s).rme := by
  unfold releaseHold
  split
  · exact h.trans (onlyLevels_putLevel ..)
  · exact h

theorem levels_releaseHolders (test : Control → Bool) : OnlyLevels m (releaseHolders test s).rme := h.trans rfl

theorem levels_boundEvent (i : Nat) (b : Binding) (e : SurfaceEvent) : OnlyLevels m (boundEvent i b e s).rme := by
  have held (x : LevelRef) (c : Option Control) : OnlyLevels m (setHolder x c s).rme := h.trans (onlyLevels_putLevel ..)
  have ite {c : Prop} [Decidable c] {a b : State} (ha : OnlyLevels m a.rme) (hb : OnlyLevels m b.rme) :
      OnlyLevels m (if c then a else b).rme := by
    split
    · exact ha
    · exact hb
  unfold boundEvent
  split
  · unfold absoluteEvent
    dsimp only
    split
    · exact ite (ite (held ..) h) (ite (held ..) h)
    · exact ite (levels_setTarget h ..) h
    · exact ite (levels_setTarget h ..) h
    · exact h
  · exact ite (levels_setTarget h ..) h
  · exact ite (levels_setTarget h ..) h

theorem levels_deliverEvent (e : SurfaceEvent) : OnlyLevels m (deliverEvent e s).rme :=
  deliverEvent_keeps (P := fun t => OnlyLevels m t.rme) (fun i b e _ _ _ _ h => levels_boundEvent h i b e)
    (fun _ _ h => levels_of_reaches h (reaches_notify ..)) e h

theorem levels_removeModule (a : Nat) (d : ModuleDetail) : OnlyLevels m (removeModule a d s).rme := by
  cases he : s.mtb.entry a with
  | none =>
    rw [removeModule_of_none d he]
    exact h
  | some e =>
    have before : Reaches [.records, .sbc, .mtb, .sou] s (purge a (unlist a e d s)) :=
      (reaches_unlist a e d s).andThen (reaches_purge a _)
    have gone : OnlyLevels m (orphanModule a (purge a (unlist a e d s))).rme := by
      refine foldl_keeps (P := fun t => OnlyLevels m t.rme) (fun t b _ ht => ?_) (levels_of_reaches h before)
      split
      · exact levels_releaseHold ht b
      · exact ht
    rw [removeModule_of_some d he]
    split
    · exact gone
    · exact levels_of_reaches gone (reaches_handFrame ..)

theorem levels_removeModules (d : ModuleDetail) (as : List Nat) : OnlyLevels m (removeModules d as s).rme :=
  removeModules_keeps (P := fun t => OnlyLevels m t.rme) d (fun a _ h => levels_removeModule h a d) as h

theorem levels_stepResult (r : TxnResult) : OnlyLevels m (stepResult r s).rme := by
  unfold stepResult
  split
  · exact levels_of_reaches h (reaches_callResult ..)
  · simp only [assignResult]
    split
    · exact h
    · split
      · exact levels_of_reaches h ((((reaches_setSearch _ s).andThen (reaches_putEntry ..) (rs := [.sbc, .mtb])).andThen
          (reaches_notify ..) (rs := [.sbc, .mtb, .records])).andThen (reaches_reattach ..) (rs := [.sbc, .mtb, .records, .sou, .bdt, .fsv]))
      · exact levels_removeModule (levels_of_reaches h (reaches_setSearch _ s)) ..
  · exact h
  · exact h

theorem levels_endTxn (x : Txn) (r : TxnResult) : OnlyLevels m (endTxn x r s).rme := by
  refine endTxn_keeps (P := fun t => OnlyLevels m t.rme) (Q := fun t => OnlyLevels m t.rme) h
    (fun t h => levels_of_reaches h (reaches_judgeModule ..))
    (fun a bytes t h => takeEvents_keeps (P := fun t => OnlyLevels m t.rme) (fun e _ _ h => levels_deliverEvent h e) (fun _ h => h) _ a bytes h)
    fun t h => ?_
  unfold toOwner
  split
  · exact h
  · exact h
  · exact levels_stepResult h r
  · exact levels_of_reaches h (reaches_frameOutcome ..)

theorem levels_endTxnIn (phases : List TxnPhase) (r : TxnResult) : OnlyLevels m (endTxnIn phases r s).rme := by
  unfold endTxnIn
  split
  · split
    · exact levels_endTxn h ..
    · exact h
  · exact h

theorem levels_schedule : OnlyLevels m (schedule s).rme := by
  have joins {t : State} (ht : OnlyLevels m t.rme) (a : Answer) : OnlyLevels m (joinNew a t).1.rme :=
    levels_of_reaches ht (reaches_joinNew a t)
  have assigned (a : Answer) : OnlyLevels m (assignStep a s).1.rme := by
    unfold assignStep
    split
    · simp only [rejoin, holdStep, setSearch, State.withSbc_rme]
      split
      · exact h
      · exact levels_releaseHolders (s := putEntry _ s) h _
    · split
      · exact joins h a
      · split
        · exact joins (levels_removeModule h ..) a
        · exact levels_of_reaches h (reaches_refuseModule a s)
  obtain ⟨-, same⟩ | ⟨-, -, same⟩ | ⟨o, -, -, taken⟩ := schedule_cases s
  · rwa [same]
  · rwa [same]
  · rw [taken]
    cases o with
    | assignStep a => exact levels_of_reaches (assigned a) (reaches_startTxn ..)
    | startUp => exact h
    | queued q f => exact h
    | poll a => exact h
    | callStep p => exact h

theorem levels_leaveActive (id : Nat) : OnlyLevels m (leaveActive id s).rme := by
  rw [leaveActive_eq]
  exact levels_of_reaches (s := s.withRme _) (h.trans ((onlyLevels_cutReleasing ..).trans (onlyLevels_demote ..)))
    ((reaches_orphanRoute id _).andThen (reaches_notifyAll ..) (rs := [.bdt, .records]))

theorem levels_addRoute (source dest : Point) (gain : Gain) (mute invert : Bool) :
    OnlyLevels m (addRoute source dest gain mute invert s).1.rme := by
  have cleared : OnlyLevels m (clearLane source dest s).rme := by
    unfold clearLane
    split
    · exact levels_leaveActive h _
    · exact h
  exact cleared.trans rfl

theorem levels_storeBinding (i : Nat) (b : Binding) : OnlyLevels m (storeBinding i b s).rme := by
  have released : OnlyLevels m (if (s.binding i).state = .empty then s else releaseHold (s.binding i) s).rme := by
    split
    · exact h
    · exact levels_releaseHold h _
  unfold storeBinding
  dsimp only
  split
  · exact levels_of_reaches released ((reaches_withBdt _ _).andThen (reaches_sendFeedback ..) (rs := [.bdt, .records, .sou, .fsv]))
  · exact released

end

/-- The rows of the clock, the ports, the ramps, the meters and the reset change more of the engine than its routes and buses. -/
def changesEngine : Instr → Bool
  | .reset .. | .powerOn | .clockSetRate .. | .rampSet .. | .meterAssign .. | .meterSubscribe .. | .meterRead .. | .evaluateStudioFrame
  | .meterPeriodEnd => true
  | c => leavesEngine c

theorem handler_onlyLevels {c : Instr} {handle : State → Handled} (hc : handlerOf c = some handle) (leaves : changesEngine c = false)
    (s : State) : OnlyLevels s.rme (handle s).state.rme := by
  have reach := handler_reaches hc s
  have h : OnlyLevels s.rme s.rme := .refl _
  cases c <;> cases leaves <;> cases hc
  case routeAdd a b c d =>
    obtain same | ⟨_, _, _, _, _, _, -, -, -, -, -, -, same⟩ := state_handleRouteAdd s a b c d <;> rw [same]
    · exact h
    · exact levels_addRoute h ..
  case routeRemove a =>
    obtain same | ⟨_, -, -, same⟩ := state_handleRouteRemove s a <;> rw [same]
    · exact h
    · exact levels_leaveActive h _
  case routeSetGain a b =>
    obtain same | ⟨_, _, -, -, -, same⟩ := state_handleRouteSetGain s a b <;> rw [same]
    · exact h
    · exact levels_schedule (levels_setTarget h ..)
  case routeSetMute a b =>
    obtain same | ⟨_, _, -, -, same⟩ := state_handleRouteSetMute s a b <;> rw [same]
    · exact h
    · exact levels_schedule (levels_setTarget h ..)
  case busSet a b c d =>
    obtain same | ⟨_, _, _, _, _, -, -, same⟩ := state_handleBusSet s a b c d <;> rw [same]
    · exact h
    · exact levels_schedule (levels_setTarget h ..)
  case surfaceSetup a b c d =>
    obtain same | ⟨x, -, same⟩ := state_handleSurfaceSetup s a b c d <;> rw [same]
    · exact h
    · split
      · exact levels_of_reaches (s := storeSettings x s) h ((reaches_withSbc ..).andThen (reaches_setBus ..) (rs := [.records, .sbc]))
      · split
        · exact levels_schedule (s := setBus _ _ _) (levels_of_reaches (s := storeSettings x s) h
            (((reaches_withSbc ..).andThen (reaches_refreshExpiries _) (rs := [.sbc, .mtb])).andThen (reaches_setBus ..)
              (rs := [.records, .sbc, .mtb])))
        · exact h
  case discover =>
    obtain same | ⟨-, -, same⟩ := state_handleDiscover s <;> rw [same]
    · exact h
    · exact levels_schedule (s := startSearch s) h
  case moduleForget xs =>
    dsimp only
    split
    · obtain same | ⟨_, -, -, same⟩ := state_handleModuleForget s xs <;> rw [same]
      · exact h
      · exact levels_schedule (levels_removeModules h ..)
    · exact h
  case surfaceSend a b c d e f g =>
    dsimp only
    split
    · obtain same | ⟨_, _, _, _, -, -, same⟩ := state_handleSurfaceSend s a b c d e f g <;> rw [same]
      · exact h
      · exact levels_schedule (levels_of_reaches h ((reaches_withSou s _).andThen (reaches_endFrames ..) (rs := [.records, .sou])))
    · exact h
  case surfaceAbort a b =>
    obtain same | ⟨_, -, same⟩ := state_handleSurfaceAbort s a b <;> rw [same]
    · exact h
    · exact levels_schedule (levels_of_reaches h (reaches_abortFrames ..))
  case bindSet a b c d e f g i =>
    obtain same | ⟨i, x, -, -, -, -, -, same⟩ := state_handleBindSet s a b c d e f g i <;> rw [same]
    · exact h
    · exact levels_schedule (levels_storeBinding h ..)
  case bindClear a =>
    unfold handleBindClear
    split
    · exact h
    · dsimp only
      split
      · exact h
      · exact levels_releaseHold h _
  case faderConfig =>
    unfold handleFaderConfig
    split
    · unfold configureFader
      dsimp only
      split
      · exact levels_releaseHolders (levels_of_reaches h (reaches_changeFader ..)) _
      · exact levels_of_reaches h (reaches_changeFader ..)
    · exact h
  all_goals
    dsimp only [reachOf] at reach
    exact onlyLevels_of_reaches reach

theorem event_onlyLevels {c : Instr} (hc : commandOf c = none) (take : c ≠ .takeCommand) (leaves : changesEngine c = false) {s t : State}
    (hx : exec c s = .next t) : OnlyLevels s.rme t.rme := by
  have reach := event_reaches_of_next hc take hx
  have h : OnlyLevels s.rme s.rme := .refl _
  have ite {c : Prop} [Decidable c] {a b : State} (ha : OnlyLevels s.rme a.rme) (hb : OnlyLevels s.rme b.rme) :
      OnlyLevels s.rme (if c then a else b).rme := by
    split
    · exact ha
    · exact hb
  have opens (cause : StartCause) : OnlyLevels s.rme (sessionOpens cause s).rme := by
    refine levels_schedule (levels_of_reaches ?_ (reaches_notify ..))
    exact h
  have cleared : OnlyLevels s.rme (busCleared s).rme :=
    levels_schedule (s := setBus _ _ _) (levels_of_reaches h
      (((reaches_withSbc ..).andThen (reaches_refreshExpiries _) (rs := [.sbc, .mtb])).andThen (reaches_setBus ..)
        (rs := [.records, .sbc, .mtb])))
  cases c <;> cases leaves <;> cases hc <;> cases hx
  case takeCommand => exact absurd rfl take
  case initialisationComplete => exact ite (opens _) h
  case resetComplete => exact ite (opens _) h
  case rampEnd record =>
    cases record with
    | bus b => rfl
    | route id =>
      have freed : OnlyLevels s.rme (s.rme.freeRoute id.val .faded).1 := rfl
      unfold finishRoute
      dsimp only
      exact ite h (ite (levels_of_reaches (s := s.withRme _) freed (reaches_notifyAll ..)) rfl)
  case pollBoundary => exact ite (ite (levels_schedule (levels_of_reaches (levels_removeModules h ..) (reaches_withSbc _ _))) h) h
  case autoDiscoveryStart => exact ite (levels_schedule (s := startSearch s) h) h
  case busFree => exact ite (levels_schedule (levels_of_reaches h (reaches_withSbc s _))) h
  case frameSendingEnd =>
    split
    · split
      · split
        · exact levels_endTxn (levels_of_reaches h (reaches_withSbc s _)) ..
        · exact h
      · exact h
    · exact h
  case replyWindowExpiry => exact ite h (levels_endTxnIn h ..)
  case replyCorrupt => exact levels_endTxnIn h ..
  case replyComplete =>
    split
    · refine ite ?_ h
      split
      · exact levels_endTxn h ..
      · exact h
    · exact h
  case lineBreakStart => exact levels_endTxnIn (levels_of_reaches h (reaches_withSbc s _)) ..
  case clearingCheckEnd =>
    dsimp only
    split
    · exact ite cleared (ite h (levels_of_reaches (s := waitRetry s) h (reaches_setBus ..)))
    · exact ite (ite cleared h) h
    · exact h
    · exact h
  case frameDelayExpiry => exact levels_schedule (levels_of_reaches h (reaches_withSou s _))
  case servoPeriod samples =>
    have moved {t : State} (i n : Nat) (ht : OnlyLevels s.rme t.rme) : OnlyLevels s.rme (emitMoved i n t).rme := by
      unfold emitMoved emitPosition
      exact ite (levels_deliverEvent (levels_of_reaches ht (reaches_changeFader ..)) _) ht
    refine levels_schedule (foldl_keeps (P := fun t => OnlyLevels s.rme t.rme)
      (fun t i _ ht => levels_of_reaches ht (reaches_driveStep t samples i))
      (foldl_keeps (P := fun t => OnlyLevels s.rme t.rme) (fun t i _ ht => ?_) h))
    unfold touchStep
    exact ite ht (ite (moved _ _ (levels_deliverEvent (levels_of_reaches ht (reaches_changeFader ..)) _)) (ite (moved _ _ ht)
      (ite (levels_of_reaches (levels_deliverEvent (levels_of_reaches (moved _ _ ht) (reaches_changeFader ..)) _)
        (reaches_changeFader ..)) ht)))
  all_goals
    dsimp only [reachOf] at reach
    exact onlyLevels_of_reaches reach

end Sys2Proof.Machine
end

section
/-! PROOFS. The Clock Unit (02): its source records one by one, what selection and the clock events leave as they are, and its law. -/

namespace Sys2Proof.Machine

open Sys2Proof.Safety

/-! ## Source records -/

theorem sourceCode_lt (x : ClockSource) : sourceCode x < 7 := by
  cases x with
  | port p => exact Nat.add_lt_add_left p.isLt 3
  | _ => decide

theorem sourceCode_inj {x y : ClockSource} (h : sourceCode x = sourceCode y) : x = y := by
  cases x with
  | port p =>
    cases y with
    | port q => exact congrArg ClockSource.port (Fin.ext (Nat.add_left_cancel h))
    | _ => simp only [sourceCode] at h; omega
  | _ =>
    cases y with
    | port q => simp only [sourceCode] at h; omega
    | _ => first | rfl | (simp only [sourceCode] at h; omega)

theorem mem_externalSources {x : ClockSource} : x ∈ externalSources ↔ x ≠ .internal := by
  cases x with
  | port p => fin_cases p <;> decide
  | _ => decide

section
variable {c : Cku}

theorem record_putRec_self (seven : c.sources.length = 7) (x : ClockSource) (r : SourceRec) : (c.putRec x r).record x = r := by
  simp [Cku.record, Cku.putRec, seven, sourceCode_lt]

theorem record_putRec_ne {x y : ClockSource} (h : x ≠ y) (c : Cku) (r : SourceRec) : (c.putRec x r).record y = c.record y := by
  have apart : sourceCode x ≠ sourceCode y := fun same => h (sourceCode_inj same)
  simp [Cku.record, Cku.putRec, apart]

theorem record_putRec (seven : c.sources.length = 7) (x y : ClockSource) (r : SourceRec) :
    (c.putRec x r).record y = if y = x then r else c.record y := by
  split
  · rename_i same
    rw [same, record_putRec_self seven]
  · rename_i apart
    exact record_putRec_ne (Ne.symm apart) c r

@[simp] theorem putRec_sources_length (c : Cku) (x : ClockSource) (r : SourceRec) : (c.putRec x r).sources.length = c.sources.length := by
  simp [Cku.putRec]

/-- Several records replaced, each once. -/
theorem record_putRecs {f : ClockSource → SourceRec} {xs : List ClockSource} (once : xs.Nodup) {c : Cku} (seven : c.sources.length = 7)
    (y : ClockSource) : (xs.foldl (fun d x => d.putRec x (f x)) c).record y = if y ∈ xs then f y else c.record y := by
  induction xs generalizing c with
  | nil => simp
  | cons x rest ih =>
    obtain ⟨fresh, once⟩ := List.nodup_cons.mp once
    rw [List.foldl_cons, ih once (by simpa using seven), record_putRec seven]
    by_cases same : y = x
    · subst same
      simp [fresh]
    · simp [same]

/-- Several records replaced leave the rest of the unit. -/
theorem putRecs_eq (f : ClockSource → SourceRec) (xs : List ClockSource) (c : Cku) :
    xs.foldl (fun d x => d.putRec x (f x)) c = { c with sources := (xs.foldl (fun d x => d.putRec x (f x)) c).sources } := by
  induction xs generalizing c with
  | nil => rfl
  | cons x rest ih => rw [List.foldl_cons, ih]; rfl

theorem putRecs_length (f : ClockSource → SourceRec) (xs : List ClockSource) (c : Cku) :
    (xs.foldl (fun d x => d.putRec x (f x)) c).sources.length = c.sources.length := by
  induction xs generalizing c with
  | nil => rfl
  | cons x rest ih => rw [List.foldl_cons, ih, putRec_sources_length]

theorem externalSources_nodup : externalSources.Nodup := by decide

/-- The standing of a port's own source, by its record. -/
theorem ownStanding_eq (c : Cku) (p : Fin 4) : ownStanding c p.val = (c.record (.port p)).standing := rfl

/-- R24, R25: a judged period gives each external source its own new record. -/
theorem judgeAll_record (seven : c.sources.length = 7) (present : ClockSource → Bool) (x : ClockSource) :
    (c.judgeAll present).record x = if x = .internal then c.record .internal
      else if c.unjudged then (c.record x).swept else (c.record x).atPeriodEnd c.rate (present x) := by
  unfold Cku.judgeAll
  rw [record_putRecs (f := fun x => if c.unjudged then (c.record x).swept else (c.record x).atPeriodEnd c.rate (present x))
    (c := { c with unjudged := false }) externalSources_nodup seven]
  by_cases internal : x = .internal
  · rw [if_neg (by simp [internal, mem_externalSources]), if_pos internal, internal]
    rfl
  · rw [if_pos (mem_externalSources.mpr internal), if_neg internal]

theorem judgeAll_eq (c : Cku) (present : ClockSource → Bool) :
    c.judgeAll present = { c with unjudged := false, sources := (c.judgeAll present).sources } := by
  unfold Cku.judgeAll
  rw [putRecs_eq (fun x => if c.unjudged then (c.record x).swept else (c.record x).atPeriodEnd c.rate (present x))]

theorem judgeAll_length (c : Cku) (present : ClockSource → Bool) : (c.judgeAll present).sources.length = c.sources.length :=
  putRecs_length (fun x => if c.unjudged then (c.record x).swept else (c.record x).atPeriodEnd c.rate (present x)) ..

/-- R41: a change of the rate disqualifies every external source. -/
theorem disqualifyAll_record (seven : c.sources.length = 7) (x : ClockSource) :
    c.disqualifyAll.record x = if x = .internal then c.record .internal else (c.record x).disqualified := by
  unfold Cku.disqualifyAll
  rw [record_putRecs (f := fun x => (c.record x).disqualified) externalSources_nodup seven]
  by_cases internal : x = .internal
  · rw [if_neg (by simp [internal, mem_externalSources]), if_pos internal, internal]
  · rw [if_pos (mem_externalSources.mpr internal), if_neg internal]

theorem disqualifyAll_eq (c : Cku) : c.disqualifyAll = { c with sources := c.disqualifyAll.sources } :=
  putRecs_eq (fun x => (c.record x).disqualified) externalSources c

theorem disqualifyAll_length (c : Cku) : c.disqualifyAll.sources.length = c.sources.length := putRecs_length ..

end

/-! ## What moves when the clock moves -/

/-- The clock may move: its state, its source, its timers and the fallback reason may differ, and nothing else. -/
def Moves (c d : Cku) : Prop :=
  d = { c with source := d.source, clock := d.clock, fallback := d.fallback, lockTimer := d.lockTimer, settleTimer := d.settleTimer,
               holdoverTimer := d.holdoverTimer }

theorem Moves.refl (c : Cku) : Moves c c := rfl

theorem Moves.record {c d : Cku} (h : Moves c d) (x : ClockSource) : d.record x = c.record x := by rw [h]; rfl
theorem Moves.usable {c d : Cku} (h : Moves c d) (x : ClockSource) : d.usable x = c.usable x := by rw [h]; rfl

section
variable (c : Cku)

/-- R34: selection in AUTO leaves a clock that is on its choice, and else switches to it. -/
theorem selectAuto_cases (reason : ClockReason) (fresh : Bool) :
    (c.selectAuto reason fresh = ({ c with fallback := .none }, none) ∧ c.source = c.firstUsable ∧
      (c.clock = .locked ∨ c.clock = .free ∨ (c.clock = .switching ∧ fresh = false))) ∨
    (c.selectAuto reason fresh = ({ c with fallback := .none }.startSwitch c.firstUsable, some reason) ∧
      ¬ (c.source = c.firstUsable ∧ (c.clock = .locked ∨ c.clock = .free ∨ (c.clock = .switching ∧ fresh = false)))) := by
  unfold Cku.selectAuto
  dsimp only
  split
  · rename_i on
    simp only [Bool.and_eq_true, Bool.or_eq_true, beq_iff_eq] at on
    exact .inl ⟨rfl, on.2, on.1.elim .inl fun free => .inr (.inl free)⟩
  · rename_i off
    simp only [Bool.and_eq_true, Bool.or_eq_true, beq_iff_eq, not_and] at off
    split
    · rename_i on
      simp only [Bool.and_eq_true, beq_iff_eq, Bool.not_eq_true'] at on
      exact .inl ⟨rfl, on.1.2, .inr (.inr ⟨on.1.1, on.2⟩)⟩
    · rename_i apart
      simp only [Bool.and_eq_true, beq_iff_eq, Bool.not_eq_true', not_and] at apart
      refine .inr ⟨rfl, fun ⟨same, now⟩ => ?_⟩
      obtain locked | free | ⟨switching, stale⟩ := now
      · exact off (.inl locked) same
      · exact off (.inr free) same
      · exact apart ⟨switching, same⟩ stale

/-- R37: selection in FIXED mode. -/
theorem selectFixed_cases (reason : ClockReason) (fresh : Bool) :
    (c.fixedSource = .internal ∧ c.onInternal = true ∧ c.selectFixed reason fresh = ({ c with fallback := .none }, none)) ∨
    (c.fixedSource = .internal ∧ c.onInternal = false ∧
      c.selectFixed reason fresh = ({ c with fallback := .none }.startSwitch .internal, some reason)) ∨
    (c.fixedSource ≠ .internal ∧ c.usable c.fixedSource = true ∧ c.onSource c.fixedSource = true ∧ fresh = false ∧
      c.selectFixed reason fresh = ({ c with fallback := .none }, none)) ∨
    (c.fixedSource ≠ .internal ∧ c.usable c.fixedSource = true ∧ ¬ (c.onSource c.fixedSource = true ∧ fresh = false) ∧
      c.selectFixed reason fresh = ({ c with fallback := .none }.startSwitch c.fixedSource, some reason)) ∨
    (c.fixedSource ≠ .internal ∧ c.usable c.fixedSource = false ∧ c.onSource c.fixedSource = true ∧
      c.selectFixed reason fresh = ({ c with fallback := .none }.enterHoldover c.fixedSource, some .sourceLost)) ∨
    (c.fixedSource ≠ .internal ∧ c.usable c.fixedSource = false ∧ c.onSource c.fixedSource = false ∧ c.clock = .holdover ∧
      c.source = c.fixedSource ∧ c.selectFixed reason fresh = (c, none)) ∨
    (c.fixedSource ≠ .internal ∧ c.usable c.fixedSource = false ∧ c.onSource c.fixedSource = false ∧
      ¬ (c.clock = .holdover ∧ c.source = c.fixedSource) ∧ ∃ f, f = (if c.fallback = .holdoverExpired then Fallback.holdoverExpired
        else .sourceUnusable) ∧ c.selectFixed reason fresh =
        if c.onInternal then ({ c with fallback := f }, none) else ({ c with fallback := f }.startSwitch .internal, some reason)) := by
  unfold Cku.selectFixed
  dsimp only
  by_cases internal : c.fixedSource = .internal
  · rw [if_pos internal]
    by_cases on : c.onInternal = true
    · exact .inl ⟨internal, on, if_pos on⟩
    · exact .inr (.inl ⟨internal, by simpa using on, if_neg on⟩)
  · rw [if_neg internal]
    refine .inr (.inr ?_)
    by_cases usable : c.usable c.fixedSource = true
    · rw [if_pos usable]
      by_cases on : c.onSource c.fixedSource = true ∧ fresh = false
      · exact .inl ⟨internal, usable, on.1, on.2, if_pos (by simpa [Cku.onSource] using on)⟩
      · exact .inr (.inl ⟨internal, usable, on, if_neg (by simpa [Cku.onSource] using on)⟩)
    · rw [if_neg usable]
      have lost : c.usable c.fixedSource = false := by simpa using usable
      refine .inr (.inr ?_)
      by_cases on : c.onSource c.fixedSource = true
      · exact .inl ⟨internal, lost, on, if_pos on⟩
      · rw [if_neg on]
        have off : c.onSource c.fixedSource = false := by simpa using on
        refine .inr ?_
        by_cases held : c.clock = .holdover ∧ c.source = c.fixedSource
        · exact .inl ⟨internal, lost, off, held.1, held.2, if_pos (by simpa using held)⟩
        · exact .inr ⟨internal, lost, off, held, _, rfl, if_neg (by simpa using held)⟩

theorem moves_startSwitch (x : ClockSource) : Moves c (c.startSwitch x) := rfl

theorem moves_selectAuto (reason : ClockReason) (fresh : Bool) : Moves c (c.selectAuto reason fresh).1 := by
  obtain ⟨same, -⟩ | ⟨same, -⟩ := selectAuto_cases c reason fresh <;> rw [same] <;> rfl

theorem moves_selectFixed (reason : ClockReason) (fresh : Bool) : Moves c (c.selectFixed reason fresh).1 := by
  obtain ⟨-, -, same⟩ | ⟨-, -, same⟩ | ⟨-, -, -, -, same⟩ | ⟨-, -, -, same⟩ | ⟨-, -, -, same⟩ | ⟨-, -, -, -, -, same⟩ |
    ⟨-, -, -, -, f, -, same⟩ := selectFixed_cases c reason fresh <;> rw [same]
  all_goals first | rfl | (split <;> rfl)

theorem moves_select (reason : ClockReason) (fresh : Bool) : Moves c (c.select reason fresh).1 := by
  unfold Cku.select
  split
  · exact moves_selectAuto c reason fresh
  · exact moves_selectFixed c reason fresh

/-- R36: the revert test switches to a source ahead that has been GOOD for 500 periods, if any. -/
theorem revertTest_cases :
    c.revertTest = (c, none) ∨
      ∃ x ∈ c.ahead c.source, (c.record x).revert = 500 ∧ c.source ≠ .internal ∧ c.revert = true ∧
        c.revertTest = (c.startSwitch x, some .revert) := by
  unfold Cku.revertTest
  split
  · rename_i applies
    simp only [Bool.and_eq_true, bne_iff_ne, ne_eq] at applies
    split
    · rename_i x found
      exact .inr ⟨x, List.mem_of_find?_eq_some found, by simpa using List.find?_some found, applies.2, applies.1, rfl⟩
    · exact .inl rfl
  · exact .inl rfl

theorem moves_periodAuto : Moves c c.periodAuto.1 := by
  unfold Cku.periodAuto
  split
  · exact moves_selectAuto c ..
  · split
    · exact moves_selectAuto c ..
    · obtain same | ⟨x, -, -, -, -, same⟩ := revertTest_cases c <;> rw [same] <;> rfl

theorem moves_periodFixed (before : Standing) : Moves c (c.periodFixed before).1 := by
  unfold Cku.periodFixed
  split
  · rfl
  · exact moves_selectFixed c ..

theorem moves_periodEnd (present : ClockSource → Bool) : Moves (c.judgeAll present) (c.periodEnd present).1 := by
  unfold Cku.periodEnd
  dsimp only
  split
  · exact moves_periodAuto _
  · exact moves_periodFixed _ _

theorem moves_lock : Moves c c.lock.1 := by
  unfold Cku.lock
  split <;> rfl

theorem moves_settleTimeout : Moves c c.settleTimeout.1 := by
  unfold Cku.settleTimeout
  split <;> rfl

theorem moves_holdoverTimeout : Moves c c.holdoverTimeout.1 := by
  unfold Cku.holdoverTimeout
  split <;> rfl

theorem moves_lose (x : ClockSource) : Moves (c.putRec x (c.record x).lost) (c.lose x).1 := by
  unfold Cku.lose
  dsimp only
  split
  · split
    · exact moves_selectAuto ..
    · rfl
  · split
    · exact moves_selectFixed ..
    · rfl

end

/-! ## The rate and the counter -/

/-- The studio rate and the counter stand, and the seven records. -/
def KeepsTime (c d : Cku) : Prop := d.rate = c.rate ∧ d.counter = c.counter ∧ d.sources.length = c.sources.length

theorem Moves.keepsTime {c d : Cku} (h : Moves c d) : KeepsTime c d := by
  rw [h]
  exact ⟨rfl, rfl, rfl⟩

theorem KeepsTime.trans {c d e : Cku} (h : KeepsTime c d) (h' : KeepsTime d e) : KeepsTime c e :=
  ⟨h'.1.trans h.1, h'.2.1.trans h.2.1, h'.2.2.trans h.2.2⟩

section
variable (c : Cku)

theorem keepsTime_putRec (x : ClockSource) (r : SourceRec) : KeepsTime c (c.putRec x r) := ⟨rfl, rfl, by simp⟩

theorem keepsTime_periodEnd (present : ClockSource → Bool) : KeepsTime c (c.periodEnd present).1 :=
  KeepsTime.trans (d := c.judgeAll present) ⟨by rw [judgeAll_eq], by rw [judgeAll_eq], judgeAll_length c present⟩
    (moves_periodEnd c present).keepsTime

theorem keepsTime_unlock : KeepsTime c c.unlock.1 := by
  unfold Cku.unlock
  split
  · exact (keepsTime_putRec c ..).trans (moves_startSwitch ..).keepsTime
  · exact (Moves.refl c).keepsTime

theorem keepsTime_lockTimeout : KeepsTime c c.lockTimeout.1 := by
  unfold Cku.lockTimeout
  split
  · exact KeepsTime.trans (d := { c.putRec c.source (c.record c.source).penalised with lockTimer := none }) ⟨rfl, rfl, by simp⟩
      (moves_select ..).keepsTime
  · exact (Moves.refl c).keepsTime

theorem keepsTime_lose (x : ClockSource) : KeepsTime c (c.lose x).1 := (keepsTime_putRec c ..).trans (moves_lose c x).keepsTime

theorem keepsTime_setSources (m : ClockMode) (x : ClockSource) (r : Bool) (xs : List ClockSource) :
    KeepsTime c (c.setSources m x r xs).1 :=
  KeepsTime.trans (d := { c with priority := storedList xs, mode := m, fixedSource := x, revert := r }) ⟨rfl, rfl, rfl⟩
    (moves_select ..).keepsTime

end

/-! ## The law of the records -/

/-- A count raised or lowered by a judgement keeps the bands of the state it leads to (R25). -/
theorem reevaluated_band {before : Standing} {q : Nat} (stays : before = .absent → q = 255) :
    (before.reevaluated q = .good → q < 96) ∧ (before.reevaluated q = .degraded → 64 ≤ q ∧ q < 128) ∧
      (before.reevaluated q = .unusable → 64 ≤ q) ∧ (before.reevaluated q = .absent → q = 255) := by
  cases before with
  | absent => exact ⟨nofun, nofun, nofun, fun _ => stays rfl⟩
  | good =>
    simp only [Standing.reevaluated]
    split_ifs <;> simp_all <;> omega
  | degraded =>
    simp only [Standing.reevaluated]
    split_ifs <;> simp_all <;> omega
  | unusable =>
    simp only [Standing.reevaluated]
    split_ifs <;> simp_all <;> omega

theorem sourceSound_absent : SourceSound SourceRec.absentRec := by decide

section
variable {r : SourceRec} (h : SourceSound r)
include h

theorem sourceSound_swept : SourceSound r.swept := by
  obtain ⟨quality, revert, last, -, rest⟩ := h
  exact ⟨quality, revert, last, Nat.zero_le _, rest⟩

theorem sourceSound_judged (rate : Rate) : SourceSound (r.judged rate).counted := by
  obtain ⟨quality, revert, last, edges, counts, good, degraded, unusable, absent⟩ := h
  have counted {x : SourceRec} (q : x.quality ≤ 255) (e : x.lastEdges ≤ 255) (z : x.edges ≤ 255)
      (bands : (x.standing = .good → x.quality < 96) ∧ (x.standing = .degraded → 64 ≤ x.quality ∧ x.quality < 128) ∧
        (x.standing = .unusable → 64 ≤ x.quality) ∧ (x.standing = .absent → x.quality = 255)) : SourceSound x.counted := by
    refine ⟨q, ?_, e, z, ?_, bands⟩
    · simp only [SourceRec.counted]
      split
      · exact Nat.min_le_left ..
      · exact Nat.zero_le _
    · simp only [SourceRec.counted]
      split
      · exact fun _ => ‹_›
      · exact fun positive => absurd positive (Nat.lt_irrefl 0)
  unfold SourceRec.judged
  dsimp only
  split
  · exact counted (Nat.le_refl _) edges (Nat.zero_le _) ⟨nofun, nofun, nofun, fun _ => rfl⟩
  · split
    · exact counted (Nat.le_refl _) edges (Nat.zero_le _) ⟨nofun, nofun, fun _ => Nat.le_of_ble_eq_true rfl, nofun⟩
    · rename_i there
      split
      · exact counted (by dsimp only; omega) edges (Nat.zero_le _) (reevaluated_band fun gone => absurd gone there)
      · exact counted (Nat.min_le_left ..) edges (Nat.zero_le _)
          (reevaluated_band fun gone => absurd gone there)

theorem sourceSound_atPeriodEnd (rate : Rate) (present : Bool) : SourceSound (r.atPeriodEnd rate present) := by
  unfold SourceRec.atPeriodEnd
  split
  · exact sourceSound_judged h rate
  · obtain ⟨quality, -, last, -, -, rest⟩ := h
    exact ⟨quality, Nat.zero_le _, last, Nat.zero_le _, fun positive => absurd positive (Nat.lt_irrefl 0), rest⟩

theorem sourceSound_penalised : SourceSound r.penalised := by
  have bands := reevaluated_band (before := r.standing) (q := min 255 (r.quality + 64)) (fun gone => by
    have := h.2.2.2.2.2.2.2.2 gone
    omega)
  obtain ⟨quality, revert, last, edges, -⟩ := h
  refine ⟨Nat.min_le_left .., ?_, last, edges, ?_, bands⟩
  · simp only [SourceRec.penalised]
    split
    · exact revert
    · exact Nat.zero_le _
  · simp only [SourceRec.penalised]
    split
    · exact fun _ => ‹_›
    · exact fun positive => absurd positive (Nat.lt_irrefl 0)

theorem sourceSound_lost : SourceSound r.lost := by
  obtain ⟨-, -, last, -⟩ := h
  exact ⟨Nat.le_refl _, Nat.zero_le _, last, Nat.zero_le _, fun positive => absurd positive (Nat.lt_irrefl 0), nofun, nofun, nofun, fun _ => rfl⟩

theorem sourceSound_unlocked : SourceSound { r with unlock := true } := h

theorem sourceSound_edges (n : Nat) : SourceSound { r with edges := min 255 (r.edges + n) } := by
  obtain ⟨quality, revert, last, -, rest⟩ := h
  exact ⟨quality, revert, last, Nat.min_le_left .., rest⟩

theorem sourceSound_disqualified : SourceSound r.disqualified := by
  obtain ⟨quality, revert, last, edges, -, good, degraded, unusable, absent⟩ := h
  unfold SourceRec.disqualified
  split
  · exact ⟨quality, Nat.zero_le _, last, Nat.zero_le _, fun positive => absurd positive (Nat.lt_irrefl 0), good, degraded, unusable, absent⟩
  · exact ⟨Nat.le_of_ble_eq_true rfl, Nat.zero_le _, last, Nat.zero_le _, fun positive => absurd positive (Nat.lt_irrefl 0), nofun, nofun, fun _ => Nat.le_of_ble_eq_true rfl,
      nofun⟩

end

/-- The records and the list of a Clock Unit (R22, R25, R26, R27). -/
structure ClockRecords (c : Cku) : Prop where
  seven : c.sources.length = 7
  internal : c.record .internal = SourceRec.internalRec
  sources : ∀ x ∈ externalSources, SourceSound (c.record x)
  once : c.priority.Nodup
  listed : ClockSource.internal ∈ c.priority

theorem clockSound_iff {c : Cku} : ClockSound c ↔ ClockRecords c ∧ TimersSound c ∧ ClockSourceSound c :=
  ⟨fun ⟨seven, internal, sources, once, listed, timers, source⟩ => ⟨⟨seven, internal, sources, once, listed⟩, timers, source⟩,
    fun ⟨⟨seven, internal, sources, once, listed⟩, timers, source⟩ => ⟨seven, internal, sources, once, listed, timers, source⟩⟩

section
variable {c d : Cku}

theorem clockRecords_of_moves (h : ClockRecords c) (m : Moves c d) : ClockRecords d := by
  obtain ⟨seven, internal, sources, once, listed⟩ := h
  rw [m]
  exact ⟨seven, internal, sources, once, listed⟩

theorem ClockRecords.usable_internal (h : ClockRecords c) : c.usable .internal = true := by
  rw [Cku.usable, h.internal]
  rfl

theorem ClockRecords.sound (h : ClockRecords c) {x : ClockSource} (external : x ≠ .internal) : SourceSound (c.record x) :=
  h.sources x (mem_externalSources.mpr external)

theorem clockRecords_putRec (h : ClockRecords c) {x : ClockSource} (external : x ≠ .internal) {r : SourceRec} (sound : SourceSound r) :
    ClockRecords (c.putRec x r) := by
  refine ⟨by simpa using h.seven, ?_, fun y hy => ?_, h.once, h.listed⟩
  · rw [record_putRec_ne external]
    exact h.internal
  · rw [record_putRec h.seven]
    split
    · exact sound
    · exact h.sources y hy

theorem clockRecords_judgeAll (h : ClockRecords c) (present : ClockSource → Bool) : ClockRecords (c.judgeAll present) := by
  refine ⟨(judgeAll_length c present).trans h.seven, ?_, fun x hx => ?_, by rw [judgeAll_eq]; exact h.once, by rw [judgeAll_eq]; exact h.listed⟩
  · rw [judgeAll_record h.seven, if_pos rfl]
    exact h.internal
  · rw [judgeAll_record h.seven, if_neg (mem_externalSources.mp hx)]
    split
    · exact sourceSound_swept (h.sources x hx)
    · exact sourceSound_atPeriodEnd (h.sources x hx) ..

/-! ## The law of the clock -/

/-- R34: the first usable source of a list that has INTERNAL is usable and in it. -/
theorem firstUsable_spec (h : ClockRecords c) : c.usable c.firstUsable = true ∧ c.firstUsable ∈ c.priority := by
  cases found : c.priority.find? c.usable with
  | none => exact absurd h.usable_internal (by simpa using List.find?_eq_none.mp found _ h.listed)
  | some x =>
    rw [Cku.firstUsable, found]
    exact ⟨List.find?_some found, List.mem_of_find?_eq_some found⟩

theorem timersSound_startSwitch (c : Cku) (x : ClockSource) : TimersSound (c.startSwitch x) := by
  by_cases internal : x = .internal <;> simp [TimersSound, Cku.startSwitch, internal]

theorem timersSound_enterHoldover (c : Cku) (x : ClockSource) : TimersSound (c.enterHoldover x) := by
  simp [TimersSound, Cku.enterHoldover]

/-- A switch to a usable source that suits the mode. -/
theorem clockSource_startSwitch {x : ClockSource} (usable : c.usable x = true) (auto : c.mode = .auto → c.fallback = .none ∧ x ∈ c.priority)
    (fixed : c.mode = .fixed → (x = c.fixedSource ∧ c.fallback = .none) ∨
      (x = .internal ∧ c.fixedSource ≠ .internal ∧ c.fallback ≠ .none ∧ c.usable c.fixedSource = false)) :
    ClockSourceSound (c.startSwitch x) :=
  ⟨nofun, nofun, fun _ => usable, nofun, auto, fixed⟩

/-- R34: what selection in AUTO leads to. `stays` is for a clock that is left as it is. -/
theorem clockSound_selectAuto (h : ClockRecords c) (auto : c.mode = .auto) (reason : ClockReason) (fresh : Bool)
    (stays : ¬ (c.clock = .switching ∧ fresh = true) → TimersSound c) (free : c.clock = .free → c.source = .internal)
    (locked : c.clock = .locked → c.source ≠ .internal) : ClockSound (c.selectAuto reason fresh).1 := by
  obtain ⟨usable, listed⟩ := firstUsable_spec h
  refine clockSound_iff.mpr ⟨clockRecords_of_moves h (moves_selectAuto ..), ?_⟩
  obtain ⟨same, source, now⟩ | ⟨same, -⟩ := selectAuto_cases c reason fresh <;> rw [same]
  · refine ⟨stays fun is => ?_, free, fun is => ⟨locked is, ?_⟩, fun is => ?_, fun is => ?_, fun _ => ⟨rfl, ?_⟩, fun is => ?_⟩
    · obtain now | now | now := now <;> simp_all
    · exact source ▸ usable
    · exact source ▸ usable
    · obtain now | now | now := now <;> simp_all
    · exact source ▸ listed
    · simp_all
  · exact ⟨timersSound_startSwitch .., clockSource_startSwitch (c := { c with fallback := .none }) usable (fun _ => ⟨rfl, listed⟩)
      fun is => by simp_all⟩

/-- R37, R38: what selection in FIXED mode leads to. -/
theorem clockSound_selectFixed (h : ClockRecords c) (fixed : c.mode = .fixed) (reason : ClockReason) (fresh : Bool)
    (stays : ¬ (c.clock = .switching ∧ c.source ≠ .internal ∧ fresh = true) → TimersSound c) (free : c.clock = .free → c.source = .internal)
    (locked : c.clock = .locked → c.source ≠ .internal) (held : c.clock = .holdover → c.source ≠ .internal ∧ c.fallback = .none) :
    ClockSound (c.selectFixed reason fresh).1 := by
  have onInternal (on : c.onInternal = true) : c.source = .internal ∧ (c.clock = .free ∨ c.clock = .switching) := by
    simp only [Cku.onInternal, Bool.or_eq_true, Bool.and_eq_true, beq_iff_eq] at on
    obtain is | ⟨is, source⟩ := on
    · exact ⟨free is, .inl is⟩
    · exact ⟨source, .inr is⟩
  have internal := h.usable_internal
  refine clockSound_iff.mpr ⟨clockRecords_of_moves h (moves_selectFixed ..), ?_⟩
  obtain ⟨fx, on, same⟩ | ⟨fx, -, same⟩ | ⟨fx, usable, on, stale, same⟩ | ⟨fx, usable, -, same⟩ | ⟨fx, usable, on, same⟩ |
    ⟨fx, usable, -, is, source, same⟩ | ⟨fx, usable, -, -, f, hf, same⟩ := selectFixed_cases c reason fresh <;> rw [same]
  · obtain ⟨source, now⟩ := onInternal on
    refine ⟨stays (by simp [source]), free, fun is => ?_, fun _ => ?_, fun is => ?_, fun is => ?_, fun _ => .inl ⟨?_, rfl⟩⟩
    · simp_all
    · rw [source]; exact internal
    · simp_all
    · simp_all
    · simp_all
  · exact ⟨timersSound_startSwitch .., clockSource_startSwitch (c := { c with fallback := .none }) internal (fun is => by simp_all)
      fun _ => .inl ⟨fx.symm, rfl⟩⟩
  · simp only [Cku.onSource, Bool.and_eq_true, Bool.or_eq_true, beq_iff_eq] at on
    obtain ⟨now, source⟩ := on
    refine ⟨stays (by simp [stale]), free, fun is => ⟨locked is, ?_⟩, fun _ => ?_, fun is => ?_, fun is => ?_, fun _ => .inl ⟨source, rfl⟩⟩
    · rw [source]; exact usable
    · rw [source]; exact usable
    · simp_all
    · simp_all
  · exact ⟨timersSound_startSwitch .., clockSource_startSwitch (c := { c with fallback := .none }) usable (fun is => by simp_all)
      fun _ => .inl ⟨rfl, rfl⟩⟩
  · exact ⟨timersSound_enterHoldover .., nofun, nofun, nofun, fun _ => ⟨fixed, rfl, fx, usable⟩, fun is => by simp_all [Cku.enterHoldover],
      fun _ => .inl ⟨rfl, rfl⟩⟩
  · refine ⟨stays (by simp [is]), by simp [is], by simp [is], by simp [is], fun _ => ⟨fixed, source, source ▸ fx, source ▸ usable⟩,
      by simp [fixed], fun _ => .inl ⟨source, (held is).2⟩⟩
  · have reason_ : f ≠ .none := by
      rw [hf]
      split <;> nofun
    split
    · rename_i on
      obtain ⟨source, now⟩ := onInternal on
      refine ⟨stays (by simp [source]), free, fun is => ?_, fun _ => ?_, fun is => ?_, fun is => ?_, fun _ => .inr ⟨source, fx, reason_, usable⟩⟩
      · simp_all
      · rw [source]; exact internal
      · simp_all
      · simp_all
    · exact ⟨timersSound_startSwitch .., clockSource_startSwitch (c := { c with fallback := f }) internal (fun is => by simp_all)
        fun _ => .inr ⟨rfl, fx, reason_, usable⟩⟩

end

end Sys2Proof.Machine
end

section
/-! PROOFS. The laws of the Clock Unit and of presence (02), kept by every step. -/

namespace Sys2Proof.Machine

open Sys2Proof.Safety

/-! ## The clock events -/

section
variable {c : Cku} (h : ClockSound c)
include h

theorem clockSound_judgeAll_periodEnd (present : ClockSource → Bool) : ClockSound (c.periodEnd present).1 := by
  obtain ⟨records, timers, free, locked, switching, held, auto, fixed⟩ := clockSound_iff.mp h
  have judged := clockRecords_judgeAll records present
  have same := judgeAll_eq c present
  have timers' : TimersSound (c.judgeAll present) := by rw [same]; exact timers
  have clock : (c.judgeAll present).clock = c.clock := by rw [same]
  have source : (c.judgeAll present).source = c.source := by rw [same]
  have mode : (c.judgeAll present).mode = c.mode := by rw [same]
  have fixedSource : (c.judgeAll present).fixedSource = c.fixedSource := by rw [same]
  have fallback : (c.judgeAll present).fallback = c.fallback := by rw [same]
  have priority : (c.judgeAll present).priority = c.priority := by rw [same]
  have free' : (c.judgeAll present).clock = .free → (c.judgeAll present).source = .internal := by rwa [clock, source]
  have locked' : (c.judgeAll present).clock = .locked → (c.judgeAll present).source ≠ .internal := by
    rw [clock, source]
    exact fun is => (locked is).1
  unfold Cku.periodEnd
  dsimp only
  split
  · rename_i is
    rw [mode] at is
    obtain ⟨none_, listed⟩ := auto is
    have select (reason : ClockReason) : ClockSound ((c.judgeAll present).selectAuto reason false).1 :=
      clockSound_selectAuto judged (mode.trans is) reason false (fun _ => timers') free' locked'
    unfold Cku.periodAuto
    split
    · exact select _
    · rename_i usable
      have usable : (c.judgeAll present).usable c.source = true := by simpa [source] using usable
      split
      · exact select _
      · obtain test | ⟨x, ahead, lasting, -, -, test⟩ := revertTest_cases (c.judgeAll present) <;> rw [test]
        · refine clockSound_iff.mpr ⟨judged, timers', free', fun is => ⟨locked' is, by rw [source]; exact usable⟩,
            fun _ => by rw [source]; exact usable, fun now => ?_, fun _ => ⟨by rw [fallback, none_], by rw [source, priority]; exact listed⟩,
            fun now => ?_⟩
          · rw [clock] at now
            simp [(held now).1] at is
          · rw [mode, is] at now
            cases now
        · have good : (c.judgeAll present).usable x = true := by
            by_cases internal : x = .internal
            · rw [internal]
              exact judged.usable_internal
            · obtain ⟨-, -, -, -, good, -⟩ := judged.sound internal
              rw [Cku.usable, good (by omega)]
              rfl
          refine clockSound_iff.mpr ⟨clockRecords_of_moves judged (moves_startSwitch ..), timersSound_startSwitch ..,
            clockSource_startSwitch good (fun _ => ⟨by rw [fallback, none_], ?_⟩) fun now => ?_⟩
          · exact (List.takeWhile_prefix _).subset ahead
          · rw [mode, is] at now
            cases now
  · rename_i is
    rw [mode] at is
    have which := fixed is
    unfold Cku.periodFixed
    split
    · rename_i stands
      have usable : (c.judgeAll present).usable c.fixedSource = c.usable c.fixedSource := by
        rw [fixedSource] at stands
        simp only [Cku.usable, stands]
      have at_ (now : c.usable c.source = true) : (c.judgeAll present).usable c.source = true := by
        obtain ⟨on, -⟩ | ⟨on, -⟩ := which
        · rw [on, usable, ← on]
          exact now
        · rw [on]
          exact judged.usable_internal
      refine clockSound_iff.mpr ⟨judged, timers', free', fun now => ⟨locked' now, ?_⟩, fun now => ?_, fun now => ?_, fun now => ?_, fun _ => ?_⟩
      · rw [clock] at now
        rw [source]
        exact at_ (locked now).2
      · rw [clock] at now
        rw [source]
        exact at_ (switching now)
      · rw [clock] at now
        obtain ⟨m, on, external, lost⟩ := held now
        rw [mode, source, fixedSource]
        exact ⟨m, on, external, by rw [on, usable, ← on]; exact lost⟩
      · rw [mode, is] at now
        cases now
      · rw [source, fixedSource, fallback, usable]
        exact which
    · refine clockSound_selectFixed judged (mode.trans is) _ _ (fun _ => timers') free' locked' fun now => ?_
      rw [clock] at now
      rw [source, fallback]
      obtain ⟨-, on, external, -⟩ := held now
      obtain ⟨-, none_⟩ | ⟨internal, -⟩ := which
      · exact ⟨external, none_⟩
      · exact absurd internal external

theorem clockSound_lock : ClockSound c.lock.1 := by
  obtain ⟨records, ⟨lockT, settleT, holdoverT, l, s', o⟩, free, locked, switching, held, auto, fixed⟩ := clockSound_iff.mp h
  unfold Cku.lock
  split
  · rename_i is
    refine clockSound_iff.mpr ⟨clockRecords_of_moves records rfl, ⟨?_, ?_, ?_, Nat.zero_le _, s', o⟩, nofun, fun _ => ⟨is.2, switching is.1⟩,
      nofun, nofun, fun m => ⟨rfl, (auto m).2⟩, fun m => .inl ⟨?_, rfl⟩⟩
    · simp
    · simpa [is.1, is.2] using settleT
    · simpa [is.1] using holdoverT
    · obtain ⟨on, -⟩ | ⟨internal, -⟩ := fixed m
      · exact on
      · exact absurd internal is.2
  · exact h

theorem clockSound_settleTimeout : ClockSound c.settleTimeout.1 := by
  obtain ⟨records, ⟨lockT, settleT, holdoverT, l, s', o⟩, free, locked, switching, held, auto, fixed⟩ := clockSound_iff.mp h
  unfold Cku.settleTimeout
  split
  · rename_i is
    refine clockSound_iff.mpr ⟨clockRecords_of_moves records rfl, ⟨?_, ?_, ?_, l, Nat.zero_le _, o⟩, fun _ => is.2.1, nofun, nofun, nofun, auto,
      fixed⟩
    · simpa [is.1, is.2.1] using lockT
    · simp
    · simpa [is.1] using holdoverT
  · exact h

theorem clockSound_holdoverTimeout : ClockSound c.holdoverTimeout.1 := by
  obtain ⟨records, timers, free, locked, switching, held, auto, fixed⟩ := clockSound_iff.mp h
  unfold Cku.holdoverTimeout
  split
  · rename_i is
    obtain ⟨m, on, external, lost⟩ := held is.1
    refine clockSound_iff.mpr ⟨clockRecords_of_moves records rfl, timersSound_startSwitch c .internal, nofun, nofun,
      fun _ => records.usable_internal, nofun, fun a => ?_, fun _ => .inr ⟨rfl, on ▸ external, nofun, on ▸ lost⟩⟩
    simp [Cku.startSwitch, m] at a
  · exact h

/-- A source's record replaced by one of the same standing, under a fresh switch to the clock source (R33). -/
theorem clockSound_unlock : ClockSound c.unlock.1 := by
  obtain ⟨records, timers, free, locked, switching, held, auto, fixed⟩ := clockSound_iff.mp h
  unfold Cku.unlock
  split
  · rename_i is
    obtain ⟨external, usable⟩ := locked is
    have stored := clockRecords_putRec records external (sourceSound_unlocked (records.sound external))
    have standing (x : ClockSource) : (c.putRec c.source { c.record c.source with unlock := true }).usable x = c.usable x := by
      rw [Cku.usable, record_putRec records.seven]
      split
      · rename_i same
        rw [same]
        rfl
      · rfl
    refine clockSound_iff.mpr ⟨clockRecords_of_moves stored (moves_startSwitch ..), timersSound_startSwitch ..,
      clockSource_startSwitch (by rw [standing]; exact usable) auto fun m => ?_⟩
    rw [standing]
    exact fixed m
  · exact h

theorem clockSound_lockTimeout : ClockSound c.lockTimeout.1 := by
  obtain ⟨records, timers, free, locked, switching, held, auto, fixed⟩ := clockSound_iff.mp h
  unfold Cku.lockTimeout
  split
  · rename_i is
    have stored := clockRecords_putRec records is.2.1 (sourceSound_penalised (records.sound is.2.1))
    have penalised : ClockRecords { c.putRec c.source (c.record c.source).penalised with lockTimer := none } :=
      clockRecords_of_moves stored rfl
    have other (st : ClockState) (differs : st ≠ .switching) (now : c.clock = st) : False := differs (now.symm.trans is.1)
    have switches : { c.putRec c.source (c.record c.source).penalised with lockTimer := none }.clock = .switching := is.1
    unfold Cku.select
    split
    · rename_i m
      exact clockSound_selectAuto penalised m _ _ (fun stale => absurd ⟨switches, rfl⟩ stale)
        (fun now => (other .free nofun now).elim) fun now => (other .locked nofun now).elim
    · rename_i m
      exact clockSound_selectFixed penalised m _ _ (fun stale => absurd ⟨switches, is.2.1, rfl⟩ stale)
        (fun now => (other .free nofun now).elim) (fun now => (other .locked nofun now).elim) fun now => (other .holdover nofun now).elim
  · exact h

theorem clockSound_lose {x : ClockSource} (external : x ≠ .internal) : ClockSound (c.lose x).1 := by
  obtain ⟨records, timers, free, locked, switching, held, auto, fixed⟩ := clockSound_iff.mp h
  have stored := clockRecords_putRec records external (sourceSound_lost (records.sound external))
  have others {y : ClockSource} (apart : y ≠ x) : (c.putRec x (c.record x).lost).usable y = c.usable y := by
    rw [Cku.usable, record_putRec_ne (Ne.symm apart)]
    rfl
  have gone : (c.putRec x (c.record x).lost).usable x = false := by
    rw [Cku.usable, record_putRec_self records.seven]
    rfl
  unfold Cku.lose
  dsimp only
  split
  · rename_i m
    split
    · exact clockSound_selectAuto stored m _ _ (fun _ => timers) free fun is => (locked is).1
    · rename_i apart
      refine clockSound_iff.mpr ⟨stored, timers, free, fun is => ⟨(locked is).1, (others apart).trans (locked is).2⟩,
        fun is => (others apart).trans (switching is), fun is => ?_, auto, fun is => ?_⟩
      · have := (held is).1
        have m' : c.mode = .auto := m
        simp [this] at m'
      · rw [m] at is
        cases is
  · rename_i m
    have which := fixed m
    split
    · refine clockSound_selectFixed stored m _ _ (fun _ => timers) free (fun is => (locked is).1) fun is => ?_
      obtain ⟨-, on, ext, -⟩ := held is
      obtain ⟨-, none_⟩ | ⟨internal, -⟩ := which
      · exact ⟨ext, none_⟩
      · exact absurd internal ext
    · rename_i apart
      have apart : c.fixedSource ≠ x := apart
      have source : c.source ≠ x := by
        obtain ⟨on, -⟩ | ⟨on, -⟩ := which
        · rw [on]
          exact apart
        · rw [on]
          exact Ne.symm external
      refine clockSound_iff.mpr ⟨stored, timers, free, fun is => ⟨(locked is).1, (others source).trans (locked is).2⟩,
        fun is => (others source).trans (switching is), fun is => ?_, auto, fun _ => ?_⟩
      · obtain ⟨m', on, ext, lost⟩ := held is
        exact ⟨m', on, ext, (others source).trans lost⟩
      · obtain on | ⟨on, ext, reason, lost⟩ := which
        · exact .inl on
        · exact .inr ⟨on, ext, reason, (others apart).trans lost⟩

theorem clockSound_setSources (m : ClockMode) (x : ClockSource) (r : Bool) {xs : List ClockSource} (once : xs.Nodup) :
    ClockSound (c.setSources m x r xs).1 := by
  obtain ⟨records, timers, free, locked, switching, held, auto, fixed⟩ := clockSound_iff.mp h
  have stored : ClockRecords { c with priority := storedList xs, mode := m, fixedSource := x, revert := r } := by
    refine ⟨records.seven, records.internal, records.sources, ?_, ?_⟩
    · dsimp only [storedList]
      split
      · exact once
      · rename_i missing
        rw [List.nodup_append]
        exact ⟨once, by simp, fun a ha b hb same => missing (by simp_all)⟩
    · dsimp only [storedList]
      split
      · rename_i there
        simpa using there
      · simp
  unfold Cku.setSources Cku.select
  split
  · rename_i auto'
    exact clockSound_selectAuto stored auto' _ _ (fun _ => timers) free fun is => (locked is).1
  · rename_i fixed'
    refine clockSound_selectFixed stored fixed' _ _ (fun _ => timers) free (fun is => (locked is).1) fun is => ?_
    obtain ⟨m', on, ext, -⟩ := held is
    obtain ⟨-, none_⟩ | ⟨internal, -⟩ := fixed m'
    · exact ⟨ext, none_⟩
    · exact absurd internal ext

theorem clockSound_changeRate (r : Rate) : ClockSound (c.changeRate r) := by
  obtain ⟨records, -, -, -, -, -, auto, fixed⟩ := clockSound_iff.mp h
  have stored : ClockRecords c.disqualifyAll := by
    refine ⟨(disqualifyAll_length c).trans records.seven, ?_, fun x hx => ?_, by rw [disqualifyAll_eq]; exact records.once,
      by rw [disqualifyAll_eq]; exact records.listed⟩
    · rw [disqualifyAll_record records.seven, if_pos rfl]
      exact records.internal
    · rw [disqualifyAll_record records.seven, if_neg (mem_externalSources.mp hx)]
      exact sourceSound_disqualified (records.sources x hx)
  have lost {x : ClockSource} (external : x ≠ .internal) : c.disqualifyAll.usable x = false := by
    rw [Cku.usable, disqualifyAll_record records.seven, if_neg external]
    unfold SourceRec.disqualified
    split
    · rename_i absent
      rw [absent]
      rfl
    · rfl
  have changed : ClockRecords (c.changeRate r) := ⟨stored.seven, stored.internal, stored.sources, stored.once, stored.listed⟩
  have mode : (c.changeRate r).mode = c.mode := by
    rw [show (c.changeRate r).mode = c.disqualifyAll.mode from rfl, disqualifyAll_eq]
  have fixedSource : (c.changeRate r).fixedSource = c.fixedSource := by
    rw [show (c.changeRate r).fixedSource = c.disqualifyAll.fixedSource from rfl, disqualifyAll_eq]
  refine clockSound_iff.mpr ⟨changed, timersSound_startSwitch c.disqualifyAll .internal, nofun, nofun, fun _ => changed.usable_internal,
    nofun, fun m => ⟨?_, changed.listed⟩, fun m => ?_⟩
  · rw [mode] at m
    simp [Cku.changeRate, Cku.rateFallback, m]
  · rw [mode] at m
    have reason : (c.changeRate r).fallback = c.rateFallback := rfl
    rw [fixedSource, reason]
    unfold Cku.rateFallback
    rw [m]
    by_cases internal : c.fixedSource = .internal
    · exact .inl ⟨internal.symm, by simp [internal]⟩
    · refine .inr ⟨rfl, internal, ?_, lost internal⟩
      dsimp only
      rw [if_neg internal]
      split <;> nofun

theorem clockSound_countEdges {x : ClockSource} (external : x ≠ .internal) (n : Nat) : ClockSound (c.countEdges x n) := by
  obtain ⟨records, timers, free, locked, switching, held, auto, fixed⟩ := clockSound_iff.mp h
  have usable (y : ClockSource) : (c.countEdges x n).usable y = c.usable y := by
    rw [Cku.usable, Cku.countEdges, record_putRec records.seven]
    split
    · rename_i same
      rw [same]
      rfl
    · rfl
  refine clockSound_iff.mpr ⟨clockRecords_putRec records external (sourceSound_edges (records.sound external) n), timers, ?_⟩
  simp only [ClockSourceSound, usable]
  exact ⟨free, locked, switching, held, auto, fixed⟩

theorem clockSound_countDown : ClockSound c.countDown := by
  obtain ⟨records, ⟨lockT, settleT, holdoverT, l, s', o⟩, source⟩ := clockSound_iff.mp h
  have down (t : Option Nat) {n : Nat} (ht : t.getD 0 ≤ n) : (t.map (· - 1)).getD 0 ≤ n := by
    cases t with
    | none => exact ht
    | some k => exact (Nat.sub_le k 1).trans ht
  exact clockSound_iff.mpr ⟨clockRecords_of_moves records rfl, ⟨by simpa [Cku.countDown] using lockT, by simpa [Cku.countDown] using settleT,
    by simpa [Cku.countDown] using holdoverT, down _ l, down _ s', down _ o⟩, source⟩

theorem clockSound_counter (n : Stamp) : ClockSound { c with counter := n } := h

end

/-! ## Rows that reach the Clock Unit -/

theorem clockSound_of_reaches {ps : List Part} {s t : State} (h : ClockSound s.cku) (r : Reaches ps s t) (cku : Part.cku ∉ ps := by decide) :
    ClockSound t.cku := by
  rw [show t.cku = s.cku from r.frame .cku cku]
  exact h

theorem link_external : ClockSource.link ≠ .internal := nofun

theorem portSource_external (i : Nat) : portSource i ≠ .internal := nofun

@[simp] theorem clockChange_cku (after : Cku) (reason : Option ClockReason) (stu ptu : List NoticeBody) (s : State) :
    (clockChange after reason stu ptu s).cku = after := by
  rw [clockChange_eq]
  rfl

theorem losePresence_cku (x : ClockSource) (was : Bool) (stu ptu : List NoticeBody) (s : State) :
    (losePresence x was stu ptu s).cku = if was = true ∧ s.present x = false then (s.cku.lose x).1 else s.cku := by
  obtain ⟨w, p, same⟩ | ⟨not, same⟩ := losePresence_cases x was stu ptu s
  · rw [same, clockChange_cku, if_pos ⟨w, p⟩]
  · rw [same, if_neg not, notifyAll_eq]
    rfl

section
variable {s : State} (h : ClockSound s.cku)
include h

theorem clockSound_losePresence {x : ClockSource} (external : x ≠ .internal) (was : Bool) (stu ptu : List NoticeBody) :
    ClockSound (losePresence x was stu ptu s).cku := by
  rw [losePresence_cku]
  split
  · exact clockSound_lose h external
  · exact h

theorem clockSound_leaveLink (l : LinkState) : ClockSound (leaveLink l s).cku := by
  have reset : ClockSound (linkReset l s).cku := by
    unfold linkReset
    dsimp only
    split
    · refine clockSound_losePresence ?_ link_external ..
      exact h
    · refine clockSound_losePresence ?_ link_external ..
      exact h
  unfold leaveLink
  split
  · exact reset
  · exact reset
  all_goals exact h

theorem clockSound_edges (x : ClockSource) (n : Nat) : ClockSound (countEdges x n s).cku := by
  unfold countEdges
  split
  · rename_i counts
    exact clockSound_countEdges h counts.2.1 n
  · exact h

omit h in
@[simp] theorem studioFrame_cku (s : State) : (studioFrame s).cku = { s.cku with counter := s.cku.counter + 1 } := by
  have shown (t : State) : (handMeterFrames t).cku = t.cku := (reaches_handMeterFrames t).frame .cku (by decide)
  unfold studioFrame
  dsimp only
  split <;> simp only [shown, notifyMerged_eq] <;> rfl

end

theorem handler_clockSound {c : Instr} {handle : State → Handled} (hc : handlerOf c = some handle) {s : State} (h : ClockSound s.cku) :
    ClockSound (handle s).state.cku := by
  have reach := handler_reaches hc s
  cases c <;> cases hc
  case reset => exact resetMeetsEveryLaw.1.clock
  case clockSetRate =>
    unfold handleClockSetRate
    split
    · exact h
    · dsimp only [accept]
      split
      · exact h
      · simp only [changeRate, notifyMerged_eq]
        exact clockSound_changeRate h _
  case clockSetSources =>
    dsimp only
    split
    · unfold handleClockSetSources
      split
      · split
        · rename_i once
          exact (clockEvent_cku _ s) ▸ clockSound_setSources h _ _ _ once
        · exact h
      · exact h
    · exact h
  case streamStop =>
    unfold handleStreamStop
    split
    · exact h
    · split
      · exact h
      · refine clockSound_losePresence ?_ link_external ..
        exact h
  case portConfig =>
    unfold handlePortConfig
    split
    · split
      · exact h
      · split
        · exact h
        · dsimp only [accept, configurePort]
          split
          · rw [clockChange_cku]
            exact clockSound_lose h (portSource_external _)
          · rw [notifyAll_eq]
            exact h
    · exact h
  all_goals
    dsimp only [reachOf] at reach
    exact clockSound_of_reaches h reach

theorem event_clockSound {c : Instr} (hc : commandOf c = none) (take : c ≠ .takeCommand) {s t : State} (h : ClockSound s.cku)
    (hx : exec c s = .next t) : ClockSound t.cku := by
  have reach := event_reaches_of_next hc take hx
  cases c <;> cases hc <;> cases hx
  case takeCommand => exact absurd rfl take
  case powerOn => exact resetMeetsEveryLaw.1.clock
  case busReset =>
    split
    · exact h
    · exact clockSound_leaveLink h _
  case disconnection => exact clockSound_leaveLink h _
  case selectConfiguration value =>
    split
    · split
      · exact clockSound_leaveLink h _
      · exact h
      · exact h
    · exact h
  case busIdleSuspend =>
    split
    · refine clockSound_losePresence ?_ link_external ..
      exact h
    · refine clockSound_losePresence ?_ link_external ..
      exact h
    · exact h
    · exact h
  case checkPeriodEnd =>
    split
    · rw [clockEvent_cku]
      exact clockSound_judgeAll_periodEnd h _
    · exact h
  case synthesiserLock =>
    rw [clockEvent_cku]
    exact clockSound_lock h
  case synthesiserUnlock =>
    rw [clockEvent_cku]
    exact clockSound_unlock h
  case lockTimerExpiry =>
    rw [clockEvent_cku]
    exact clockSound_lockTimeout h
  case settleTimerExpiry =>
    rw [clockEvent_cku]
    exact clockSound_settleTimeout h
  case holdoverTimerExpiry =>
    rw [clockEvent_cku]
    exact clockSound_holdoverTimeout h
  case sourceEdge source =>
    cases source with
    | link =>
      dsimp only [referenceEdge]
      split
      · refine clockSound_edges ?_ ..
        exact h
      · exact h
    | internal => exact clockSound_edges h ..
    | wordclock => exact clockSound_edges h ..
    | port p => exact clockSound_edges h ..
  case serviceIntervalStart =>
    rw [referenceInterval_eq]
    refine clockSound_edges (s := s.withStu (s.stu.interval s.cku.counter s.cku.rate)) ?_ ..
    exact h
  case evaluateStudioFrame =>
    rw [show (schedule (studioFrame s)).cku = (studioFrame s).cku from (reaches_schedule _).frame .cku (by decide), studioFrame_cku]
    exact h
  case surfaceMillisecondTick => exact clockSound_countDown h
  all_goals
    dsimp only [reachOf] at reach
    exact clockSound_of_reaches h reach

end Sys2Proof.Machine
end

section
/-! PROOFS. Presence (02, section 2.2): which sources are present, and that one that is not stays ABSENT. -/

namespace Sys2Proof.Machine

open Sys2Proof.Safety

/-! ## Sources that stay ABSENT -/

/-- Every external source that is ABSENT stays so. -/
def AbsentStays (c d : Cku) : Prop :=
  ∀ x ∈ externalSources, (c.record x).standing = .absent → (d.record x).standing = .absent

theorem AbsentStays.refl (c : Cku) : AbsentStays c c := fun _ _ => id

theorem AbsentStays.trans {c d e : Cku} (h : AbsentStays c d) (h' : AbsentStays d e) : AbsentStays c e :=
  fun x hx absent => h' x hx (h x hx absent)

theorem Moves.absentStays {c d : Cku} (h : Moves c d) : AbsentStays c d := fun x _ absent => by rwa [h.record x]

theorem absentStays_putRec {c : Cku} (seven : c.sources.length = 7) {x : ClockSource} {r : SourceRec}
    (absent : (c.record x).standing = .absent → r.standing = .absent) : AbsentStays c (c.putRec x r) := by
  intro y _ gone
  rw [record_putRec seven]
  split
  · rename_i same
    exact absent (same ▸ gone)
  · exact gone

section
variable {c : Cku} (seven : c.sources.length = 7)
include seven

theorem absentStays_unlock : AbsentStays c c.unlock.1 := by
  unfold Cku.unlock
  split
  · exact (absentStays_putRec (r := { c.record c.source with unlock := true }) seven fun h => h).trans (moves_startSwitch ..).absentStays
  · exact .refl c

theorem absentStays_lockTimeout : AbsentStays c c.lockTimeout.1 := by
  have penalised : AbsentStays c (c.putRec c.source (c.record c.source).penalised) :=
    absentStays_putRec seven fun h => by simp [SourceRec.penalised, h, Standing.reevaluated]
  unfold Cku.lockTimeout
  split
  · exact (penalised.trans (Moves.absentStays (d := { c.putRec c.source (c.record c.source).penalised with lockTimer := none }) rfl)).trans
      (moves_select ..).absentStays
  · exact .refl c

theorem absentStays_lose (x : ClockSource) : AbsentStays c (c.lose x).1 :=
  (absentStays_putRec seven fun _ => rfl).trans (moves_lose c x).absentStays

/-- R23: a source that is lost is ABSENT. -/
theorem lose_absent (x : ClockSource) : ((c.lose x).1.record x).standing = .absent := by
  rw [(moves_lose c x).record, record_putRec_self seven]
  rfl

theorem absentStays_changeRate (r : Rate) : AbsentStays c (c.changeRate r) := by
  intro x hx absent
  have same : (c.changeRate r).record x = c.disqualifyAll.record x := rfl
  rw [same, disqualifyAll_record seven, if_neg (mem_externalSources.mp hx)]
  simp [SourceRec.disqualified, absent]

theorem absentStays_countEdges (x : ClockSource) (n : Nat) : AbsentStays c (c.countEdges x n) := absentStays_putRec seven fun h => h

omit seven in
theorem absentStays_setSources (m : ClockMode) (x : ClockSource) (r : Bool) (xs : List ClockSource) :
    AbsentStays c (c.setSources m x r xs).1 :=
  fun y _ absent => by
    have moved := (moves_select { c with priority := storedList xs, mode := m, fixedSource := x, revert := r } .settings false).record y
    exact (congrArg SourceRec.standing moved).trans absent

/-- A source that is not present is not judged (R22, R24). -/
theorem periodEnd_absent {present : ClockSource → Bool} {x : ClockSource} (external : x ≠ .internal) (gone : present x = false)
    (absent : (c.record x).standing = .absent) : ((c.periodEnd present).1.record x).standing = .absent := by
  rw [(moves_periodEnd c present).record, judgeAll_record seven, if_neg external]
  split
  · exact absent
  · simpa [SourceRec.atPeriodEnd, gone] using absent

end

/-! ## Which sources are present -/

/-- The modes of the ports, the link state and whether each stream is IDLE: what presence goes by (R22). -/
structure SamePresence (s t : State) : Prop where
  link : t.lif.link = s.lif.link
  playback : t.stu.playback.state = .idle ↔ s.stu.playback.state = .idle
  capture : t.stu.capture.state = .idle ↔ s.stu.capture.state = .idle
  modes : t.ptu.map Port.mode = s.ptu.map Port.mode

theorem SamePresence.refl (s : State) : SamePresence s s := ⟨rfl, .rfl, .rfl, rfl⟩

theorem SamePresence.trans {s t u : State} (h : SamePresence s t) (h' : SamePresence t u) : SamePresence s u :=
  ⟨h'.link.trans h.link, h'.playback.trans h.playback, h'.capture.trans h.capture, h'.modes.trans h.modes⟩

theorem samePresence_of_reaches {ps : List Part} {s t : State} (r : Reaches ps s t) (link : Part.link ∉ ps := by decide)
    (stu : Part.stu ∉ ps := by decide) (ptu : Part.ptu ∉ ps := by decide) : SamePresence s t := by
  have l : t.lif.link = s.lif.link := r.frame .link link
  have u : t.stu = s.stu := r.frame .stu stu
  have p : t.ptu = s.ptu := r.frame .ptu ptu
  exact ⟨l, by rw [u], by rw [u], by rw [p]⟩

theorem port_mode (s : State) (i : Nat) : (s.port i).mode = (s.ptu.map Port.mode).getD i .drive := by
  rw [State.port, List.getD_eq_getElem?_getD, List.getD_eq_getElem?_getD, List.getElem?_map]
  cases s.ptu[i]? <;> rfl

theorem SamePresence.present {s t : State} (h : SamePresence s t) (x : ClockSource) : t.present x = s.present x := by
  cases x with
  | internal => rfl
  | wordclock => rfl
  | link =>
    have active : t.stu.active = s.stu.active := by
      rw [Bool.eq_iff_iff]
      simp only [Stu.active, Bool.or_eq_true, bne_iff_ne, ne_eq, h.playback, h.capture]
    simp only [State.present, h.link, active]
  | port p => simp only [State.present, port_mode, h.modes]

/-! ## The law kept -/

theorem presence_of_same {s t : State} (h : PresenceSound s) (same : SamePresence s t) (seven : t.cku.sources.length = s.cku.sources.length)
    (absent : ∀ x ∈ externalSources, s.present x = false → (s.cku.record x).standing = .absent → (t.cku.record x).standing = .absent) :
    PresenceSound t := by
  obtain ⟨four, seven', idle, gone⟩ := h
  refine ⟨?_, seven.trans seven', fun off => ?_, fun x hx not => ?_⟩
  · rw [← List.length_map (f := Port.mode), same.modes, List.length_map]
    exact four
  · rw [same.link] at off
    exact ⟨same.playback.mpr (idle off).1, same.capture.mpr (idle off).2⟩
  · rw [same.present] at not
    exact absent x hx not (gone x hx not)

/-- The clock moves, and every source present or not stays so. -/
theorem presence_of_stays {s t : State} (h : PresenceSound s) (same : SamePresence s t) (seven : t.cku.sources.length = s.cku.sources.length)
    (absent : AbsentStays s.cku t.cku) : PresenceSound t :=
  presence_of_same h same seven fun x hx _ => absent x hx

theorem presence_of_reaches {ps : List Part} {s t : State} (h : PresenceSound s) (r : Reaches ps s t) (link : Part.link ∉ ps := by decide)
    (stu : Part.stu ∉ ps := by decide) (ptu : Part.ptu ∉ ps := by decide) (cku : Part.cku ∉ ps := by decide) : PresenceSound t := by
  have c : t.cku = s.cku := r.frame .cku cku
  exact presence_of_stays h (samePresence_of_reaches r link stu ptu) (by rw [c]) (by rw [c]; exact .refl _)

theorem portsBy_modes {op : Nat → Port → Port × Option PortReason} (same : ∀ i p, (op i p).1.mode = p.mode) (ps : List Port) :
    (portsBy op ps).1.map Port.mode = ps.map Port.mode := by
  have each : (fun x : Nat × Port => (op x.1 x.2).1.mode) = Port.mode ∘ Prod.snd := funext fun x => same x.1 x.2
  rw [portsBy, List.map_map, show Port.mode ∘ (fun x : Nat × Port => (op x.1 x.2).1) = Port.mode ∘ Prod.snd from each, ← List.map_map,
    numbered_snd]

theorem set_modes {ps : List Port} {i : Nat} {p : Port} (same : p.mode = (ps.map Port.mode).getD i .drive) :
    (ps.set i p).map Port.mode = ps.map Port.mode := by
  rw [List.map_set]
  by_cases inside : i < ps.length
  · rw [same, List.getD_eq_getElem _ _ (by simpa using inside), List.set_getElem_self]
  · rw [List.set_eq_of_length_le (by simpa using Nat.le_of_not_lt inside)]

theorem react_mode (p : Port) (clock : ClockState) (own : Standing) : (p.react clock own).1.mode = p.mode := by
  unfold Port.react
  split
  · split
    · dsimp only
      split <;> rfl
    · rfl
  · split <;> rfl
  · split <;> rfl
  · split <;> rfl
  · rfl
  · rfl

theorem portAtClock_mode (before after : Cku) (i : Nat) (p : Port) : (portAtClock before after i p).1.mode = p.mode := by
  unfold portAtClock
  split
  · rfl
  · exact react_mode ..

theorem clockEvent_playback_state (u : Stu) (before after : ClockState) (raised : Bool) :
    (u.clockEvent before after raised).playback.state = u.playback.state := by
  have kept (n : Nat) (p : Playback) : (p.giveUp n).state = p.state := by
    induction n generalizing p with
    | zero => rfl
    | succ n ih =>
      rw [Playback.giveUp, ih]
      unfold Playback.giveUpOldest
      dsimp only
      split
      · rfl
      · split <;> rfl
  have centred (p : Playback) : p.recentre.state = p.state := by
    unfold Playback.recentre
    split
    · rfl
    · dsimp only
      split
      · rfl
      · split
        · exact kept ..
        · rfl
  unfold Stu.clockEvent
  dsimp only
  split <;> split <;> simp [centred]

theorem clockEvent_capture_state (u : Stu) (before after : ClockState) (raised : Bool) :
    (u.clockEvent before after raised).capture.state = u.capture.state := by
  unfold Stu.clockEvent
  dsimp only
  split <;> split <;> rfl

theorem samePresence_clockChange (after : Cku) (reason : Option ClockReason) (stu ptu : List NoticeBody) (s : State) :
    SamePresence s (clockChange after reason stu ptu s) := by
  rw [clockChange_eq]
  exact ⟨rfl, by simp [withPorts, clockEvent_playback_state], by simp [withPorts, clockEvent_capture_state],
    portsBy_modes (portAtClock_mode s.cku after) s.ptu⟩

theorem samePresence_clockEvent (r : Cku × Option ClockReason) (s : State) : SamePresence s (clockEvent r s) := by
  obtain ⟨-, -, same⟩ | ⟨-, same⟩ := clockEvent_cases r s <;> rw [same]
  · exact .refl s
  · exact samePresence_clockChange ..

theorem samePresence_changePort {i : Nat} {op : Port → Port × Option PortReason} {s : State} (mode : ∀ p, (op p).1.mode = p.mode) :
    SamePresence s (changePort i op s) := by
  rw [changePort_eq]
  exact ⟨rfl, .rfl, .rfl, set_modes ((mode _).trans (port_mode s i))⟩

theorem presence_clockEvent {s : State} (h : PresenceSound s) {r : Cku × Option ClockReason}
    (seven : r.1.sources.length = s.cku.sources.length)
    (absent : ∀ x ∈ externalSources, s.present x = false → (s.cku.record x).standing = .absent → (r.1.record x).standing = .absent) :
    PresenceSound (clockEvent r s) :=
  presence_of_same h (samePresence_clockEvent r s) (by rw [clockEvent_cku]; exact seven) (by rw [clockEvent_cku]; exact absent)

theorem presence_changePort {s : State} (h : PresenceSound s) {i : Nat} {op : Port → Port × Option PortReason}
    (mode : ∀ p, (op p).1.mode = p.mode) : PresenceSound (changePort i op s) := by
  have cku : (changePort i op s).cku = s.cku := by
    rw [changePort_eq]
    rfl
  exact presence_of_stays h (samePresence_changePort mode) (by rw [cku]) (by rw [cku]; exact .refl _)

/-- R23: after an event of the link or the streams, LINK that was present and is not any more is ABSENT. -/
theorem presence_losePresence {s t : State} (h : PresenceSound s) (idle : t.lif.link ≠ .configured → t.stu.playback.state = .idle ∧
    t.stu.capture.state = .idle) (cku : t.cku = s.cku) (ptu : t.ptu = s.ptu) (stu ptu' : List NoticeBody) :
    PresenceSound (losePresence .link (s.present .link) stu ptu' t) := by
  obtain ⟨four, seven, -, gone⟩ := h
  have others (x : ClockSource) (apart : x ≠ .link) : t.present x = s.present x := by
    cases x with
    | link => exact absurd rfl apart
    | port p => simp only [State.present, State.port, ptu]
    | _ => rfl
  obtain ⟨-, now, same⟩ | ⟨not, same⟩ := losePresence_cases .link (s.present .link) stu ptu' t <;> rw [same]
  · have presence := samePresence_clockChange (t.cku.lose .link).1 (t.cku.lose .link).2 stu ptu' t
    have seven' : t.cku.sources.length = 7 := by rw [cku]; exact seven
    refine ⟨?_, ?_, fun off => ?_, fun x hx away => ?_⟩
    · rw [← List.length_map (f := Port.mode), presence.modes, List.length_map, ptu]
      exact four
    · rw [clockChange_cku]
      exact (keepsTime_lose t.cku .link).2.2.trans seven'
    · rw [presence.link] at off
      exact ⟨presence.playback.mpr (idle off).1, presence.capture.mpr (idle off).2⟩
    · rw [clockChange_cku]
      rw [presence.present] at away
      by_cases link : x = .link
      · rw [link]
        exact lose_absent seven' .link
      · refine absentStays_lose seven' .link x hx ?_
        rw [cku]
        exact gone x hx (by rwa [others x link] at away)
  · refine presence_of_reaches ?_ (reaches_notifyAll ..)
    refine ⟨by rw [ptu]; exact four, by rw [cku]; exact seven, idle, fun x hx away => ?_⟩
    rw [cku]
    by_cases link : x = .link
    · subst link
      refine gone .link hx ?_
      by_contra was
      exact not ⟨by simpa using was, away⟩
    · exact gone x hx (by rwa [others x link] at away)

section
variable {s : State} (h : PresenceSound s)
include h

theorem presence_leaveLink (l : LinkState) : PresenceSound (leaveLink l s) := by
  have reset : PresenceSound (linkReset l s) := by
    unfold linkReset
    dsimp only
    split
    · exact presence_losePresence (t := emptyRecords ((setLink l s).withStu (s.stu.linkReset s.cku.counter))) h (fun _ => ⟨rfl, rfl⟩) rfl rfl ..
    · exact presence_of_reaches (presence_losePresence (t := (setLink l s).withStu (s.stu.linkReset s.cku.counter)) h
        (fun _ => ⟨rfl, rfl⟩) rfl rfl ..) (reaches_emptyRecords _)
  have simple (away : s.lif.link ≠ .configured) : PresenceSound (setLink l s) := by
    obtain ⟨four, seven, idle, gone⟩ := h
    refine ⟨four, seven, fun _ => idle away, fun x hx not => gone x hx ?_⟩
    cases x with
    | link =>
      simp only [State.present, Stu.active, (idle away).1, (idle away).2]
      simp
    | _ => exact not
  unfold leaveLink
  split
  · exact reset
  · exact reset
  · rename_i is
    exact simple (by simp [is])
  · rename_i is
    exact simple (by simp [is])
  · rename_i is
    exact simple (by simp [is])

theorem presence_suspendLink (b : Bool) : PresenceSound (suspendLink b s) :=
  presence_losePresence (t := (setLink (.suspended b) s).withStu (s.stu.linkReset s.cku.counter)) h (fun _ => ⟨rfl, rfl⟩) rfl rfl ..

/-- The link becomes CONFIGURED or stays out of it, with no stream running while it is not. -/
theorem presence_setLink {l : LinkState} (idle : l ≠ .configured → s.stu.playback.state = .idle ∧ s.stu.capture.state = .idle)
    (gains : s.lif.link ≠ .configured ∨ l = s.lif.link) : PresenceSound (setLink l s) := by
  obtain ⟨four, seven, was, gone⟩ := h
  refine ⟨four, seven, idle, fun x hx not => gone x hx ?_⟩
  cases x with
  | link =>
    obtain away | same := gains
    · simp only [State.present, Stu.active, (was away).1, (was away).2]
      simp
    · simpa [State.present, setLink, same] using not
  | _ => exact not

theorem presence_countEdges (x : ClockSource) (n : Nat) : PresenceSound (countEdges x n s) := by
  unfold countEdges
  split
  · exact presence_of_stays h ⟨rfl, .rfl, .rfl, rfl⟩ (putRec_sources_length ..) (absentStays_countEdges h.2.1 x n)
  · exact h

end

/-! ## The rows -/

/-- The part at power-on, with its four ports. -/
theorem presence_of_powerOn {s t : State} (h : PresenceSound s) (cku : t.cku = Cku.powerOn) (stu : t.stu = Stu.powerOn)
    (ptu : t.ptu = s.ptu.map (fun p => Port.powerOn p.overload)) : PresenceSound t := by
  refine ⟨by rw [ptu, List.length_map]; exact h.1, by rw [cku]; rfl, fun _ => by rw [stu]; exact ⟨rfl, rfl⟩, fun x hx _ => ?_⟩
  rw [cku]
  simp only [externalSources, List.mem_cons, List.not_mem_nil, or_false] at hx
  obtain rfl | rfl | rfl | rfl | rfl | rfl := hx <;> rfl

theorem portChangeRate_mode (p : Port) (r : Rate) (clock : ClockState) (own : Standing) : (p.changeRate r clock own).1.mode = p.mode := by
  unfold Port.changeRate
  split
  · rfl
  · rfl
  · split <;> rfl

/-! What a change of the rate does, block by block (R41). -/

theorem changeRate_eq (r : Rate) (s : State) :
    changeRate r s = ((withPorts (portsBy (fun i p => p.changeRate r (s.cku.changeRate r).clock (ownStanding (s.cku.changeRate r) i)) s.ptu).1
      (((s.withCku (s.cku.changeRate r)).withStu
        ((s.stu.changeRate s.cku.counter r).1.clockEvent s.cku.clock (s.cku.changeRate r).clock true)).withRme s.rme.changeRate.1)).withMsu
      (changeRate r s).msu).withFresh (s.fresh + 1) := by
  simp only [changeRate, notifyMerged_eq]
  rfl

theorem changeRate_cku (r : Rate) (s : State) : (changeRate r s).cku = s.cku.changeRate r := by
  rw [changeRate_eq]
  rfl

theorem changeRate_stu (r : Rate) (s : State) : (changeRate r s).stu =
    (s.stu.changeRate s.cku.counter r).1.clockEvent s.cku.clock (s.cku.changeRate r).clock true := by
  rw [changeRate_eq]
  rfl

theorem changeRate_ptu (r : Rate) (s : State) : (changeRate r s).ptu =
    (portsBy (fun i p => p.changeRate r (s.cku.changeRate r).clock (ownStanding (s.cku.changeRate r) i)) s.ptu).1 := by
  rw [changeRate_eq]
  rfl

theorem changeRate_lif (r : Rate) (s : State) : (changeRate r s).lif = s.lif := by
  rw [changeRate_eq]
  rfl

theorem presence_changeRate {s : State} (h : PresenceSound s) (r : Rate) : PresenceSound (changeRate r s) := by
  have cku := changeRate_cku r s
  refine presence_of_stays h ⟨by rw [changeRate_lif], ?_, ?_, ?_⟩ ?_ ?_
  · rw [changeRate_stu, clockEvent_playback_state]
    simp only [Stu.changeRate, Playback.changeRate]
    split
    · rename_i running
      simp [running]
    · rfl
  · rw [changeRate_stu, clockEvent_capture_state]
    rfl
  · rw [changeRate_ptu]
    exact portsBy_modes (fun i p => portChangeRate_mode p ..) s.ptu
  · rw [cku]
    exact disqualifyAll_length s.cku
  · rw [cku]
    exact absentStays_changeRate h.2.1 r

theorem presence_configurePort {s : State} (h : PresenceSound s) {i : Nat} (hi : i < 4) (mode : PortMode) (slots : Nat) :
    PresenceSound (configurePort i mode slots s) := by
  obtain ⟨four, seven, idle, gone⟩ := h
  have inside : i < s.ptu.length := by omega
  have source (x : ClockSource) (apart : x ≠ portSource i) (r : Port) :
      (withPorts (s.ptu.set i r) s).present x = s.present x := by
    cases x with
    | port p =>
      have other : i ≠ p.val := by
        rintro rfl
        exact apart (congrArg ClockSource.port (Fin.ext (Nat.mod_eq_of_lt p.isLt).symm))
      simp only [State.present, State.port, withPorts_ptu, List.getD_eq_getElem?_getD, List.getElem?_set_ne other]
    | _ => rfl
  have own (r : Port) : (withPorts (s.ptu.set i r) s).present (portSource i) = (r.mode == .follow) := by
    simp only [portSource, State.present, State.port, withPorts_ptu]
    rw [show (Fin.ofNat 4 i).val = i from Nat.mod_eq_of_lt hi, List.getD_eq_getElem?_getD, List.getElem?_set_self inside]
    rfl
  have was : s.present (portSource i) = ((s.port i).mode == .follow) := by
    simp only [portSource, State.present]
    rw [show (Fin.ofNat 4 i).val = i from Nat.mod_eq_of_lt hi]
  unfold configurePort
  dsimp only
  split
  · rename_i lost
    generalize (if (s.port i).state = .conflict then _ else _ : Port) = r
    generalize (if (s.port i).state = .conflict then _ else _ : List NoticeBody) = ns
    have presence := samePresence_clockChange (s.cku.lose (portSource i)).1 (s.cku.lose (portSource i)).2 [] ns
      (withPorts (s.ptu.set i r) s)
    refine ⟨?_, ?_, fun off => ?_, fun x hx away => ?_⟩
    · rw [← List.length_map (f := Port.mode), presence.modes, List.length_map, withPorts_ptu, List.length_set]
      exact four
    · rw [clockChange_cku]
      exact (keepsTime_lose s.cku _).2.2.trans seven
    · rw [presence.link] at off
      exact ⟨presence.playback.mpr (idle off).1, presence.capture.mpr (idle off).2⟩
    · rw [clockChange_cku]
      rw [presence.present] at away
      by_cases same : x = portSource i
      · rw [same]
        exact lose_absent seven _
      · exact absentStays_lose seven _ x hx (gone x hx (by rwa [source x same] at away))
  · rename_i keeps
    have kept (r : Port) (hr : r.mode = mode) : PresenceSound (withPorts (s.ptu.set i r) s) := by
      refine ⟨by rw [withPorts_ptu, List.length_set]; exact four, seven, idle, fun x hx away => ?_⟩
      by_cases same : x = portSource i
      · subst same
        refine gone _ hx ?_
        rw [own, hr] at away
        rw [was]
        by_contra follow
        cases mode <;> simp_all
      · exact gone x hx (by rwa [source x same] at away)
    refine presence_of_reaches (kept _ ?_) (reaches_notifyAll ..)
    split <;> rfl

theorem handler_presence {c : Instr} {handle : State → Handled} (hc : handlerOf c = some handle) {s : State} (h : PresenceSound s) :
    PresenceSound (handle s).state := by
  have reach := handler_reaches hc s
  cases c <;> cases hc
  case reset => exact presence_of_powerOn h rfl rfl rfl
  case clockSetRate =>
    unfold handleClockSetRate
    split
    · exact h
    · dsimp only [accept]
      split
      · exact h
      · exact presence_changeRate h _
  case clockSetSources =>
    dsimp only
    split
    · unfold handleClockSetSources
      split
      · split
        · exact presence_clockEvent h (keepsTime_setSources ..).2.2 fun x hx _ => absentStays_setSources _ _ _ _ x hx
        · exact h
      · exact h
    · exact h
  case streamConfig =>
    unfold handleStreamConfig
    split
    · rename_i id d _ _
      dsimp only
      split
      · exact h
      · split
        · exact h
        · split
          · exact h
          · refine presence_of_stays h ⟨rfl, ?_, ?_, rfl⟩ rfl (.refl _) <;> cases id <;> rfl
    · exact h
  case streamStart =>
    unfold handleStreamStart
    split
    · exact h
    · rename_i id _
      split
      · exact h
      · rename_i allowed
        simp only [not_or, not_not] at allowed
        obtain ⟨four, seven, idle, gone⟩ := h
        have starts (u : Stu) (runs : u.active = true) : PresenceSound (s.withStu u) := by
          refine ⟨four, seven, fun off => absurd allowed.2 off, fun x hx away => gone x hx ?_⟩
          cases x with
          | link =>
            refine absurd away ?_
            simp [State.present, allowed.2, runs]
          | _ => exact away
        cases id
        · exact presence_of_reaches (starts { s.stu with playback := s.stu.playback.start } rfl) (reaches_notify ..)
        · exact presence_of_reaches (starts { s.stu with capture := s.stu.capture.start s.cku.counter s.cku.clock } (by
            simp [Stu.active, Capture.start])) (reaches_notify ..)
  case streamStop =>
    unfold handleStreamStop
    split
    · exact h
    · rename_i id _
      split
      · exact h
      · refine presence_losePresence (t := s.withStu (s.stu.stopped s.cku.counter id).1) h (fun off => ?_) rfl rfl ..
        cases id
        · exact ⟨rfl, (h.2.2.1 off).2⟩
        · exact ⟨(h.2.2.1 off).1, rfl⟩
  case portConfig =>
    unfold handlePortConfig
    split
    · rename_i i m n hi _ _
      split
      · exact h
      · split
        · exact h
        · exact presence_configurePort h (indexBelow_lt hi) m n
    · exact h
  case portStart =>
    unfold handlePortStart
    split
    · exact h
    · split
      · exact h
      · split
        · exact h
        · exact presence_changePort h fun p => rfl
  case portStop =>
    unfold handlePortStop
    split
    · exact h
    · split
      · exact h
      · exact presence_changePort h fun p => rfl
  case portMute =>
    unfold handlePortMute
    split
    · exact presence_changePort h fun p => rfl
    · exact h
  all_goals
    dsimp only [reachOf] at reach
    exact presence_of_reaches h reach

/-- The playback stream is IDLE after a draw, or a packet, where it was. -/
theorem draw_idle (p : Playback) (counter : Stamp) : (p.draw counter).1.state = .idle ↔ p.state = .idle := by
  unfold Playback.draw
  split
  · rfl
  · rename_i running
    simp only [ne_eq, not_not] at running
    split
    · simp
    · dsimp only
      split
      · simp [running]
      · rfl

theorem packet_idle (p : Playback) (rate : Rate) (counter : Stamp) (bytes : List Byte) :
    (p.packet rate counter bytes).1.state = .idle ↔ p.state = .idle := by
  have kept (n : Nat) (p : Playback) : (p.giveUp n).state = p.state := by
    induction n generalizing p with
    | zero => rfl
    | succ n ih =>
      rw [Playback.giveUp, ih]
      unfold Playback.giveUpOldest
      dsimp only
      split
      · rfl
      · split <;> rfl
  have room (n : Nat) : (p.makeRoom n).state = p.state := kept ..
  have arrives (q : Playback) (n : Nat) : (q.addArrival counter n).state = q.state := by
    unfold Playback.addArrival
    split
    · split <;> rfl
    · rfl
  unfold Playback.packet
  split
  · rfl
  · dsimp only
    split
    · rfl
    · split
      · rfl
      · unfold Playback.append
        dsimp only
        split
        · rename_i primed
          simp only [Bool.and_eq_true, decide_eq_true_eq, arrives, room] at primed
          simp [primed.1]
        · simp [arrives, room]

theorem captureFrame_state (c : Capture) (counter : Stamp) (values : Frame) : (c.frame counter values).1.state = c.state := by
  unfold Capture.frame
  split
  · rfl
  · split <;> rfl

/-! What a studio frame does to the streams and the ports (R113). -/

/-- The frames that the ports give at a studio frame (R87, R88). -/
def portReads (counter : Stamp) (ps : List Port) : List (Port × Frame) := (numbered 0 ps).map (fun (i, p) => p.readFrame i counter)

/-- The values of a studio frame (R113). -/
def frameValues (s : State) : FrameValues :=
  s.rme.evaluate ⟨(s.stu.playback.draw (s.cku.counter + 1)).2.1.getD [], (portReads (s.cku.counter + 1) s.ptu).map Prod.snd⟩

theorem studioFrame_stu (s : State) : (studioFrame s).stu =
    { s.stu with playback := (s.stu.playback.draw (s.cku.counter + 1)).1
                 capture := (s.stu.capture.frame (s.cku.counter + 1) (s.rme.recFrame (frameValues s))).1 } := by
  have shown (t : State) : (handMeterFrames t).stu = t.stu := (reaches_handMeterFrames t).frame .stu (by decide)
  unfold studioFrame
  dsimp only
  split <;> simp only [shown, notifyMerged_eq] <;> rfl

theorem studioFrame_ptu (s : State) : (studioFrame s).ptu =
    (portsBy (fun _ p => p.settleFrame) ((numbered 0 ((portReads (s.cku.counter + 1) s.ptu).map Prod.fst)).map
      (fun (i, p) => p.writeFrame (s.rme.poutFrame (frameValues s) i)))).1 := by
  have shown (t : State) : (handMeterFrames t).ptu = t.ptu := (reaches_handMeterFrames t).frame .ptu (by decide)
  unfold studioFrame
  dsimp only
  split <;> simp only [shown, notifyMerged_eq] <;> rfl

theorem portOps_mode (p : Port) : p.resetDone.1.mode = p.mode ∧ p.settleEnd.1.mode = p.mode ∧ p.settleFrame.1.mode = p.mode ∧
    p.outputFrame.mode = p.mode := by
  refine ⟨?_, ?_, ?_, ?_⟩
  · unfold Port.resetDone
    split <;> rfl
  · unfold Port.settleEnd
    split <;> rfl
  · unfold Port.settleFrame Port.settleEnd
    split
    · split <;> rfl
    · rfl
  · unfold Port.outputFrame
    split
    · rfl
    · split
      · split <;> rfl
      · split <;> rfl

theorem addOver_mode (p : Port) (b : Bool) : (p.addOver b).mode = p.mode := by
  unfold Port.addOver
  split <;> rfl

theorem portFrames_mode (p : Port) : (∀ f, (p.inputFrame f).mode = p.mode) ∧ (∀ v, (p.writeFrame v).mode = p.mode) ∧
    ∀ i counter, (p.readFrame i counter).1.mode = p.mode := by
  refine ⟨fun f => ?_, fun v => ?_, fun i counter => ?_⟩
  · unfold Port.inputFrame
    split
    · exact addOver_mode ..
    · split <;> rfl
  · unfold Port.writeFrame
    dsimp only
    split
    · split
      · exact addOver_mode ..
      · rfl
    · split <;> rfl
  · unfold Port.readFrame
    split
    · split <;> rfl
    · rfl

theorem samePresence_studioFrame (s : State) : SamePresence s (studioFrame s) := by
  refine ⟨(reaches_studioFrame s).frame .link (by decide), ?_, ?_, ?_⟩
  · rw [studioFrame_stu]
    exact draw_idle ..
  · rw [studioFrame_stu, captureFrame_state]
  · rw [studioFrame_ptu, portsBy_modes fun _ p => (portOps_mode p).2.2.1]
    have written (ps : List Port) (values : Nat → Frame) :
        ((numbered 0 ps).map (fun (i, p) => p.writeFrame (values i))).map Port.mode = ps.map Port.mode := by
      rw [List.map_map, show Port.mode ∘ (fun (x : Nat × Port) => x.2.writeFrame (values x.1)) = Port.mode ∘ Prod.snd from
        funext fun x => (portFrames_mode x.2).2.1 _, ← List.map_map, numbered_snd]
    have read (counter : Stamp) (ps : List Port) : ((portReads counter ps).map Prod.fst).map Port.mode = ps.map Port.mode := by
      rw [portReads, List.map_map, List.map_map, show (Port.mode ∘ Prod.fst) ∘ (fun (x : Nat × Port) => x.2.readFrame x.1 counter) =
        Port.mode ∘ Prod.snd from funext fun x => (portFrames_mode x.2).2.2 _ _, ← List.map_map, numbered_snd]
    rw [written, read]

theorem event_presence {c : Instr} (hc : commandOf c = none) (take : c ≠ .takeCommand) {s t : State} (h : PresenceSound s)
    (hx : exec c s = .next t) : PresenceSound t := by
  have reach := event_reaches_of_next hc take hx
  have seven := h.2.1
  have moved {r : Cku × Option ClockReason} (stays : AbsentStays s.cku r.1) (time : KeepsTime s.cku r.1) : PresenceSound (clockEvent r s) :=
    presence_clockEvent h time.2.2 fun x hx _ => stays x hx
  cases c <;> cases hc <;> cases hx
  case takeCommand => exact absurd rfl take
  case powerOn => exact presence_of_powerOn h rfl rfl rfl
  case busPowerConnection =>
    split
    · rename_i off
      exact presence_setLink h (fun _ => h.2.2.1 (by simp [off])) (.inl (by simp [off]))
    · exact h
  case busReset =>
    split
    · exact h
    · exact presence_leaveLink h _
  case disconnection => exact presence_leaveLink h _
  case selectConfiguration value =>
    split
    · split
      · exact presence_of_reaches (presence_leaveLink h .attached) (reaches_answerLink ..)
      · refine presence_of_reaches (presence_setLink h (fun off => absurd rfl off) ?_) (reaches_answerLink ..)
        by_cases is : s.lif.link = .configured
        · exact .inr is.symm
        · exact .inl is
      · exact presence_of_reaches h (reaches_answerLink ..)
    · exact h
  case busIdleSuspend =>
    split
    · exact presence_suspendLink h _
    · exact presence_suspendLink h _
    · exact h
    · exact h
  case resumeSignalling =>
    split
    · rename_i is
      exact presence_setLink h (fun off => absurd rfl off) (.inl (by simp [is]))
    · rename_i is
      exact presence_setLink h (fun _ => h.2.2.1 (by simp [is])) (.inl (by simp [is]))
    all_goals exact h
  case checkPeriodEnd =>
    split
    · exact presence_clockEvent h (keepsTime_periodEnd ..).2.2 fun x hx gone absent =>
        periodEnd_absent seven (mem_externalSources.mp hx) gone absent
    · exact h
  case synthesiserLock => exact moved (moves_lock _).absentStays (moves_lock _).keepsTime
  case synthesiserUnlock => exact moved (absentStays_unlock seven) (keepsTime_unlock _)
  case lockTimerExpiry => exact moved (absentStays_lockTimeout seven) (keepsTime_lockTimeout _)
  case settleTimerExpiry => exact moved (moves_settleTimeout _).absentStays (moves_settleTimeout _).keepsTime
  case holdoverTimerExpiry => exact moved (moves_holdoverTimeout _).absentStays (moves_holdoverTimeout _).keepsTime
  case sourceEdge source =>
    cases source with
    | link =>
      dsimp only [referenceEdge]
      split
      · refine presence_countEdges ?_ ..
        exact presence_of_reaches h (reaches_withReference _ s)
      · exact h
    | internal => exact presence_countEdges h ..
    | wordclock => exact presence_countEdges h ..
    | port p => exact presence_countEdges h ..
  case playbackPacket bytes =>
    split
    · refine presence_of_reaches (presence_of_stays (t := s.withStu { s.stu with
        playback := (s.stu.playback.packet s.cku.rate s.cku.counter bytes).1 }) h ⟨rfl, packet_idle .., .rfl, rfl⟩ rfl (.refl _)) (reaches_notifyAll ..)
    · exact h
  case capturePacketRequest =>
    split
    · exact presence_of_reaches (presence_of_stays (t := s.withStu { s.stu with
        capture := (s.stu.capture.build s.cku.rate s.cku.clock).1 }) h ⟨rfl, .rfl, .rfl, rfl⟩ rfl (.refl _)) (reaches_answerLink ..)
    · exact h
  case serviceIntervalStart =>
    have stored : PresenceSound (s.withStu (s.stu.interval s.cku.counter s.cku.rate)) :=
      presence_of_stays h ⟨rfl, .rfl, .rfl, rfl⟩ rfl (.refl _)
    exact presence_of_reaches (presence_countEdges stored ..) (reaches_withReference _ _)
  case portResetTimerExpiry => exact presence_changePort h fun p => (portOps_mode p).1
  case portSettleCountEnd => exact presence_changePort h fun p => (portOps_mode p).2.1
  case portInputFrameComplete => exact presence_changePort h fun p => (portFrames_mode p).1 _
  case portOutputFrameBegin => exact presence_changePort h fun p => (portOps_mode p).2.2.2
  case overloadLineChange => exact presence_changePort h fun p => rfl
  case evaluateStudioFrame =>
    refine presence_of_reaches (presence_of_stays h (samePresence_studioFrame s) ?_ ?_) (reaches_schedule _)
    · rw [studioFrame_cku]
    · rw [studioFrame_cku]
      exact .refl _
  case surfaceMillisecondTick =>
    exact presence_of_stays h ⟨rfl, .rfl, .rfl, by simp [Function.comp_def]⟩ rfl (.refl _)
  all_goals
    dsimp only [reachOf] at reach
    exact presence_of_reaches h reach

end Sys2Proof.Machine

open Sys2Proof.Machine Sys2Proof.Safety in
/-- Settles O4, row by row: each clock event keeps the law of the Clock Unit, and a source that stops being present is lost at once. -/
theorem clockLawKept : Obligations.ClockLawKept := by
  intro s t hstep
  refine ⟨fun h => ?_, fun h => ?_⟩
  · exact step_law_of_state (Pre := fun s => ClockSound s.cku) (Post := fun s => ClockSound s.cku) (ok := fun _ => True) (fun _ => id)
      (fun _ _ => id) (fun _ _ _ _ => id) (fun _ _ => id) (fun _ _ _ hc h => handler_clockSound hc h)
      (fun _ _ _ hc take _ h hx => event_clockSound hc take h hx) (fun _ _ => trivial) h hstep
  · exact step_law_of_state (Pre := PresenceSound) (Post := PresenceSound) (ok := fun _ => True) (fun _ => id)
      (fun _ _ => id) (fun _ _ _ _ => id) (fun _ _ => id) (fun _ _ _ hc h => handler_presence hc h)
      (fun _ _ _ hc take _ h hx => event_presence hc take h hx) (fun _ _ => trivial) h hstep

end

section
/-! PROOFS. The law of the converter ports (04, sections 4.2, 4.3, 4.5), kept by every step. -/

namespace Sys2Proof.Machine

open Sys2Proof.Safety

/-! ## One port -/

theorem startOk_not_holdDue {p : Port} {clock : ClockState} {own : Standing} (h : p.startOk clock own = true) :
    p.holdDue clock own = false := by
  unfold Port.startOk at h
  unfold Port.holdDue
  cases hm : p.mode <;> simp only [hm] at h ⊢
  · cases clock <;> simp_all
  · cases own <;> simp_all

theorem holdDue_not_startOk {p : Port} {clock : ClockState} {own : Standing} (h : p.holdDue clock own = true) :
    p.startOk clock own = false :=
  Bool.eq_false_iff.mpr fun starts => by simp [startOk_not_holdDue starts] at h

/-- A port's slot count and slip counts are within their ranges. -/
structure PortRanges (rate : Rate) (p : Port) : Prop where
  slots : p.slots ∈ [2, 4, 8, 16]
  fits : p.slots ≤ rate.maxSlots
  below : p.underSlips ≤ 65535
  above : p.overSlips ≤ 65535

section
variable {rate : Rate} {clock : ClockState} {own : Standing} {p : Port}

theorem portRanges_of_sound (h : PortSound rate clock own p) (off : p.state ≠ .off) (conflict : p.state ≠ .conflict) : PortRanges rate p := by
  obtain ⟨slots, fits, -, -, -, -, -, -, -, -, -, below, above⟩ := h
  exact ⟨slots, fits off conflict, below, above⟩

theorem portSound_enterStarting (h : PortRanges rate p) (clock : ClockState) (own : Standing) :
    PortSound rate clock own (p.enterStarting clock own) := by
  obtain ⟨slots, fits, below, above⟩ := h
  have same : (p.enterStarting clock own).startOk clock own = p.startOk clock own := rfl
  refine ⟨slots, fun _ _ => fits, Nat.zero_le _, Nat.zero_le _, fun _ => ⟨rfl, rfl⟩, Nat.zero_le _, by simp [Port.enterStarting], ?_, ?_, nofun,
    nofun, below, above⟩
  · rw [same]
    simp only [Port.enterStarting]
    split <;> simp_all
  · simp only [Port.enterStarting]
    split <;> simp

theorem portSound_enterSettling (h : PortRanges rate p) (starts : p.startOk clock own = true) : PortSound rate clock own p.enterSettling := by
  obtain ⟨slots, fits, below, above⟩ := h
  refine ⟨slots, fun _ _ => fits, ?_, ?_, fun still => ?_, Nat.le_refl _, by simp [Port.enterSettling], by simp [Port.enterSettling],
    Nat.zero_le _, nofun, fun _ => startOk_not_holdDue starts, below, above⟩
  · simp only [Port.enterSettling]
    split <;> simp
  · simp only [Port.enterSettling]
    split <;> simp
  · have drive : p.mode ≠ .follow := fun follow => by simp [Port.retimes, Port.enterSettling, follow] at still
    simp [Port.enterSettling, drive]

theorem portSound_enterStopped (h : PortSound rate clock own p) (rate' : Rate) (clock' : ClockState) (own' : Standing) {st : PortState}
    (stops : st = .off ∨ st = .conflict) : PortSound rate' clock' own' (p.enterStopped st) := by
  obtain ⟨slots, -, -, -, -, -, -, -, -, -, -, below, above⟩ := h
  obtain rfl | rfl := stops
  · exact ⟨slots, fun off => absurd rfl off, Nat.zero_le _, Nat.zero_le _, fun _ => ⟨rfl, rfl⟩, Nat.zero_le _, by simp [Port.enterStopped],
      by simp [Port.enterStopped], Nat.zero_le _, nofun, nofun, below, above⟩
  · exact ⟨slots, fun _ conflict => absurd rfl conflict, Nat.zero_le _, Nat.zero_le _, fun _ => ⟨rfl, rfl⟩, Nat.zero_le _,
      by simp [Port.enterStopped], by simp [Port.enterStopped], Nat.zero_le _, nofun, nofun, below, above⟩

/-- A port that is off or in conflict is sound whatever the clock and its source are. -/
theorem portSound_stopped (h : PortSound rate clock own p) (stops : p.state = .off ∨ p.state = .conflict) (rate' : Rate) (clock' : ClockState)
    (own' : Standing) : PortSound rate' clock' own' p := by
  obtain ⟨slots, -, inB, outB, bufs, settle, settling, timer, short, -, -, below, above⟩ := h
  have still : p.resetTimer.isSome = true ↔ p.state = .starting ∧ p.startOk clock' own' = true := by
    refine ⟨fun runs => ?_, fun starts => ?_⟩
    · obtain is | is := stops <;> simp [(timer.mp runs).1] at is
    · obtain is | is := stops <;> simp [starts.1] at is
  refine ⟨slots, fun off conflict => ?_, inB, outB, bufs, settle, settling, still, short, fun held => ?_, fun runs => ?_, below, above⟩
  · obtain is | is := stops
    · exact absurd is off
    · exact absurd is conflict
  · obtain is | is := stops <;> simp [held] at is
  · obtain is | is := stops <;> simp [is] at runs

/-- The clock or the source has changed: the port reacts (R77, R79). -/
theorem portSound_react (h : PortSound rate clock own p) (clock' : ClockState) (own' : Standing) :
    PortSound rate clock' own' (p.react clock' own').1 := by
  have h' := h
  obtain ⟨slots, fits, inB, outB, bufs, settle, settling, timer, short, held, due, below, above⟩ := h
  unfold Port.react
  split
  · rename_i is
    have calm : p.settle = 0 := by
      have : ¬ 0 < p.settle := fun positive => by simp [settling.mp positive] at is
      omega
    split
    · rename_i starts
      have timed (q : Port) (hq : q = if p.resetTimer.isSome then p else { p with resetTimer := some 1 }) :
          q.resetTimer.isSome = true ∧ q.resetTimer.getD 0 ≤ 1 ∧ q = { p with resetTimer := q.resetTimer } := by
        rw [hq]
        split
        · exact ⟨‹_›, short, rfl⟩
        · exact ⟨rfl, Nat.le_refl _, rfl⟩
      obtain ⟨runs, brief, same⟩ := timed _ rfl
      dsimp only
      generalize (if p.resetTimer.isSome then p else { p with resetTimer := some 1 } : Port) = q at runs brief same
      rw [same]
      exact ⟨slots, fits, inB, outB, bufs, settle, settling, ⟨fun _ => ⟨is, starts⟩, fun _ => runs⟩, brief, fun now => by simp [is] at now,
        fun now => by simp [is] at now, below, above⟩
    · rename_i waits
      exact ⟨slots, fits, inB, outB, bufs, settle, settling, ⟨nofun, fun now => absurd now.2 waits⟩, Nat.zero_le _, fun now => by simp [is] at now,
        fun now => by simp [is] at now, below, above⟩
  all_goals rename_i is
  case h_2 | h_3 =>
    have ranges : PortRanges rate p := portRanges_of_sound h' (by simp [is]) (by simp [is])
    have stopped : p.resetTimer = none := by
      by_contra runs
      simpa [is] using (timer.mp (Option.isSome_iff_ne_none.mpr runs)).1
    split
    · rename_i hold
      refine ⟨slots, fun _ _ => ranges.fits, Nat.zero_le _, Nat.zero_le _, fun _ => ⟨rfl, rfl⟩, Nat.zero_le _, by simp [Port.enterHeld],
        by simp [Port.enterHeld, Port.emptied, stopped], by simp [Port.enterHeld, Port.emptied, stopped],
        fun _ => holdDue_not_startOk hold, nofun, below, above⟩
    · rename_i go
      exact ⟨slots, fits, inB, outB, bufs, settle, settling, by simp [stopped, is], short, fun now => by simp [is] at now,
        fun _ => by simpa using go, below, above⟩
  case h_4 =>
    have ranges : PortRanges rate p := portRanges_of_sound h' (by simp [is]) (by simp [is])
    split
    · exact portSound_enterSettling ranges ‹_›
    · rename_i waits
      refine ⟨slots, fits, inB, outB, bufs, settle, settling, ?_, short, fun _ => by simpa using waits, fun now => by simp [is] at now, below,
        above⟩
      rw [timer]
      simp [is]
  case h_5 => exact portSound_stopped h' (.inl is) ..
  case h_6 => exact portSound_stopped h' (.inr is) ..

theorem portSound_changeRate (h : PortSound rate clock own p) (rate' : Rate) (clock' : ClockState) (own' : Standing) :
    PortSound rate' clock' own' (p.changeRate rate' clock' own').1 := by
  unfold Port.changeRate
  split
  · exact portSound_stopped h (.inl ‹_›) ..
  · exact portSound_stopped h (.inr ‹_›) ..
  · rename_i off conflict
    obtain ⟨slots, -, below, above⟩ := portRanges_of_sound h off conflict
    split
    · rename_i fits
      exact portSound_enterStarting ⟨slots, fits, below, above⟩ ..
    · exact portSound_enterStopped h _ _ _ (.inr rfl)

theorem portSound_resetDone (h : PortSound rate clock own p) : PortSound rate clock own p.resetDone.1 := by
  unfold Port.resetDone
  split
  · rename_i is
    obtain ⟨-, -, -, -, -, -, -, timer, -⟩ := id h
    exact portSound_enterSettling (portRanges_of_sound h (by simp [is.1]) (by simp [is.1])) (timer.mp is.2).2
  · exact h

theorem portSound_settleEnd (h : PortSound rate clock own p) : PortSound rate clock own p.settleEnd.1 := by
  unfold Port.settleEnd
  split
  · rename_i is
    obtain ⟨slots, fits, inB, outB, bufs, settle, settling, timer, short, held, due, below, above⟩ := h
    have stopped : p.resetTimer = none := by
      by_contra runs
      simpa [is] using (timer.mp (Option.isSome_iff_ne_none.mpr runs)).1
    refine ⟨slots, fun _ _ => fits (by simp [is]) (by simp [is]), inB, outB, fun still => bufs ?_, Nat.zero_le _, by simp [Port.enterRunning],
      by simp [Port.enterRunning, stopped], by simp [Port.enterRunning, stopped], nofun, fun _ => due (.inl is), below, above⟩
    simpa [Port.retimes, Port.enterRunning, is] using still
  · exact h

theorem portSound_settleFrame (h : PortSound rate clock own p) : PortSound rate clock own p.settleFrame.1 := by
  unfold Port.settleFrame
  split
  · rename_i is
    split
    · exact portSound_settleEnd h
    · rename_i more
      obtain ⟨slots, fits, inB, outB, bufs, settle, settling, rest⟩ := h
      exact ⟨slots, fits, inB, outB, bufs, (Nat.sub_le ..).trans settle, ⟨fun _ => is, fun _ => by dsimp only; omega⟩, rest⟩
  · exact h

/-- Frames pass through a port: its buffers stay within 8 and its slip counts within their range, and nothing else of its law is
touched. -/
theorem portSound_of_frames {q : Port} (h : PortSound rate clock own p) (mode : q.mode = p.mode) (slots : q.slots = p.slots)
    (state : q.state = p.state) (settle : q.settle = p.settle) (timer : q.resetTimer = p.resetTimer)
    (inBuf : q.inBuf.length ≤ 8) (outBuf : q.outBuf.length ≤ 8) (bufs : p.retimes = false → q.inBuf = [] ∧ q.outBuf = [])
    (below : q.underSlips ≤ 65535) (above : q.overSlips ≤ 65535) : PortSound rate clock own q := by
  have starts : q.startOk clock own = p.startOk clock own := by simp only [Port.startOk, mode]
  have holds : q.holdDue clock own = p.holdDue clock own := by simp only [Port.holdDue, mode]
  have retimes : q.retimes = p.retimes := by simp only [Port.retimes, mode, state]
  obtain ⟨a, b, -, -, -, c, d, e, f, g, i, -, -⟩ := h
  unfold PortSound
  rw [starts, holds, retimes, slots, state, settle, timer]
  exact ⟨a, b, inBuf, outBuf, bufs, c, d, e, f, g, i, below, above⟩

theorem retimePush_length {buf : List Frame} (short : buf.length ≤ 8) (f : Frame) : (retimePush buf f).1.length ≤ 8 := by
  unfold retimePush
  split
  · simp only [List.length_append, List.length_drop, List.length_singleton]
    omega
  · simp only [List.length_append, List.length_singleton]
    omega

theorem saturate16_le (n : Nat) : saturate16 n ≤ 65535 := Nat.min_le_left ..

/-- A retime buffer takes a frame, and an over-slip is counted where it was full (R87). -/
theorem portSound_addOver {q : Port} (h : PortSound rate clock own q) (b : Bool) : PortSound rate clock own (q.addOver b) := by
  unfold Port.addOver
  split
  · obtain ⟨a1, a2, a3, a4, a5, a6, a7, a8, a9, a10, a11, below, -⟩ := h
    exact ⟨a1, a2, a3, a4, a5, a6, a7, a8, a9, a10, a11, below, saturate16_le _⟩
  · exact h

theorem portSound_inputFrame (h : PortSound rate clock own p) (f : Frame) : PortSound rate clock own (p.inputFrame f) := by
  obtain ⟨-, -, inB, outB, bufs, -, -, -, -, -, -, below, above⟩ := id h
  unfold Port.inputFrame
  split
  · rename_i retimes
    exact portSound_addOver (portSound_of_frames (q := { p with inBuf := (retimePush p.inBuf f).1 }) h rfl rfl rfl rfl rfl
      (retimePush_length inB f) outB (fun still => by simp [retimes] at still) below above) _
  · split
    · exact portSound_of_frames h rfl rfl rfl rfl rfl inB outB bufs below above
    · exact h

theorem portSound_outputFrame (h : PortSound rate clock own p) : PortSound rate clock own p.outputFrame := by
  obtain ⟨-, -, inB, outB, bufs, -, -, -, -, -, -, below, above⟩ := id h
  unfold Port.outputFrame
  split
  · exact h
  · split
    · rename_i retimes
      split
      · rename_i f rest ob
        exact portSound_of_frames h rfl rfl rfl rfl rfl inB (by rw [ob, List.length_cons] at outB; dsimp only; omega)
          (fun still => by simp [retimes] at still) below above
      · exact portSound_of_frames h rfl rfl rfl rfl rfl inB outB (fun still => by simp [retimes] at still) (saturate16_le _) above
    · split
      · exact portSound_of_frames h rfl rfl rfl rfl rfl inB outB bufs below above
      · exact portSound_of_frames h rfl rfl rfl rfl rfl inB outB bufs below above

theorem portSound_readFrame (h : PortSound rate clock own p) (i : Nat) (counter : Stamp) :
    PortSound rate clock own (p.readFrame i counter).1 := by
  obtain ⟨-, -, inB, outB, bufs, -, -, -, -, -, -, below, above⟩ := id h
  unfold Port.readFrame
  split
  · rename_i retimes
    split
    · rename_i f rest ib
      exact portSound_of_frames h rfl rfl rfl rfl rfl (by rw [ib, List.length_cons] at inB; dsimp only; omega) outB
        (fun still => by simp [retimes] at still) below above
    · exact portSound_of_frames h rfl rfl rfl rfl rfl inB outB (fun still => by simp [retimes] at still) (saturate16_le _) above
  · exact h

theorem portSound_writeFrame (h : PortSound rate clock own p) (values : Frame) : PortSound rate clock own (p.writeFrame values) := by
  obtain ⟨-, -, inB, outB, bufs, -, -, -, -, -, -, below, above⟩ := id h
  unfold Port.writeFrame
  dsimp only
  split
  · split
    · rename_i retimes
      exact portSound_addOver (portSound_of_frames (q := { p with outBuf := (retimePush p.outBuf _).1 }) h rfl rfl rfl rfl rfl inB
        (retimePush_length outB _) (fun still => by simp [retimes] at still) below above) _
    · exact h
  · split <;> exact portSound_of_frames h rfl rfl rfl rfl rfl inB outB bufs below above

end

/-! ## The four ports -/

/-- The ports stand as the Clock Unit says. -/
def PortsFit (c : Cku) (ps : List Port) : Prop :=
  ps.length = 4 ∧ ∀ i p, ps[i]? = some p → PortSound c.rate c.clock (ownStanding c i) p

/-- The ports as the clock says, and each overload line as its port hands it over (R89). -/
structure PortsLaw (s : State) : Prop where
  fit : PortsFit s.cku s.ptu
  overload : s.rme.overload = s.ptu.map Port.handsOverload

theorem portsLaw_iff {s : State} : PortsLaw s ↔ PortsSound s := by
  constructor
  · rintro ⟨⟨four, each⟩, overload⟩
    refine ⟨four, fun i hi => each i _ ?_, overload⟩
    rw [State.port, List.getD_eq_getElem _ _ (by omega), List.getElem?_eq_getElem]
  · rintro ⟨four, each, overload⟩
    refine ⟨⟨four, fun i p there => ?_⟩, overload⟩
    obtain ⟨inside, rfl⟩ := List.getElem?_eq_some_iff.mp there
    have sound := each i (by omega)
    rwa [State.port, List.getD_eq_getElem _ _ inside] at sound

theorem map_numbered_getElem? (f : Nat → α → β) (xs : List α) (i : Nat) :
    ((numbered 0 xs).map (fun (i, x) => f i x))[i]? = xs[i]?.map (f i) := by
  have there (n : Nat) : (numbered n xs)[i]? = xs[i]?.map (fun x => (n + i, x)) := by
    induction xs generalizing n i with
    | nil => rfl
    | cons x rest ih =>
      cases i with
      | zero => rfl
      | succ i =>
        rw [numbered, List.getElem?_cons_succ, List.getElem?_cons_succ, ih]
        simp [Nat.add_assoc, Nat.add_comm 1]
  rw [List.getElem?_map, there, Option.map_map]
  simp [Function.comp_def]

theorem portsBy_getElem? (op : Nat → Port → Port × Option PortReason) (ps : List Port) (i : Nat) :
    (portsBy op ps).1[i]? = ps[i]?.map (fun p => (op i p).1) := map_numbered_getElem? (fun i p => (op i p).1) ps i

theorem portsFit_map {c d : Cku} {ps : List Port} (h : PortsFit c ps) {f : Nat → Port → Port}
    (each : ∀ i p, PortSound c.rate c.clock (ownStanding c i) p → PortSound d.rate d.clock (ownStanding d i) (f i p)) :
    PortsFit d ((numbered 0 ps).map (fun (i, p) => f i p)) := by
  refine ⟨by simpa using h.1, fun i p there => ?_⟩
  rw [map_numbered_getElem?, Option.map_eq_some_iff] at there
  obtain ⟨q, old, rfl⟩ := there
  exact each i q (h.2 i q old)

theorem portsFit_portsBy {c d : Cku} {ps : List Port} (h : PortsFit c ps) {op : Nat → Port → Port × Option PortReason}
    (each : ∀ i p, PortSound c.rate c.clock (ownStanding c i) p → PortSound d.rate d.clock (ownStanding d i) (op i p).1) :
    PortsFit d (portsBy op ps).1 :=
  portsFit_map (f := fun i p => (op i p).1) h each

/-- Each port reacts to the clock as it is after an event (R76). -/
theorem portsFit_clockChange {c d : Cku} {ps : List Port} (h : PortsFit c ps) (rate : d.rate = c.rate) :
    PortsFit d (portsBy (portAtClock c d) ps).1 := by
  refine portsFit_portsBy h fun i p sound => ?_
  unfold portAtClock
  split
  · rename_i same
    rw [rate, ← same.1, ← same.2]
    exact sound
  · rw [rate]
    exact portSound_react sound ..

section
variable {s t : State}

theorem portsLaw_of_reaches {ps : List Part} (h : PortsLaw s) (r : Reaches ps s t) (cku : Part.cku ∉ ps := by decide)
    (ptu : Part.ptu ∉ ps := by decide) (rme : Part.rme ∉ ps := by decide) : PortsLaw t := by
  have c : t.cku = s.cku := r.frame .cku cku
  have p : t.ptu = s.ptu := r.frame .ptu ptu
  have m : t.rme = s.rme := r.frame .rme rme
  exact ⟨by rw [c, p]; exact h.fit, by rw [m, p]; exact h.overload⟩

/-- Rows of the surface and the engine reach neither the ports nor the overload lines. -/
theorem portsLaw_of_levels {ps : List Part} (h : PortsLaw s) (r : Reaches ps s t) (levels : OnlyLevels s.rme t.rme)
    (cku : Part.cku ∉ ps := by decide) (ptu : Part.ptu ∉ ps := by decide) : PortsLaw t := by
  have c : t.cku = s.cku := r.frame .cku cku
  have p : t.ptu = s.ptu := r.frame .ptu ptu
  exact ⟨by rw [c, p]; exact h.fit, by rw [levels.overload, p]; exact h.overload⟩

/-- The clock's counter, its timers and its edge counts are nothing to a port. -/
theorem portsFit_congr {c d : Cku} {ps : List Port} (h : PortsFit c ps) (rate : d.rate = c.rate) (clock : d.clock = c.clock)
    (own : ∀ i, ownStanding d i = ownStanding c i) : PortsFit d ps := by
  refine ⟨h.1, fun i p there => ?_⟩
  rw [rate, clock, own]
  exact h.2 i p there

theorem portsLaw_withPorts (h : PortsFit s.cku ps) : PortsLaw (withPorts ps s) := ⟨h, rfl⟩

theorem portsLaw_clockChange {after : Cku} (h : PortsFit s.cku s.ptu) (rate : after.rate = s.cku.rate) (reason : Option ClockReason)
    (stu ptu : List NoticeBody) : PortsLaw (clockChange after reason stu ptu s) := by
  rw [clockChange_eq]
  exact ⟨portsFit_clockChange h rate, rfl⟩

theorem portsLaw_clockEvent (h : PortsLaw s) {r : Cku × Option ClockReason} (rate : r.1.rate = s.cku.rate) : PortsLaw (clockEvent r s) := by
  obtain ⟨-, -, same⟩ | ⟨-, same⟩ := clockEvent_cases r s <;> rw [same]
  · exact h
  · exact portsLaw_clockChange h.fit rate ..

theorem portsLaw_losePresence (h : PortsLaw s) (x : ClockSource) (was : Bool) (stu ptu : List NoticeBody) :
    PortsLaw (losePresence x was stu ptu s) := by
  obtain ⟨-, -, same⟩ | ⟨-, same⟩ := losePresence_cases x was stu ptu s <;> rw [same]
  · exact portsLaw_clockChange h.fit (keepsTime_lose ..).1 ..
  · exact portsLaw_of_reaches h (reaches_notifyAll ..)

theorem portsFit_set (h : PortsFit c ps) {i : Nat} {p : Port} (sound : i < 4 → PortSound c.rate c.clock (ownStanding c i) p) :
    PortsFit c (ps.set i p) := by
  refine ⟨by simpa using h.1, fun n q there => ?_⟩
  rw [List.getElem?_set] at there
  split at there
  · rename_i same
    subst same
    split at there
    · rename_i inside
      cases there
      exact sound (h.1 ▸ inside)
    · cases there
  · exact h.2 n q there

theorem portsLaw_changePort (h : PortsLaw s) {i : Nat} {op : Port → Port × Option PortReason}
    (sound : i < 4 → PortSound s.cku.rate s.cku.clock (ownStanding s.cku i) (s.port i) →
      PortSound s.cku.rate s.cku.clock (ownStanding s.cku i) (op (s.port i)).1) : PortsLaw (changePort i op s) := by
  rw [changePort_eq]
  refine ⟨portsFit_set h.fit fun hi => sound hi ?_, rfl⟩
  exact (portsLaw_iff.mp h).2.1 i hi

theorem portsLaw_leaveLink (h : PortsLaw s) (l : LinkState) : PortsLaw (leaveLink l s) := by
  have streams : PortsLaw ((setLink l s).withStu (s.stu.linkReset s.cku.counter)) := ⟨h.fit, h.overload⟩
  have reset : PortsLaw (linkReset l s) := by
    unfold linkReset
    dsimp only
    split
    · exact portsLaw_losePresence (portsLaw_of_reaches streams (reaches_emptyRecords _)) ..
    · exact portsLaw_of_reaches (portsLaw_losePresence streams ..) (reaches_emptyRecords _)
  unfold leaveLink
  split
  · exact reset
  · exact reset
  all_goals exact portsLaw_of_reaches h (reaches_setLink l s)

theorem portsLaw_suspendLink (h : PortsLaw s) (b : Bool) : PortsLaw (suspendLink b s) := by
  refine portsLaw_losePresence ?_ ..
  exact ⟨h.fit, h.overload⟩

theorem portsLaw_countEdges (h : PortsLaw s) (x : ClockSource) (n : Nat) : PortsLaw (countEdges x n s) := by
  unfold countEdges
  split
  · refine ⟨portsFit_congr h.fit rfl rfl fun i => ?_, h.overload⟩
    simp only [ownStanding, State.withCku_cku, Cku.countEdges, Cku.putRec, Cku.record, List.getD_eq_getElem?_getD, List.getElem?_set]
    split
    · rename_i same
      rw [same]
      split
      · rename_i inside
        rw [List.getElem?_eq_getElem (same ▸ inside)]
        rfl
      · rename_i out
        rw [List.getElem?_eq_none (by omega)]
    · rfl
  · exact h

/-- R81: only a port that is off or in conflict is configured, within the rate's slots. -/
theorem portsLaw_configurePort (h : PortsLaw s) {i : Nat} {mode : PortMode} {slots : Nat}
    (stopped : (s.port i).state = .off ∨ (s.port i).state = .conflict) (size : slots ∈ [2, 4, 8, 16]) (fits : slots ≤ s.cku.rate.maxSlots) :
    PortsLaw (configurePort i mode slots s) := by
  have configured {c : Cku} (clock : ClockState) (own : Standing) (sound : PortSound s.cku.rate s.cku.clock (ownStanding s.cku i) (s.port i)) :
      PortSound s.cku.rate clock own (if (s.port i).state = .conflict
        then { s.port i with mode := mode, slots := slots }.enterStarting clock own
        else { s.port i with mode := mode, slots := slots }) := by
    obtain ⟨-, -, inB, outB, bufs, settle, settling, timer, short, held, due, below, above⟩ := id sound
    split
    · exact portSound_enterStarting (p := { s.port i with mode := mode, slots := slots }) (rate := s.cku.rate) ⟨size, fits, below, above⟩ ..
    · rename_i off
      have off : (s.port i).state = .off := stopped.resolve_right off
      have empty := bufs (by simp [Port.retimes, off])
      have still : (s.port i).resetTimer = none := by
        by_contra runs
        simpa [off] using (timer.mp (Option.isSome_iff_ne_none.mpr runs)).1
      exact ⟨size, fun _ _ => fits, inB, outB, fun _ => empty, settle, settling, by simp [still, off], short, fun now => by simp [off] at now,
        fun now => by simp [off] at now, below, above⟩
  have old (hi : i < 4) := (portsLaw_iff.mp h).2.1 i hi
  unfold configurePort
  dsimp only
  split
  · rename_i lost
    rw [clockChange_eq]
    have rate := (keepsTime_lose s.cku (portSource i)).1
    refine ⟨⟨by simp [h.fit.1], fun n q there => ?_⟩, rfl⟩
    simp only [withPorts, State.withFresh_ptu, State.withMsu_ptu, State.withRme_ptu, State.withPtu_ptu, State.withPtu_cku, State.withRme_cku,
      State.withFresh_cku, State.withMsu_cku, State.withCku_cku, State.withStu_cku] at there ⊢
    rw [portsBy_getElem?, Option.map_eq_some_iff] at there
    obtain ⟨p, old', rfl⟩ := there
    rw [List.getElem?_set] at old'
    have reacts (own : Standing) (clock : ClockState) {p : Port} (sound : PortSound s.cku.rate clock own p)
        (same : s.cku.clock = (s.cku.lose (portSource i)).1.clock ∧ ownStanding s.cku n = ownStanding (s.cku.lose (portSource i)).1 n →
          PortSound s.cku.rate (s.cku.lose (portSource i)).1.clock (ownStanding (s.cku.lose (portSource i)).1 n) p) :
        PortSound (s.cku.lose (portSource i)).1.rate (s.cku.lose (portSource i)).1.clock (ownStanding (s.cku.lose (portSource i)).1 n)
          (portAtClock s.cku (s.cku.lose (portSource i)).1 n p).1 := by
      rw [rate]
      unfold portAtClock
      split
      · exact same ‹_›
      · exact portSound_react sound ..
    split at old'
    · rename_i same
      subst same
      split at old'
      · rename_i inside
        cases old'
        have sound := configured (c := s.cku) (s.cku.lose (portSource i)).1.clock (ownStanding (s.cku.lose (portSource i)).1 i)
          (old (by have := h.fit.1; omega))
        exact reacts _ _ sound fun _ => sound
      · cases old'
    · have sound := h.fit.2 n p old'
      refine reacts _ _ sound fun same => ?_
      rw [← same.1, ← same.2]
      exact sound
  · refine portsLaw_of_reaches ?_ (reaches_notifyAll ..)
    exact portsLaw_withPorts (portsFit_set h.fit fun hi => configured (c := s.cku) _ _ (old hi))

theorem portsLaw_changeRate (h : PortsLaw s) (r : Rate) : PortsLaw (changeRate r s) := by
  rw [changeRate_eq]
  exact ⟨portsFit_portsBy (d := s.cku.changeRate r) h.fit fun i p sound => portSound_changeRate sound r _ _, rfl⟩

theorem portsLaw_studioFrame (h : PortsLaw s) : PortsLaw (studioFrame s) := by
  have overload : (studioFrame s).rme.overload = (studioFrame s).ptu.map Port.handsOverload := by
    have shown (t : State) : (handMeterFrames t).rme = t.rme ∧ (handMeterFrames t).ptu = t.ptu :=
      ⟨(reaches_handMeterFrames t).frame .rme (by decide), (reaches_handMeterFrames t).frame .ptu (by decide)⟩
    unfold studioFrame
    dsimp only
    split <;> simp only [(shown _).1, (shown _).2, notifyMerged_eq] <;> rfl
  refine ⟨?_, overload⟩
  rw [studioFrame_cku, studioFrame_ptu]
  refine portsFit_congr (c := s.cku) ?_ rfl rfl fun _ => rfl
  refine portsFit_portsBy ?_ fun i p sound => portSound_settleFrame sound
  refine portsFit_map (f := fun i p => p.writeFrame (s.rme.poutFrame (frameValues s) i)) ?_ fun i p sound => portSound_writeFrame sound _
  rw [portReads, List.map_map]
  exact portsFit_map (f := fun i p => (p.readFrame i (s.cku.counter + 1)).1) h.fit fun i p sound => portSound_readFrame sound i _

theorem portsLaw_of_powerOn (h : PortsLaw s) (rme : t.rme = Rme.powerOn)
    (ptu : t.ptu = s.ptu.map (fun p => Port.powerOn p.overload)) : PortsLaw t := by
  refine ⟨⟨by rw [ptu, List.length_map]; exact h.fit.1, fun i p there => ?_⟩, ?_⟩
  · rw [ptu, List.getElem?_map, Option.map_eq_some_iff] at there
    obtain ⟨q, -, rfl⟩ := there
    exact ⟨by simp [Port.powerOn], fun off => absurd rfl off, Nat.zero_le _, Nat.zero_le _, fun _ => ⟨rfl, rfl⟩, Nat.zero_le _, by simp [Port.powerOn],
      by simp [Port.powerOn], Nat.zero_le _, nofun, nofun, Nat.zero_le _, Nat.zero_le _⟩
  · rw [rme, ptu, List.map_map]
    have off : Port.handsOverload ∘ (fun p : Port => Port.powerOn p.overload) = fun _ => false := funext fun p => rfl
    rw [off, List.map_const']
    rw [h.fit.1]
    rfl

end

/-! ## The rows -/

theorem handler_portsLaw {c : Instr} {handle : State → Handled} (hc : handlerOf c = some handle) {s : State} (h : PortsLaw s) :
    PortsLaw (handle s).state := by
  have reach := handler_reaches hc s
  have levels : changesEngine c = false → OnlyLevels s.rme (handle s).state.rme := fun leaves => handler_onlyLevels hc leaves s
  cases c <;> cases hc
  case reset => exact portsLaw_of_powerOn h rfl rfl
  case clockSetRate =>
    unfold handleClockSetRate
    split
    · exact h
    · dsimp only [accept]
      split
      · exact h
      · exact portsLaw_changeRate h _
  case clockSetSources =>
    dsimp only
    split
    · unfold handleClockSetSources
      split
      · split
        · exact portsLaw_clockEvent h (keepsTime_setSources ..).1
        · exact h
      · exact h
    · exact h
  case streamStop =>
    unfold handleStreamStop
    split
    · exact h
    · split
      · exact h
      · refine portsLaw_losePresence ?_ ..
        exact ⟨h.fit, h.overload⟩
  case portConfig =>
    unfold handlePortConfig
    split
    · rename_i i m n hi _ hn
      split
      · exact h
      · rename_i stopped
        split
        · exact h
        · rename_i fits
          refine portsLaw_configurePort h ?_ ?_ (Nat.le_of_not_lt fits)
          · by_contra neither
            exact stopped ⟨fun off => neither (.inl off), fun conflict => neither (.inr conflict)⟩
          · unfold slotsOf at hn
            split at hn <;> simp_all
    · exact h
  case portStart =>
    unfold handlePortStart
    split
    · exact h
    · split
      · exact h
      · split
        · exact h
        · rename_i fits
          dsimp only [accept]
          refine portsLaw_changePort h fun _ sound => ?_
          obtain ⟨size, -⟩ := sound
          exact portSound_enterStarting (p := { s.port _ with underSlips := 0, overSlips := 0 }) (rate := s.cku.rate)
            ⟨size, Nat.le_of_not_lt fits, Nat.zero_le _, Nat.zero_le _⟩ ..
  case portStop =>
    unfold handlePortStop
    split
    · exact h
    · split
      · exact h
      · dsimp only [accept]
        exact portsLaw_changePort h fun _ sound => portSound_enterStopped sound _ _ _ (.inl rfl)
  case portMute =>
    unfold handlePortMute
    split
    · dsimp only [accept]
      exact portsLaw_changePort h fun _ sound => sound
    · exact h
  case rampSet =>
    unfold handleRampSet
    split <;> exact ⟨h.fit, h.overload⟩
  case meterAssign =>
    unfold handleMeterAssign
    split
    · split <;> exact ⟨h.fit, h.overload⟩
    · exact h
  case meterRead =>
    unfold handleMeterRead
    dsimp only
    split
    · exact h
    · split <;> exact ⟨h.fit, h.overload⟩
  case meterSubscribe => exact ⟨h.fit, h.overload⟩
  all_goals
    dsimp only [reachOf] at reach
    exact portsLaw_of_levels h reach (levels rfl)

theorem event_portsLaw {c : Instr} (hc : commandOf c = none) (take : c ≠ .takeCommand) {s t : State} (h : PortsLaw s)
    (hx : exec c s = .next t) : PortsLaw t := by
  have reach := event_reaches_of_next hc take hx
  have levels : changesEngine c = false → OnlyLevels s.rme t.rme := fun leaves => event_onlyLevels hc take leaves hx
  cases c <;> cases hc <;> cases hx
  case takeCommand => exact absurd rfl take
  case powerOn => exact portsLaw_of_powerOn h rfl rfl
  case busReset =>
    split
    · exact h
    · exact portsLaw_leaveLink h _
  case disconnection => exact portsLaw_leaveLink h _
  case selectConfiguration value =>
    split
    · split
      · exact portsLaw_of_reaches (portsLaw_leaveLink h .attached) (reaches_answerLink ..)
      · exact ⟨h.fit, h.overload⟩
      · exact ⟨h.fit, h.overload⟩
    · exact h
  case busIdleSuspend =>
    split
    · exact portsLaw_suspendLink h _
    · exact portsLaw_suspendLink h _
    · exact h
    · exact h
  case checkPeriodEnd =>
    split
    · exact portsLaw_clockEvent h (keepsTime_periodEnd ..).1
    · exact h
  case synthesiserLock => exact portsLaw_clockEvent h (moves_lock _).keepsTime.1
  case synthesiserUnlock => exact portsLaw_clockEvent h (keepsTime_unlock _).1
  case lockTimerExpiry => exact portsLaw_clockEvent h (keepsTime_lockTimeout _).1
  case settleTimerExpiry => exact portsLaw_clockEvent h (moves_settleTimeout _).keepsTime.1
  case holdoverTimerExpiry => exact portsLaw_clockEvent h (moves_holdoverTimeout _).keepsTime.1
  case sourceEdge source =>
    cases source with
    | link =>
      dsimp only [referenceEdge]
      split
      · exact portsLaw_countEdges (portsLaw_of_reaches h (reaches_withReference _ s)) ..
      · exact h
    | internal => exact portsLaw_countEdges h ..
    | wordclock => exact portsLaw_countEdges h ..
    | port p => exact portsLaw_countEdges h ..
  case serviceIntervalStart =>
    exact portsLaw_of_reaches (portsLaw_countEdges (portsLaw_of_reaches h (reaches_withStu s _)) ..) (reaches_withReference _ _)
  case portResetTimerExpiry => exact portsLaw_changePort h fun _ sound => portSound_resetDone sound
  case portSettleCountEnd => exact portsLaw_changePort h fun _ sound => portSound_settleEnd sound
  case portInputFrameComplete => exact portsLaw_changePort h fun _ sound => portSound_inputFrame sound _
  case portOutputFrameBegin => exact portsLaw_changePort h fun _ sound => portSound_outputFrame sound
  case overloadLineChange => exact portsLaw_changePort h fun _ sound => sound
  case evaluateStudioFrame =>
    have framed := portsLaw_studioFrame h
    exact portsLaw_of_levels framed (reaches_schedule _) (levels_schedule (.refl _))
  case meterPeriodEnd =>
    split
    · exact h
    · have ended : PortsLaw (s.withRme s.rme.periodEnd) := ⟨h.fit, h.overload⟩
      have shown := portsLaw_of_reaches ended ((reaches_notifyAll (s.rme.periodEnd.reportNotices s.cku.counter) _).andThen
        (reaches_handMeterFrames _) (rs := [.records, .sou]))
      exact portsLaw_of_levels shown (reaches_schedule _) (levels_schedule (.refl _))
  case surfaceMillisecondTick =>
    refine ⟨⟨by simpa using h.fit.1, fun i p there => ?_⟩, ?_⟩
    · simp only [State.withPtu_ptu, List.getElem?_map, Option.map_eq_some_iff] at there
      obtain ⟨q, old, rfl⟩ := there
      obtain ⟨size, fits, inB, outB, bufs, settle, settling, timer, short, rest⟩ := h.fit.2 i q old
      refine ⟨size, fits, inB, outB, bufs, settle, settling, ⟨fun on => timer.mp (by simpa using on), fun on => by simpa using timer.mpr on⟩, ?_, rest⟩
      cases ht : q.resetTimer with
      | none => exact Nat.zero_le _
      | some n =>
        rw [ht] at short
        exact (Nat.sub_le n 1).trans short
    · simp only [State.withPtu_rme, State.withCku_rme, State.withSbc_rme, State.withPtu_ptu, List.map_map]
      exact h.overload
  all_goals
    dsimp only [reachOf] at reach
    exact portsLaw_of_levels h reach (levels rfl)

end Sys2Proof.Machine

open Sys2Proof.Machine Sys2Proof.Safety in
/-- Settles O6, row by row: every port reacts to the clock and to its own source, and frames and timers keep its law. -/
theorem portsLawKept : Obligations.PortsLawKept := by
  intro s t h hstep
  exact portsLaw_iff.mp (step_law_of_state (Pre := PortsLaw) (Post := PortsLaw) (ok := fun _ => True) (fun _ => id)
    (fun _ _ h => ⟨h.fit, h.overload⟩) (fun _ _ _ _ h => ⟨h.fit, h.overload⟩) (fun _ _ h => ⟨h.fit, h.overload⟩)
    (fun _ _ _ hc h => handler_portsLaw hc h) (fun _ _ _ hc take _ h hx => event_portsLaw hc take h hx) (fun _ _ => trivial)
    (portsLaw_iff.mpr h) hstep)

end

section
/-! PROOFS. The streams' law (O5): the playback buffer with its arrival list, the capture buffer with its head stamp, the report's
bounds and the link reference. -/

namespace Sys2Proof.Machine

open Safety

/-! ## The playback buffer -/

/-- What the playback stream's law asks apart from the buffer: its configuration, its counts and residences (R48, R53, R56, R68). -/
structure Playback.Settled (rate : Rate) (p : Playback) : Prop where
  depths : p.depth ∈ [16, 32, 64, 128, 256]
  deep : rate.minDepth ≤ p.depth
  least : 1 ≤ p.configured
  most : p.configured ≤ 32
  effective : p.effective = min p.configured rate.maxChannels
  underruns : p.underruns ≤ 65535
  overruns : p.overruns ≤ 65535
  malformed : p.malformed ≤ 65535
  recentres : p.recentres ≤ 65535
  last : p.lastResidence ≤ 4294967295
  longest : p.maxResidence ≤ 4294967295

/-- The unlisted frames and the entries account for the buffer (R56). -/
structure Playback.Accounted (p : Playback) : Prop where
  total : p.unlisted + (p.arrivals.map (fun a => a.count)).sum = p.buffer.length
  entries : p.arrivals.length ≤ 64
  counted : ∀ a ∈ p.arrivals, 1 ≤ a.count

/-- What the playback stream's law asks of the state and the fill (R49, R54, R55, R58). -/
structure Playback.Filled (p : Playback) : Prop where
  fits : p.buffer.length ≤ p.depth
  idle : p.state = .idle → p.buffer = []
  priming : p.state = .priming → p.buffer.length < p.target ∧ p.repeatRun = 0
  running : p.state = .running → p.repeatRun < 16
  frames : p.state ≠ .idle → p.lastFrame.length = p.effective ∧ ∀ f ∈ p.buffer, f.length = p.effective

theorem playbackSound_iff {rate : Rate} {p : Playback} : PlaybackSound rate p ↔ p.Settled rate ∧ p.Accounted ∧ p.Filled := by
  constructor
  · rintro ⟨fits, total, entries, counted, depths, deep, least, most, effective, idle, priming, running, frames, u, o, m, r, last, longest⟩
    exact ⟨⟨depths, deep, least, most, effective, u, o, m, r, last, longest⟩, ⟨total, entries, counted⟩, ⟨fits, idle, priming, running, frames⟩⟩
  · rintro ⟨⟨depths, deep, least, most, effective, u, o, m, r, last, longest⟩, ⟨total, entries, counted⟩, ⟨fits, idle, priming, running, frames⟩⟩
    exact ⟨fits, total, entries, counted, depths, deep, least, most, effective, idle, priming, running, frames, u, o, m, r, last, longest⟩

/-- Only the buffer and its accounting are other than before. -/
def Playback.Refilled (p q : Playback) : Prop := q = { p with buffer := q.buffer, arrivals := q.arrivals, unlisted := q.unlisted }

theorem giveUpOldest_refilled (p : Playback) : p.Refilled p.giveUpOldest := by
  unfold Playback.Refilled Playback.giveUpOldest
  dsimp only
  split
  · rfl
  · split <;> rfl

theorem giveUpOldest_buffer (p : Playback) : p.giveUpOldest.buffer = p.buffer.drop 1 := by
  unfold Playback.giveUpOldest
  dsimp only
  split
  · rfl
  · split <;> rfl

/-- The entry that gives up a frame shrinks by one, or leaves at its last frame (R56). -/
theorem accounted_giveUpOldest {p : Playback} (h : p.Accounted) (some : 0 < p.buffer.length) : p.giveUpOldest.Accounted := by
  obtain ⟨total, entries, counted⟩ := h
  unfold Playback.giveUpOldest
  dsimp only
  split
  · exact ⟨by simp only [List.length_drop]; omega, entries, counted⟩
  · split
    · rename_i none
      simp only [none, List.map_nil, List.sum_nil] at total
      omega
    · rename_i a rest there
      simp only [there, List.map_cons, List.sum_cons, List.length_cons, List.forall_mem_cons] at total entries counted
      split
      · exact ⟨by simp only [List.length_drop]; omega, by dsimp only; omega, counted.2⟩
      · refine ⟨by simp only [List.length_drop, List.map_cons, List.sum_cons]; omega, by simpa using entries, ?_⟩
        exact List.forall_mem_cons.mpr ⟨by dsimp only; omega, counted.2⟩

theorem giveUp_refilled (n : Nat) (p : Playback) : p.Refilled (p.giveUp n) := by
  induction n generalizing p with
  | zero => rfl
  | succ n ih =>
    have rest := ih p.giveUpOldest
    unfold Playback.Refilled at rest ⊢
    rw [Playback.giveUp, rest, giveUpOldest_refilled p]

theorem giveUp_buffer (n : Nat) (p : Playback) : (p.giveUp n).buffer = p.buffer.drop n := by
  induction n generalizing p with
  | zero => rfl
  | succ n ih => rw [Playback.giveUp, ih, giveUpOldest_buffer, List.drop_drop, Nat.add_comm]

theorem accounted_giveUp {p : Playback} (h : p.Accounted) {n : Nat} (enough : n ≤ p.buffer.length) : (p.giveUp n).Accounted := by
  induction n generalizing p with
  | zero => exact h
  | succ n ih =>
    refine ih (accounted_giveUpOldest h (by omega)) ?_
    rw [giveUpOldest_buffer, List.length_drop]
    omega

theorem addArrival_refilled (p : Playback) (counter : Stamp) (n : Nat) : p.Refilled (p.addArrival counter n) := by
  unfold Playback.Refilled Playback.addArrival
  split
  · split <;> rfl
  · rfl

theorem addArrival_buffer (p : Playback) (counter : Stamp) (n : Nat) : (p.addArrival counter n).buffer = p.buffer := by
  unfold Playback.addArrival
  split
  · split <;> rfl
  · rfl

/-- The frames of the new entry, and those of an entry that leaves a full list, stay accounted for (R56). -/
theorem accounted_addArrival {p : Playback} (h : p.Accounted) (counter : Stamp) {frames : List Frame} (some : frames ≠ []) :
    ({ p with buffer := p.buffer ++ frames }.addArrival counter frames.length).Accounted := by
  obtain ⟨total, entries, counted⟩ := h
  have one : 1 ≤ frames.length := List.length_pos_iff.mpr some
  unfold Playback.addArrival
  dsimp only
  split
  · rename_i a rest there
    simp only [there, List.map_cons, List.sum_cons, List.length_cons, List.forall_mem_cons] at total entries counted
    split
    · refine ⟨?_, by simpa using entries, ?_⟩
      · simp only [List.map_append, List.sum_append, List.map_cons, List.map_nil, List.sum_cons, List.sum_nil, List.length_append]
        omega
      · intro b hb
        simp only [List.mem_append, List.mem_singleton] at hb
        obtain old | rfl := hb
        · exact counted.2 b old
        · exact one
    · rename_i room
      refine ⟨?_, ?_, ?_⟩
      · simp only [there, List.map_append, List.sum_append, List.map_cons, List.map_nil, List.sum_cons, List.sum_nil, List.length_append,
          List.cons_append]
        omega
      · simp only [there, List.length_append, List.length_cons, List.length_nil] at room ⊢
        omega
      · intro b hb
        simp only [there, List.mem_append, List.mem_cons, List.not_mem_nil, or_false] at hb
        obtain (rfl | old) | rfl := hb
        · exact counted.1
        · exact counted.2 b old
        · exact one
  · rename_i none
    simp only [none, List.map_nil, List.sum_nil] at total
    refine ⟨?_, by simp, by simpa using one⟩
    simp only [List.map_cons, List.map_nil, List.sum_cons, List.sum_nil, List.length_append]
    omega

/-! ## What playback does -/

section
variable {rate : Rate} {p : Playback}

theorem settled_refilled {q : Playback} (h : p.Settled rate) (same : p.Refilled q) : q.Settled rate := by
  rw [same]
  exact ⟨h.depths, h.deep, h.least, h.most, h.effective, h.underruns, h.overruns, h.malformed, h.recentres, h.last, h.longest⟩

theorem Settled.depth_ge (h : p.Settled rate) : 16 ≤ p.depth := by
  have := h.depths
  simp only [List.mem_cons, List.not_mem_nil, or_false] at this
  omega

/-- An emptied stream keeps its law: IDLE, or PRIMING with no repeats (R49, R50, R68, R70). -/
theorem playbackSound_empty (h : p.Settled rate) (buffer : p.buffer = []) (arrivals : p.arrivals = []) (unlisted : p.unlisted = 0)
    (stopped : p.state = .idle ∨ p.state = .priming ∧ p.repeatRun = 0 ∧ p.lastFrame.length = p.effective) : PlaybackSound rate p := by
  refine playbackSound_iff.mpr ⟨h, ⟨by simp [buffer, arrivals, unlisted], by simp [arrivals], by simp [arrivals]⟩, ?_⟩
  have deep := Settled.depth_ge h
  have target : 0 < p.target := by unfold Playback.target; omega
  obtain idle | ⟨priming, still, last⟩ := stopped
  · exact ⟨by simp [buffer], fun _ => buffer, fun now => by simp [idle] at now, fun now => by simp [idle] at now, fun now => absurd idle now⟩
  · exact ⟨by simp [buffer], fun _ => buffer, fun _ => ⟨by simpa [buffer] using target, still⟩, fun now => by simp [priming] at now,
      fun _ => ⟨last, by simp [buffer]⟩⟩

theorem maxFrames_le_minDepth (r : Rate) : r.maxFrames ≤ r.minDepth := by cases r <;> decide

theorem zeroFrame_length (n : Nat) : (zeroFrame n).length = n := List.length_replicate

theorem framesOf_length (width n : Nat) (xs : List Sample) : (framesOf width n xs).length = n := by
  induction n generalizing xs with
  | zero => rfl
  | succ n ih => rw [framesOf, List.length_cons, ih]

theorem framesOf_width {width n : Nat} {xs : List Sample} (enough : n * width ≤ xs.length) : ∀ f ∈ framesOf width n xs, f.length = width := by
  induction n generalizing xs with
  | zero => simp [framesOf]
  | succ n ih =>
    rw [Nat.succ_mul] at enough
    simp only [framesOf, List.forall_mem_cons]
    refine ⟨by rw [List.length_take]; omega, ih (by rw [List.length_drop]; omega)⟩

theorem samplesOf_length : ∀ bytes : List Byte, (samplesOf bytes).length = bytes.length / 4
  | [] | [_] | [_, _] | [_, _, _] => by simp [samplesOf]
  | _ :: _ :: _ :: _ :: rest => by
    rw [samplesOf, List.length_cons, samplesOf_length rest]
    simp only [List.length_cons]
    omega

/-- A checked packet: room is made, the frames are appended, and a priming stream that reaches its target runs (R55). -/
theorem playbackSound_append (h : PlaybackSound rate p) (counter : Stamp) {frames : List Frame} (some : frames ≠ [])
    (few : frames.length ≤ rate.maxFrames) (on : p.state ≠ .idle) (width : ∀ f ∈ frames, f.length = p.effective) :
    PlaybackSound rate (p.append counter frames).1 := by
  obtain ⟨settled, accounted, filled⟩ := playbackSound_iff.mp h
  have short : frames.length ≤ p.depth := (few.trans (maxFrames_le_minDepth rate)).trans settled.deep
  have fits := filled.fits
  have room := accounted_giveUp accounted (n := p.buffer.length + frames.length - p.depth) (by omega)
  have buffer := giveUp_buffer (p.buffer.length + frames.length - p.depth) p
  have same := giveUp_refilled (p.buffer.length + frames.length - p.depth) p
  unfold Playback.append Playback.makeRoom
  dsimp only
  generalize Playback.giveUp (p.buffer.length + frames.length - p.depth) p = q at room buffer same
  have arrived := accounted_addArrival (p := { q with overruns := saturate16 (q.overruns + (p.buffer.length + frames.length - p.depth)) })
    ⟨room.total, room.entries, room.counted⟩ counter some
  have arrivedBuffer := addArrival_buffer { q with
    overruns := saturate16 (q.overruns + (p.buffer.length + frames.length - p.depth)), buffer := q.buffer ++ frames } counter frames.length
  have arrivedSame := addArrival_refilled { q with
    overruns := saturate16 (q.overruns + (p.buffer.length + frames.length - p.depth)), buffer := q.buffer ++ frames } counter frames.length
  dsimp only at arrived arrivedBuffer arrivedSame
  generalize Playback.addArrival _ counter frames.length = r at arrived arrivedBuffer arrivedSame
  rw [buffer] at arrivedBuffer
  have length : r.buffer.length ≤ p.depth := by
    rw [arrivedBuffer, List.length_append, List.length_drop]
    omega
  rw [same] at arrivedSame
  have settles : r.Settled rate := by
    rw [arrivedSame]
    exact ⟨settled.depths, settled.deep, settled.least, settled.most, settled.effective, settled.underruns, saturate16_le _, settled.malformed,
      settled.recentres, settled.last, settled.longest⟩
  obtain ⟨depth, effective, state, run, last⟩ : r.depth = p.depth ∧ r.effective = p.effective ∧ r.state = p.state ∧
      r.repeatRun = p.repeatRun ∧ r.lastFrame = p.lastFrame := by
    rw [arrivedSame]
    exact ⟨rfl, rfl, rfl, rfl, rfl⟩
  have framed : r.lastFrame.length = r.effective ∧ ∀ f ∈ r.buffer, f.length = r.effective := by
    obtain ⟨lastLength, old⟩ := filled.frames on
    rw [last, effective, arrivedBuffer]
    refine ⟨lastLength, fun f hf => ?_⟩
    obtain mem | mem := List.mem_append.mp hf
    · exact old f (List.mem_of_mem_drop mem)
    · exact width f mem
  split
  · rename_i primed
    simp only [Bool.and_eq_true, decide_eq_true_eq] at primed
    refine playbackSound_iff.mpr ⟨⟨settles.depths, settles.deep, settles.least, settles.most, settles.effective, settles.underruns,
      settles.overruns, settles.malformed, settles.recentres, settles.last, settles.longest⟩, ⟨arrived.total, arrived.entries, arrived.counted⟩,
      ⟨by rw [depth]; exact length, nofun, nofun, fun _ => ?_, fun _ => framed⟩⟩
    show r.repeatRun < 16
    rw [run, (filled.priming (state ▸ primed.1)).2]
    decide
  · rename_i waits
    simp only [Bool.and_eq_true, decide_eq_true_eq, not_and, Nat.not_le] at waits
    refine playbackSound_iff.mpr ⟨settles, arrived, ⟨by rw [depth]; exact length, fun idle => absurd (state ▸ idle) on, fun now => ⟨waits now, ?_⟩,
      fun now => by rw [run]; exact filled.running (state ▸ now), fun _ => framed⟩⟩
    rw [run]
    exact (filled.priming (state ▸ now)).2

theorem playbackSound_packet (h : PlaybackSound rate p) (counter : Stamp) (bytes : List Byte) :
    PlaybackSound rate (p.packet rate counter bytes).1 := by
  unfold Playback.packet
  split
  · exact h
  · rename_i on
    dsimp only
    split
    · obtain ⟨settled, accounted, filled⟩ := playbackSound_iff.mp h
      exact playbackSound_iff.mpr ⟨⟨settled.depths, settled.deep, settled.least, settled.most, settled.effective, settled.underruns,
        settled.overruns, saturate16_le _, settled.recentres, settled.last, settled.longest⟩,
        ⟨accounted.total, accounted.entries, accounted.counted⟩, ⟨filled.fits, filled.idle, filled.priming, filled.running, filled.frames⟩⟩
    · rename_i whole
      simp only [not_or, ne_eq, not_not, Nat.not_lt] at whole
      split
      · exact h
      · rename_i some
        have count := framesOf_length p.effective (bytes.length / (4 * p.effective)) (samplesOf bytes)
        refine playbackSound_append h counter ?_ (by rw [count]; exact whole.2) on (framesOf_width ?_)
        · rw [← List.length_pos_iff, count]
          exact Nat.pos_of_ne_zero some
        · rw [samplesOf_length, Nat.le_div_iff_mul_le (by decide), Nat.mul_assoc, Nat.mul_comm p.effective 4]
          exact Nat.div_mul_le_self ..

/-- The draw of one studio frame: a frame leaves with its accounting, or the last one repeats up to 15 times (R56 to R58). -/
theorem playbackSound_draw (h : PlaybackSound rate p) (counter : Stamp) : PlaybackSound rate (p.draw counter).1 := by
  obtain ⟨settled, accounted, filled⟩ := playbackSound_iff.mp h
  obtain ⟨total, entries, counted⟩ := accounted
  unfold Playback.draw
  split
  · exact h
  · rename_i running
    simp only [ne_eq, not_not] at running
    obtain ⟨last, frames⟩ := filled.frames (by simp [running])
    have fits := filled.fits
    split
    · rename_i f rest there
      simp only [there, List.length_cons, List.forall_mem_cons] at total fits frames
      have less : rest.length ≤ p.depth := by omega
      unfold Playback.account
      split
      · exact playbackSound_iff.mpr ⟨⟨settled.depths, settled.deep, settled.least, settled.most, settled.effective, settled.underruns,
          settled.overruns, settled.malformed, settled.recentres, settled.last, settled.longest⟩, ⟨by dsimp only; omega, entries, counted⟩,
          ⟨less, fun now => by simp [running] at now, fun now => by simp [running] at now, fun _ => by simp, fun _ => frames⟩⟩
      · split
        · rename_i none
          simp only [none, List.map_nil, List.sum_nil] at total
          omega
        · rename_i a others listed
          simp only [listed, List.map_cons, List.sum_cons, List.length_cons, List.forall_mem_cons] at total entries counted
          exact playbackSound_iff.mpr ⟨⟨settled.depths, settled.deep, settled.least, settled.most, settled.effective, settled.underruns,
            settled.overruns, settled.malformed, settled.recentres, Nat.min_le_left .., Nat.max_le.mpr ⟨settled.longest, Nat.min_le_left ..⟩⟩,
            ⟨by dsimp only; omega, by dsimp only; omega, counted.2⟩,
            ⟨less, fun now => by simp [running] at now, fun now => by simp [running] at now, fun _ => by simp, fun _ => frames⟩⟩
    · rename_i none
      have deep := Settled.depth_ge settled
      dsimp only
      split
      · refine playbackSound_iff.mpr ⟨⟨settled.depths, settled.deep, settled.least, settled.most, settled.effective, saturate16_le _,
          settled.overruns, settled.malformed, settled.recentres, settled.last, settled.longest⟩, ⟨total, entries, counted⟩,
          ⟨fits, nofun, fun _ => ⟨?_, rfl⟩, nofun, fun _ => ⟨last, frames⟩⟩⟩
        simp only [none, List.length_nil, Playback.target]
        omega
      · rename_i few
        exact playbackSound_iff.mpr ⟨⟨settled.depths, settled.deep, settled.least, settled.most, settled.effective, saturate16_le _,
          settled.overruns, settled.malformed, settled.recentres, settled.last, settled.longest⟩, ⟨total, entries, counted⟩,
          ⟨fits, fun now => by simp [running] at now, fun now => by simp [running] at now, fun _ => Nat.lt_of_not_le few, fun _ => ⟨last, frames⟩⟩⟩

/-- Recentring fills the buffer up to its target with zero frames, or gives the oldest frames up (R67). -/
theorem playbackSound_recentre (h : PlaybackSound rate p) : PlaybackSound rate p.recentre := by
  obtain ⟨settled, accounted, filled⟩ := playbackSound_iff.mp h
  unfold Playback.recentre
  split
  · exact h
  · rename_i running
    simp only [ne_eq, not_not] at running
    obtain ⟨last, frames⟩ := filled.frames (by simp [running])
    have target : p.target ≤ p.depth := Nat.div_le_self ..
    dsimp only
    split
    · refine playbackSound_iff.mpr ⟨⟨settled.depths, settled.deep, settled.least, settled.most, settled.effective, settled.underruns,
        settled.overruns, settled.malformed, saturate16_le _, settled.last, settled.longest⟩, ⟨?_, accounted.entries, accounted.counted⟩,
        ⟨?_, fun now => by simp [running] at now, fun now => by simp [running] at now, filled.running, fun _ => ⟨last, fun f hf => ?_⟩⟩⟩
      · have total := accounted.total
        simp only [List.length_append, List.length_replicate]
        omega
      · simp only [List.length_append, List.length_replicate]
        omega
      · obtain mem | mem := List.mem_append.mp hf
        · rw [List.eq_of_mem_replicate mem]
          exact zeroFrame_length _
        · exact frames f mem
    · split
      · have given := accounted_giveUp accounted (n := p.buffer.length - p.target) (Nat.sub_le ..)
        have buffer := giveUp_buffer (p.buffer.length - p.target) p
        have same := giveUp_refilled (p.buffer.length - p.target) p
        generalize Playback.giveUp (p.buffer.length - p.target) p = q at given buffer same
        obtain ⟨depth, effective, state, run, lastFrame⟩ : q.depth = p.depth ∧ q.effective = p.effective ∧ q.state = p.state ∧
            q.repeatRun = p.repeatRun ∧ q.lastFrame = p.lastFrame := by
          rw [same]
          exact ⟨rfl, rfl, rfl, rfl, rfl⟩
        have settles := settled_refilled settled same
        refine playbackSound_iff.mpr ⟨⟨settles.depths, settles.deep, settles.least, settles.most, settles.effective, settles.underruns,
          settles.overruns, settles.malformed, saturate16_le _, settles.last, settles.longest⟩, ⟨given.total, given.entries, given.counted⟩,
          ⟨?_, fun now => by simp [state, running] at now, fun now => by simp [state, running] at now,
          fun _ => by rw [run]; exact filled.running running, fun _ => ⟨by rw [lastFrame, effective]; exact last, fun f hf => ?_⟩⟩⟩
        · show q.buffer.length ≤ q.depth
          rw [buffer, depth, List.length_drop]
          exact (Nat.sub_le ..).trans filled.fits
        · rw [effective]
          exact frames f (List.mem_of_mem_drop (buffer ▸ hf))
      · exact h

end

/-! ## The capture buffer -/

section
variable {rate : Rate} {counter : Stamp} {c : Capture}

theorem captureSound_empty {d : Capture} (h : CaptureSound rate counter c) (r : Rate) (n : Stamp) (buffer : d.buffer = [])
    (head : d.headStamp = n + 1) (depths : d.depth ∈ [16, 32, 64, 128, 256]) (deep : r.minDepth ≤ d.depth)
    (configured : d.configured = c.configured) (effective : d.effective = min d.configured r.maxChannels) (on : d.state ≠ .priming)
    (under : d.underruns = 0) (above : d.overruns ≤ 65535) : CaptureSound r n d := by
  obtain ⟨-, -, -, -, least, most, -⟩ := h
  refine ⟨by simp [buffer], ?_, depths, deep, by omega, by omega, effective, on, fun _ => buffer, by simp [buffer], under, above⟩
  rw [buffer, head, List.length_nil, BitVec.ofNat_eq_ofNat, BitVec.add_zero]

/-- One studio frame: the buffer ends with it, and a full one gives up its oldest frame (R60). -/
theorem captureSound_frame (h : CaptureSound rate counter c) {values : Frame} (wide : values.length = 32) :
    CaptureSound rate (counter + 1) (c.frame (counter + 1) values).1 := by
  obtain ⟨fits, head, depths, deep, least, most, effective, on, idle, frames, under, above⟩ := id h
  have width : (values.take c.effective).length = c.effective := by
    rw [List.length_take, wide]
    omega
  have sixteen : 16 ≤ c.depth := by
    simp only [List.mem_cons, List.not_mem_nil, or_false] at depths
    omega
  unfold Capture.frame
  split
  · rename_i stopped
    have empty : c.buffer = [] := by
      cases state : c.state with
      | idle => exact idle state
      | priming => exact absurd state on
      | running => exact absurd state stopped
    exact captureSound_empty h rate _ empty rfl depths deep rfl effective on under above
  · rename_i running
    simp only [ne_eq, not_not] at running
    split
    · rename_i full
      refine ⟨?_, ?_, depths, deep, least, most, effective, on, fun now => by simp [running] at now, fun f hf => ?_, under, saturate16_le _⟩
      · simp only [List.length_append, List.length_drop, List.length_cons, List.length_nil]
        omega
      · have length : (c.buffer.drop 1 ++ [values.take c.effective]).length = c.buffer.length := by
          simp only [List.length_append, List.length_drop, List.length_cons, List.length_nil]
          omega
        dsimp only
        rw [length, ← head, BitVec.add_assoc, BitVec.add_comm 1, ← BitVec.add_assoc]
      · obtain mem | mem := List.mem_append.mp hf
        · exact frames f (List.mem_of_mem_drop mem)
        · rw [List.mem_singleton.mp mem]
          exact width
    · refine ⟨?_, ?_, depths, deep, least, most, effective, on, fun now => by simp [running] at now, fun f hf => ?_, under, above⟩
      · simp only [List.length_append, List.length_cons, List.length_nil]
        omega
      · dsimp only
        rw [List.length_append, List.length_singleton, BitVec.ofNat_add, ← BitVec.add_assoc, head]
        rfl
      · obtain mem | mem := List.mem_append.mp hf
        · exact frames f mem
        · rw [List.mem_singleton.mp mem]
          exact width

/-- A packet takes the oldest frames and moves the head stamp on by as many (R61). -/
theorem captureSound_build (h : CaptureSound rate counter c) (r : Rate) (clock : ClockState) :
    CaptureSound rate counter (c.build r clock).1 := by
  obtain ⟨fits, head, depths, deep, least, most, effective, on, idle, frames, under, above⟩ := h
  refine ⟨?_, ?_, depths, deep, least, most, effective, on, fun now => ?_, fun f hf => frames f (List.mem_of_mem_drop hf), under, above⟩
  · exact (List.drop_sublist ..).length_le.trans fits
  · show c.headStamp + BitVec.ofNat 48 (min c.buffer.length r.maxFrames) +
      BitVec.ofNat 48 (c.buffer.drop (min c.buffer.length r.maxFrames)).length = counter + 1
    rw [BitVec.add_assoc, ← BitVec.ofNat_add, List.length_drop, Nat.add_sub_cancel' (Nat.min_le_left ..), head]
  · show c.buffer.drop _ = []
    rw [idle now, List.drop_nil]

end

/-! ## The Stream Unit -/

/-- The law of the Stream Unit at a rate and a studio frame counter. -/
structure StuSound (rate : Rate) (counter : Stamp) (u : Stu) : Prop where
  playback : PlaybackSound rate u.playback
  capture : CaptureSound rate counter u.capture
  ring : u.ring.length ≤ 128
  report : ReportSound rate u.lastReport

/-- Less than one edge is left over, and an interval has at most 24 edges (R22). -/
structure ReferenceSound (x : LinkReference) : Prop where
  fraction : x.fraction < 8000
  due : x.due ≤ 24

theorem streamsSound_iff {s : State} :
    StreamsSound s ↔ StuSound s.cku.rate s.cku.counter s.stu ∧ ReferenceSound s.lif.reference := by
  constructor
  · rintro ⟨playback, capture, ring, report, fraction, due⟩
    exact ⟨⟨playback, capture, ring, report⟩, ⟨fraction, due⟩⟩
  · rintro ⟨⟨playback, capture, ring, report⟩, ⟨fraction, due⟩⟩
    exact ⟨playback, capture, ring, report, fraction, due⟩

section
variable {rate : Rate} {counter : Stamp} {u : Stu}

theorem stuSound_clockEvent (h : StuSound rate counter u) (before after : ClockState) (raised : Bool) :
    StuSound rate counter (u.clockEvent before after raised) := by
  unfold Stu.clockEvent
  dsimp only
  split <;> split
  · exact ⟨playbackSound_recentre h.playback, h.capture, h.ring, h.report⟩
  · exact ⟨playbackSound_recentre h.playback, h.capture, h.ring, h.report⟩
  · exact ⟨h.playback, h.capture, h.ring, h.report⟩
  · exact h

theorem playbackSound_cleared {p : Playback} (h : PlaybackSound rate p) : PlaybackSound rate { p.cleared with state := .idle } := by
  obtain ⟨settled, -, -⟩ := playbackSound_iff.mp h
  exact playbackSound_empty ⟨settled.depths, settled.deep, settled.least, settled.most, settled.effective, settled.underruns, settled.overruns,
    settled.malformed, settled.recentres, settled.last, settled.longest⟩ rfl rfl rfl (.inl rfl)

theorem stuSound_linkReset (h : StuSound rate counter u) : StuSound rate counter (u.linkReset counter) := by
  obtain ⟨-, -, depths, deep, -, -, effective, -, -, -, under, above⟩ := h.capture
  exact ⟨playbackSound_cleared h.playback,
    captureSound_empty h.capture rate counter rfl rfl depths deep rfl effective nofun under above, Nat.zero_le _, h.report⟩

theorem playbackSound_start {p : Playback} (h : PlaybackSound rate p) : PlaybackSound rate p.start := by
  obtain ⟨settled, -, -⟩ := playbackSound_iff.mp h
  exact playbackSound_empty ⟨settled.depths, settled.deep, settled.least, settled.most, settled.effective, Nat.zero_le _, Nat.zero_le _,
    Nat.zero_le _, Nat.zero_le _, Nat.zero_le _, Nat.zero_le _⟩ rfl rfl rfl (.inr ⟨rfl, rfl, zeroFrame_length _⟩)

theorem captureSound_start {c : Capture} (h : CaptureSound rate counter c) (clock : ClockState) :
    CaptureSound rate counter (c.start counter clock) := by
  obtain ⟨-, -, depths, deep, -, -, effective, -⟩ := id h
  exact captureSound_empty h rate counter rfl rfl depths deep rfl effective nofun rfl (Nat.zero_le _)

theorem stuSound_stopped (h : StuSound rate counter u) (id : StreamId) : StuSound rate counter (u.stopped counter id).1 := by
  cases id with
  | playback =>
    obtain ⟨settled, -, -⟩ := playbackSound_iff.mp h.playback
    exact ⟨playbackSound_empty ⟨settled.depths, settled.deep, settled.least, settled.most, settled.effective, settled.underruns,
      settled.overruns, settled.malformed, settled.recentres, settled.last, settled.longest⟩ rfl rfl rfl (.inl rfl), h.capture, h.ring, h.report⟩
  | capture =>
    obtain ⟨-, -, depths, deep, -, -, effective, -, -, -, under, above⟩ := h.capture
    exact ⟨h.playback, captureSound_empty h.capture rate counter rfl rfl depths deep rfl effective nofun under above, h.ring, h.report⟩

/-- An IDLE stream takes a configuration within the limits of the rate (R48). -/
theorem stuSound_configured (h : StuSound rate counter u) {id : StreamId} {n d : Nat} (idle : u.state id = .idle) (least : 1 ≤ n)
    (most : n ≤ 32) (channels : n ≤ rate.maxChannels) (depths : d ∈ [16, 32, 64, 128, 256]) (deep : rate.minDepth ≤ d) :
    StuSound rate counter (u.configured id n d) := by
  have effective : n = min n rate.maxChannels := (Nat.min_eq_left channels).symm
  cases id with
  | playback =>
    obtain ⟨settled, accounted, filled⟩ := playbackSound_iff.mp h.playback
    have idle : u.playback.state = .idle := idle
    refine ⟨playbackSound_iff.mpr ⟨⟨depths, deep, least, most, effective, settled.underruns, settled.overruns, settled.malformed,
      settled.recentres, settled.last, settled.longest⟩, ⟨accounted.total, accounted.entries, accounted.counted⟩, ⟨?_, filled.idle,
      fun now => by simp [Stu.configured, idle] at now, filled.running, fun on => absurd idle on⟩⟩, h.capture, h.ring, h.report⟩
    show u.playback.buffer.length ≤ d
    rw [filled.idle idle]
    exact Nat.zero_le _
  | capture =>
    obtain ⟨fits, head, -, -, -, -, -, on, empty, -, under, above⟩ := h.capture
    have none := empty idle
    rw [none] at head
    refine ⟨h.playback, ⟨?_, ?_, depths, deep, least, most, effective, on, empty, ?_, under, above⟩, h.ring, h.report⟩
    · show u.capture.buffer.length ≤ d
      rw [none]
      exact Nat.zero_le _
    · show u.capture.headStamp + BitVec.ofNat 48 u.capture.buffer.length = counter + 1
      rw [none]
      exact head
    · show ∀ f ∈ u.capture.buffer, f.length = n
      simp [none]

theorem minDepth_mem (r : Rate) : r.minDepth ∈ [16, 32, 64, 128, 256] := by cases r <;> decide

/-- A change of the studio rate empties both streams under the new limits (R68). -/
theorem stuSound_changeRate (h : StuSound rate counter u) (r : Rate) : StuSound r counter (u.changeRate counter r).1 := by
  obtain ⟨settled, -, -⟩ := playbackSound_iff.mp h.playback
  obtain ⟨-, -, depths, -, -, -, -, on, -, -, under, above⟩ := h.capture
  have wider {d : Nat} (hd : d ∈ [16, 32, 64, 128, 256]) : max d r.minDepth ∈ [16, 32, 64, 128, 256] := by
    obtain max | max := max_choice d r.minDepth <;> rw [max]
    · exact hd
    · exact minDepth_mem r
  refine ⟨playbackSound_empty ⟨wider settled.depths, Nat.le_max_right .., settled.least, settled.most, rfl, settled.underruns, settled.overruns,
      settled.malformed, settled.recentres, settled.last, settled.longest⟩ rfl rfl rfl ?_,
    captureSound_empty h.capture r counter rfl rfl (wider depths) (Nat.le_max_right ..) rfl rfl on under above, Nat.zero_le _, ?_⟩
  · show (if u.playback.state = .running then StreamState.priming else u.playback.state) = .idle ∨
      (if u.playback.state = .running then StreamState.priming else u.playback.state) = .priming ∧ _
    cases u.playback.state with
    | idle => exact .inl rfl
    | priming => exact .inr ⟨rfl, rfl, zeroFrame_length _⟩
    | running => exact .inr ⟨rfl, rfl, zeroFrame_length _⟩
  · exact ⟨Nat.sub_le .., Nat.le_add_right ..⟩

theorem clampReport_bounds (r : Rate) (v : Int) : ReportSound r (clampReport r v) := by
  unfold clampReport
  dsimp only
  omega

theorem stuSound_interval (h : StuSound rate counter u) (n : Stamp) : StuSound rate counter (u.interval n rate) := by
  refine ⟨h.playback, h.capture, ?_, clampReport_bounds ..⟩
  have ring := h.ring
  show ((if 128 ≤ u.ring.length then u.ring.drop 1 else u.ring) ++ [n]).length ≤ 128
  split
  · simp only [List.length_append, List.length_drop, List.length_cons, List.length_nil]
    omega
  · simp only [List.length_append, List.length_cons, List.length_nil]
    omega

end

theorem stuSound_powerOn : StuSound Cku.powerOn.rate Cku.powerOn.counter Stu.powerOn := by
  refine ⟨playbackSound_empty ⟨?_, ?_, ?_, ?_, ?_, ?_, ?_, ?_, ?_, ?_, ?_⟩ rfl rfl rfl (.inl rfl),
    ⟨?_, ?_, ?_, ?_, ?_, ?_, ?_, ?_, ?_, ?_, ?_, ?_⟩, Nat.zero_le _, ?_⟩ <;> decide

/-! ## The rows -/

section
variable {s t : State}

theorem streamsSound_of_reaches {ps : List Part} (h : StreamsSound s) (r : Reaches ps s t) (cku : Part.cku ∉ ps := by decide)
    (stu : Part.stu ∉ ps := by decide) (reference : Part.reference ∉ ps := by decide) : StreamsSound t := by
  have sameCku : t.cku = s.cku := r.frame .cku cku
  have sameStu : t.stu = s.stu := r.frame .stu stu
  have sameReference : t.lif.reference = s.lif.reference := r.frame .reference reference
  rw [streamsSound_iff] at h ⊢
  rw [sameCku, sameStu, sameReference]
  exact h

/-- The streams changed at the same rate and counter. -/
theorem streamsSound_of_stu (h : StreamsSound s) (time : KeepsTime s.cku t.cku) (reference : t.lif.reference = s.lif.reference)
    (stu : StuSound s.cku.rate s.cku.counter t.stu) : StreamsSound t := by
  obtain ⟨rate, counter, -⟩ := time
  rw [streamsSound_iff, rate, counter, reference]
  exact ⟨stu, (streamsSound_iff.mp h).2⟩

theorem streamsSound_clockChange (h : StreamsSound s) {after : Cku} (time : KeepsTime s.cku after) (reason : Option ClockReason)
    (stu ptu : List NoticeBody) : StreamsSound (clockChange after reason stu ptu s) := by
  refine streamsSound_of_stu h (by rw [clockChange_cku]; exact time) (by rw [clockChange_eq]; rfl) ?_
  rw [clockChange_eq]
  exact stuSound_clockEvent (streamsSound_iff.mp h).1 ..

theorem streamsSound_clockEvent (h : StreamsSound s) {r : Cku × Option ClockReason} (time : KeepsTime s.cku r.1) :
    StreamsSound (clockEvent r s) := by
  obtain ⟨-, -, same⟩ | ⟨-, same⟩ := clockEvent_cases r s <;> rw [same]
  · exact h
  · exact streamsSound_clockChange h time ..

theorem streamsSound_losePresence (h : StreamsSound s) (x : ClockSource) (was : Bool) (stu ptu : List NoticeBody) :
    StreamsSound (losePresence x was stu ptu s) := by
  obtain ⟨-, -, same⟩ | ⟨-, same⟩ := losePresence_cases x was stu ptu s <;> rw [same]
  · exact streamsSound_clockChange h (keepsTime_lose ..) ..
  · exact streamsSound_of_reaches h (reaches_notifyAll ..)

theorem streamsSound_linkReset (h : StreamsSound s) (l : LinkState) : StreamsSound ((setLink l s).withStu (s.stu.linkReset s.cku.counter)) :=
  streamsSound_of_stu h ⟨rfl, rfl, rfl⟩ rfl (stuSound_linkReset (streamsSound_iff.mp h).1)

theorem streamsSound_leaveLink (h : StreamsSound s) (l : LinkState) : StreamsSound (leaveLink l s) := by
  have reset : StreamsSound (linkReset l s) := by
    unfold linkReset
    dsimp only
    split
    · refine streamsSound_losePresence ?_ ..
      exact streamsSound_of_reaches (streamsSound_linkReset h l) (reaches_emptyRecords _)
    · exact streamsSound_of_reaches (streamsSound_losePresence (streamsSound_linkReset h l) ..) (reaches_emptyRecords _)
  unfold leaveLink
  split
  · exact reset
  · exact reset
  all_goals exact streamsSound_of_stu h ⟨rfl, rfl, rfl⟩ rfl (streamsSound_iff.mp h).1

theorem countEdges_time (x : ClockSource) (n : Nat) (s : State) : KeepsTime s.cku (countEdges x n s).cku := by
  unfold countEdges
  split
  · exact keepsTime_putRec ..
  · exact ⟨rfl, rfl, rfl⟩

theorem streamsSound_countEdges (h : StreamsSound s) (x : ClockSource) (n : Nat) : StreamsSound (countEdges x n s) := by
  refine streamsSound_of_stu h (countEdges_time ..) ?_ ?_
  · rw [countEdges_eq]
    rfl
  · rw [countEdges_eq]
    exact (streamsSound_iff.mp h).1

theorem streamsSound_configurePort (h : StreamsSound s) (i : Nat) (mode : PortMode) (slots : Nat) : StreamsSound (configurePort i mode slots s) := by
  have placed (ps : List Port) : StreamsSound (withPorts ps s) := streamsSound_of_stu h ⟨rfl, rfl, rfl⟩ rfl (streamsSound_iff.mp h).1
  unfold configurePort
  dsimp only
  split
  · exact streamsSound_clockChange (placed _) (keepsTime_lose ..) ..
  · exact streamsSound_of_reaches (placed _) (reaches_notifyAll ..)

theorem streamsSound_changeRate (h : StreamsSound s) (r : Rate) : StreamsSound (changeRate r s) := by
  obtain ⟨stu, reference⟩ := streamsSound_iff.mp h
  rw [streamsSound_iff, changeRate_cku, changeRate_stu, changeRate_lif]
  exact ⟨stuSound_clockEvent (stuSound_changeRate stu r) .., reference⟩

theorem recFrame_length (m : Rme) (v : FrameValues) : (m.recFrame v).length = 32 := by
  rw [Rme.recFrame, List.length_map, List.length_range]

theorem streamsSound_studioFrame (h : StreamsSound s) : StreamsSound (studioFrame s) := by
  obtain ⟨stu, reference⟩ := streamsSound_iff.mp h
  have same : (studioFrame s).lif.reference = s.lif.reference := (reaches_studioFrame s).frame .reference (by decide)
  rw [streamsSound_iff, studioFrame_cku, studioFrame_stu, same]
  exact ⟨⟨playbackSound_draw stu.playback _, captureSound_frame stu.capture (recFrame_length ..), stu.ring, stu.report⟩, reference⟩

end

theorem depthOf_mem {h : Half} {d : Nat} (is : depthOf h = some d) : d ∈ [16, 32, 64, 128, 256] := by
  unfold depthOf at is
  split at is <;> simp_all

theorem handler_streamsSound {c : Instr} {handle : State → Handled} (hc : handlerOf c = some handle) {s : State} (h : StreamsSound s) :
    StreamsSound (handle s).state := by
  have reach := handler_reaches hc s
  have stu := (streamsSound_iff.mp h).1
  have stored {u : Stu} (sound : StuSound s.cku.rate s.cku.counter u) : StreamsSound (s.withStu u) :=
    streamsSound_of_stu h ⟨rfl, rfl, rfl⟩ rfl sound
  cases c <;> cases hc
  case reset =>
    exact streamsSound_iff.mpr ⟨stuSound_powerOn, (streamsSound_iff.mp h).2⟩
  case clockSetRate =>
    unfold handleClockSetRate
    split
    · exact h
    · dsimp only [accept]
      split
      · exact h
      · exact streamsSound_changeRate h _
  case clockSetSources =>
    dsimp only
    split
    · unfold handleClockSetSources
      split
      · split
        · exact streamsSound_clockEvent h (keepsTime_setSources ..)
        · exact h
      · exact h
    · exact h
  case streamConfig =>
    unfold handleStreamConfig
    split
    · rename_i id d _ depth
      dsimp only
      split
      · exact h
      · rename_i channels
        split
        · exact h
        · rename_i idle
          split
          · exact h
          · rename_i limits
            simp only [ne_eq, not_not] at idle
            exact stored (stuSound_configured stu idle (by omega) (by omega) (by omega) (depthOf_mem depth) (by omega))
    · exact h
  case streamStart =>
    unfold handleStreamStart
    split
    · exact h
    · rename_i id _
      split
      · exact h
      · cases id
        · exact streamsSound_of_reaches (stored (u := { s.stu with playback := s.stu.playback.start })
            ⟨playbackSound_start stu.playback, stu.capture, stu.ring, stu.report⟩) (reaches_notify ..)
        · exact streamsSound_of_reaches (stored (u := { s.stu with capture := s.stu.capture.start s.cku.counter s.cku.clock })
            ⟨stu.playback, captureSound_start stu.capture s.cku.clock, stu.ring, stu.report⟩) (reaches_notify ..)
  case streamStop =>
    unfold handleStreamStop
    split
    · exact h
    · rename_i id _
      split
      · exact h
      · dsimp only [accept]
        exact streamsSound_losePresence (stored (stuSound_stopped stu id)) ..
  case portConfig =>
    unfold handlePortConfig
    split
    · split
      · exact h
      · split
        · exact h
        · exact streamsSound_configurePort h ..
    · exact h
  all_goals
    dsimp only [reachOf] at reach
    exact streamsSound_of_reaches h reach

theorem event_streamsSound {c : Instr} (hc : commandOf c = none) (take : c ≠ .takeCommand) {s t : State} (h : StreamsSound s)
    (hx : exec c s = .next t) : StreamsSound t := by
  have reach := event_reaches_of_next hc take hx
  obtain ⟨stu, reference⟩ := streamsSound_iff.mp h
  have stored {u : Stu} (sound : StuSound s.cku.rate s.cku.counter u) : StreamsSound (s.withStu u) :=
    streamsSound_of_stu h ⟨rfl, rfl, rfl⟩ rfl sound
  have linked (l : LinkState) : StreamsSound (setLink l s) := streamsSound_of_stu h ⟨rfl, rfl, rfl⟩ rfl stu
  cases c <;> cases hc <;> cases hx
  case takeCommand => exact absurd rfl take
  case powerOn => exact streamsSound_iff.mpr ⟨stuSound_powerOn, Nat.zero_lt_succ _, Nat.zero_le _⟩
  case busReset =>
    split
    · exact h
    · exact streamsSound_leaveLink h _
  case disconnection => exact streamsSound_leaveLink h _
  case selectConfiguration value =>
    split
    · split
      · exact streamsSound_of_reaches (streamsSound_leaveLink h .attached) (reaches_answerLink ..)
      · exact streamsSound_of_reaches (linked _) (reaches_answerLink ..)
      · exact streamsSound_of_reaches h (reaches_answerLink ..)
    · exact h
  case busIdleSuspend =>
    split
    · exact streamsSound_losePresence (streamsSound_linkReset h _) ..
    · exact streamsSound_losePresence (streamsSound_linkReset h _) ..
    · exact h
    · exact h
  case checkPeriodEnd =>
    split
    · exact streamsSound_clockEvent h (keepsTime_periodEnd ..)
    · exact h
  case synthesiserLock => exact streamsSound_clockEvent h (moves_lock _).keepsTime
  case synthesiserUnlock => exact streamsSound_clockEvent h (keepsTime_unlock _)
  case lockTimerExpiry => exact streamsSound_clockEvent h (keepsTime_lockTimeout _)
  case settleTimerExpiry => exact streamsSound_clockEvent h (moves_settleTimeout _).keepsTime
  case holdoverTimerExpiry => exact streamsSound_clockEvent h (moves_holdoverTimeout _).keepsTime
  case sourceEdge source =>
    cases source with
    | link =>
      dsimp only [referenceEdge]
      split
      · refine streamsSound_countEdges ?_ ..
        exact streamsSound_iff.mpr ⟨stu, reference.fraction, (Nat.sub_le ..).trans reference.due⟩
      · exact h
    | internal => exact streamsSound_countEdges h ..
    | wordclock => exact streamsSound_countEdges h ..
    | port p => exact streamsSound_countEdges h ..
  case playbackPacket bytes =>
    split
    · exact streamsSound_of_reaches (stored (u := { s.stu with playback := (s.stu.playback.packet s.cku.rate s.cku.counter bytes).1 })
        ⟨playbackSound_packet stu.playback s.cku.counter bytes, stu.capture, stu.ring, stu.report⟩)
        (reaches_notifyAll ..)
    · exact h
  case capturePacketRequest =>
    split
    · exact streamsSound_of_reaches (stored (u := { s.stu with capture := (s.stu.capture.build s.cku.rate s.cku.clock).1 })
        ⟨stu.playback, captureSound_build stu.capture s.cku.rate s.cku.clock, stu.ring, stu.report⟩)
        (reaches_answerLink ..)
    · exact h
  case serviceIntervalStart =>
    have counted := streamsSound_countEdges (stored (stuSound_interval stu s.cku.counter)) .link s.lif.reference.due
    obtain ⟨stu', reference'⟩ := streamsSound_iff.mp counted
    exact streamsSound_iff.mpr ⟨stu', (LinkReference.interval_spec ..).2, LinkReference.interval_due_le _ _ reference'.fraction⟩
  case evaluateStudioFrame => exact streamsSound_of_reaches (streamsSound_studioFrame h) (reaches_schedule _)
  case surfaceMillisecondTick => exact streamsSound_of_stu h ⟨rfl, rfl, rfl⟩ rfl stu
  all_goals
    dsimp only [reachOf] at reach
    exact streamsSound_of_reaches h reach

end Sys2Proof.Machine

open Sys2Proof.Machine Sys2Proof.Safety in
/-- Settles O5, row by row: every operation of the streams keeps their accounting and the head stamp, and the counter moves with a studio
frame alone. -/
theorem streamsLawKept : Obligations.StreamsLawKept := by
  intro s t h hstep
  exact step_law_of_state (Pre := StreamsSound) (Post := StreamsSound) (ok := fun _ => True) (fun _ => id) (fun _ _ => id) (fun _ _ _ _ => id)
    (fun _ _ => id) (fun _ _ _ hc h => handler_streamsSound hc h) (fun _ _ _ hc take _ h hx => event_streamsSound hc take h hx)
    (fun _ _ => trivial) h hstep

end

section
/-! PROOFS. What notices handed over leave in the queue (R10, R11): those that stand alone stay, and are all heard while there is room. -/

namespace Sys2Proof.Machine

open Safety

/-- A notice that no other one coalesces with (R11). -/
def NoticeBody.Alone (b : NoticeBody) : Prop := b.code ∉ [4, 7, 11]

theorem code_of_coalesces {b c : NoticeBody} (h : c.coalesces b = true) : b.code ∈ [4, 7, 11] ∧ c.code ∈ [4, 7, 11] := by
  unfold NoticeBody.coalesces at h
  split at h <;> simp_all [NoticeBody.code]

theorem NoticeBody.Alone.not_coalesces {b : NoticeBody} (alone : b.Alone) (c : NoticeBody) : c.coalesces b = false ∧ b.coalesces c = false :=
  ⟨Bool.eq_false_iff.mpr fun h => alone (code_of_coalesces h).1, Bool.eq_false_iff.mpr fun h => alone (code_of_coalesces h).2⟩

section
variable {m : Msu} {b : NoticeBody}

theorem replaceFirst_mem {test : α → Bool} {f : α → α} {xs : List α} {x : α} (mem : x ∈ xs) (apart : test x = false) :
    x ∈ replaceFirst test f xs := by
  induction xs with
  | nil => cases mem
  | cons y ys ih =>
    unfold replaceFirst
    split
    · rename_i hit
      obtain rfl | mem := List.mem_cons.mp mem
      · simp [apart] at hit
      · exact List.mem_cons_of_mem _ mem
    · obtain rfl | mem := List.mem_cons.mp mem
      · exact List.mem_cons_self
      · exact List.mem_cons_of_mem _ (ih mem)

theorem mem_of_replaceFirst {test : α → Bool} {f : α → α} {xs : List α} {y : α} (mem : y ∈ replaceFirst test f xs) :
    y ∈ xs ∨ ∃ x ∈ xs, test x = true ∧ y = f x := by
  induction xs with
  | nil => cases mem
  | cons z zs ih =>
    unfold replaceFirst at mem
    split at mem
    · rename_i hit
      obtain rfl | mem := List.mem_cons.mp mem
      · exact .inr ⟨z, List.mem_cons_self, hit, rfl⟩
      · exact .inl (List.mem_cons_of_mem _ mem)
    · obtain rfl | mem := List.mem_cons.mp mem
      · exact .inl List.mem_cons_self
      · obtain old | ⟨x, hx, hit, is⟩ := ih mem
        · exact .inl (List.mem_cons_of_mem _ old)
        · exact .inr ⟨x, List.mem_cons_of_mem _ hx, hit, is⟩

theorem replaceFirst_hit {test : α → Bool} {f : α → α} {xs : List α} {x : α} (mem : x ∈ xs) (hit : test x = true) :
    ∃ y ∈ xs, f y ∈ replaceFirst test f xs := by
  induction xs with
  | nil => cases mem
  | cons z zs ih =>
    unfold replaceFirst
    split
    · exact ⟨z, List.mem_cons_self, List.mem_cons_self⟩
    · rename_i miss
      obtain rfl | mem := List.mem_cons.mp mem
      · exact absurd hit miss
      · obtain ⟨y, hy, there⟩ := ih mem
        exact ⟨y, List.mem_cons_of_mem _ hy, List.mem_cons_of_mem _ there⟩

/-- What is in the queue after a notice was in it before, or carries that notice. -/
theorem enqueue_mem {n : Notice} (mem : n ∈ (m.enqueue b).notices) : n ∈ m.notices ∨ n.body = b := by
  obtain ⟨-, h⟩ | ⟨-, -, h⟩ | ⟨-, -, -, h⟩ | ⟨-, -, -, h⟩ := enqueue_cases m b <;> rw [h] at mem
  · exact .inl mem
  · obtain old | ⟨q, -, -, rfl⟩ := mem_of_replaceFirst mem
    · exact .inl old
    · exact .inr rfl
  · exact .inl mem
  · obtain old | new := List.mem_append.mp mem
    · exact .inl old
    · exact .inr (by rw [List.mem_singleton.mp new])

/-- A queued notice stays when the new one does not match it. -/
theorem enqueue_stays {n : Notice} (mem : n ∈ m.notices) (apart : b.coalesces n.body = false) : n ∈ (m.enqueue b).notices := by
  obtain ⟨-, h⟩ | ⟨-, -, h⟩ | ⟨-, -, -, h⟩ | ⟨-, -, -, h⟩ := enqueue_cases m b <;> rw [h]
  · exact mem
  · exact replaceFirst_mem mem apart
  · exact mem
  · exact List.mem_append_left _ mem

theorem enqueue_heard (mask : m.mask = 0) (room : m.notices.length < 64) : ∃ n ∈ (m.enqueue b).notices, n.body = b := by
  obtain ⟨masked, -⟩ | ⟨-, ⟨q, hq, hit⟩, h⟩ | ⟨-, -, full, -⟩ | ⟨-, -, -, h⟩ := enqueue_cases m b
  · simp [Msu.masked, mask] at masked
  · rw [h]
    obtain ⟨p, -, there⟩ := replaceFirst_hit (test := fun q => b.coalesces q.body) (f := fun q : Notice => { q with body := b }) hq hit
    exact ⟨_, there, rfl⟩
  · omega
  · rw [h]
    exact ⟨_, List.mem_append_right _ List.mem_cons_self, rfl⟩

theorem enqueue_length : (m.enqueue b).notices.length ≤ m.notices.length + 1 := by
  obtain ⟨-, h⟩ | ⟨-, -, h⟩ | ⟨-, -, -, h⟩ | ⟨-, -, -, h⟩ := enqueue_cases m b <;> rw [h]
  · omega
  · simp only [replaceFirst_length]
    omega
  · dsimp only
    omega
  · simp only [List.length_append, List.length_cons, List.length_nil]
    omega

theorem enqueue_mask : (m.enqueue b).mask = m.mask := by rw [enqueue_rest]

/-- A notice that stands alone joins the tail, or is not queued. -/
theorem enqueue_appends (alone : b.Alone) : ∃ more, (m.enqueue b).notices = m.notices ++ more := by
  obtain ⟨-, h⟩ | ⟨-, ⟨q, -, hit⟩, h⟩ | ⟨-, -, -, h⟩ | ⟨-, -, -, h⟩ := enqueue_cases m b
  · exact ⟨[], by rw [h, List.append_nil]⟩
  · rw [(alone.not_coalesces q.body).2] at hit
    cases hit
  · exact ⟨[], by rw [h, List.append_nil]⟩
  · exact ⟨_, by rw [h]⟩

/-! Notices one after another. -/

variable {bs : List NoticeBody}

theorem enqueueAll_mem {n : Notice} (mem : n ∈ (bs.foldl Msu.enqueue m).notices) : n ∈ m.notices ∨ n.body ∈ bs := by
  induction bs generalizing m with
  | nil => exact .inl mem
  | cons c rest ih =>
    obtain old | new := ih mem
    · obtain older | is := enqueue_mem old
      · exact .inl older
      · exact .inr (is ▸ List.mem_cons_self)
    · exact .inr (List.mem_cons_of_mem _ new)

theorem enqueueAll_stays {n : Notice} (mem : n ∈ m.notices) (apart : ∀ c ∈ bs, c.coalesces n.body = false) :
    n ∈ (bs.foldl Msu.enqueue m).notices := by
  induction bs generalizing m with
  | nil => exact mem
  | cons c rest ih =>
    rw [List.forall_mem_cons] at apart
    exact ih (enqueue_stays mem apart.1) apart.2

theorem enqueueAll_appends (alone : ∀ b ∈ bs, b.Alone) : ∃ more, (bs.foldl Msu.enqueue m).notices = m.notices ++ more := by
  induction bs generalizing m with
  | nil => exact ⟨[], (List.append_nil _).symm⟩
  | cons c rest ih =>
    rw [List.forall_mem_cons] at alone
    obtain ⟨one, first⟩ := enqueue_appends (m := m) alone.1
    obtain ⟨others, all⟩ := ih (m := m.enqueue c) alone.2
    exact ⟨one ++ others, by rw [List.foldl_cons, all, first, List.append_assoc]⟩

theorem enqueueAll_mask : (bs.foldl Msu.enqueue m).mask = m.mask := by
  induction bs generalizing m with
  | nil => rfl
  | cons c rest ih => rw [List.foldl_cons, ih, enqueue_mask]

theorem enqueueAll_length : (bs.foldl Msu.enqueue m).notices.length ≤ m.notices.length + bs.length := by
  induction bs generalizing m with
  | nil => exact Nat.le_refl _
  | cons c rest ih =>
    have one := enqueue_length (m := m) (b := c)
    have all := ih (m := m.enqueue c)
    rw [List.foldl_cons, List.length_cons]
    omega

/-- With room for them all, a notice that no other of them coalesces with is heard. -/
theorem enqueueAll_heard (mask : m.mask = 0) (room : m.notices.length + bs.length ≤ 64) (mem : b ∈ bs)
    (apart : ∀ c ∈ bs, c ≠ b → c.coalesces b = false) : ∃ n ∈ (bs.foldl Msu.enqueue m).notices, n.body = b := by
  induction bs generalizing m with
  | nil => cases mem
  | cons c rest ih =>
    have one := enqueue_length (m := m) (b := c)
    rw [List.length_cons] at room
    rw [List.forall_mem_cons] at apart
    by_cases later : b ∈ rest
    · exact ih (by rw [enqueue_mask, mask]) (by omega) later apart.2
    · obtain is | later' := List.mem_cons.mp mem
      · subst is
        obtain ⟨n, hn, is⟩ := enqueue_heard (m := m) (b := b) mask (by omega)
        refine ⟨n, enqueueAll_stays (m := m.enqueue b) (bs := rest) hn fun c hc => ?_, is⟩
        rw [is]
        exact apart.2 c hc fun same => later (same ▸ hc)
      · exact absurd later' later

end

section
variable {s : State} {b : NoticeBody} {bs : List NoticeBody} {n k : Nat}

theorem hasRoom_fewer (room : HasRoom n s) (few : k ≤ n) : HasRoom k s := by
  obtain ⟨phase, mask, length⟩ := room
  exact ⟨phase, mask, by omega⟩

theorem heard_notifyAll (room : HasRoom n s) (few : bs.length ≤ n) (mem : b ∈ bs) (alone : b.Alone) : Heard b (notifyAll bs s) := by
  obtain ⟨phase, mask, length⟩ := room
  rw [Heard, notifyAll_eq]
  simp only [State.withMsu_msu, if_neg phase]
  exact enqueueAll_heard mask (by omega) mem fun c _ _ => (alone.not_coalesces c).1

theorem heard_notify (room : HasRoom 1 s) : Heard b (notify b s) := by
  obtain ⟨phase, mask, length⟩ := room
  rw [Heard, notify_eq]
  simp only [State.withMsu_msu, if_neg phase]
  exact enqueue_heard mask (by omega)

/-- A notice that stands alone stays heard. -/
theorem heard_stays (heard : Heard b s) (alone : b.Alone) (bs : List NoticeBody) : Heard b (notifyAll bs s) := by
  obtain ⟨n, hn, is⟩ := heard
  rw [Heard, notifyAll_eq]
  split
  · exact ⟨n, hn, is⟩
  · exact ⟨n, enqueueAll_stays hn fun c _ => is ▸ (alone.not_coalesces c).1, is⟩

theorem hasRoom_notifyAll (room : HasRoom (bs.length + n) s) : HasRoom n (notifyAll bs s) := by
  obtain ⟨phase, mask, length⟩ := room
  have grown := enqueueAll_length (m := s.msu) (bs := bs)
  rw [HasRoom, notifyAll_eq, if_neg phase]
  refine ⟨phase, ?_, ?_⟩
  · simpa only [State.withMsu_msu, enqueueAll_mask] using mask
  · simp only [State.withMsu_msu]
    omega

theorem heard_notifyMerged {a b c d : List NoticeBody} {x : NoticeBody} (room : HasRoom n s) (few : (a ++ b ++ c ++ d).length ≤ n)
    (mem : x ∈ a ++ b ++ c ++ d) (alone : x.Alone) : Heard x (notifyMerged a b c d s) := by
  have perm := mergeNotices_perm s.fresh a b c d
  simp only [List.append_assoc] at few mem
  exact heard_notifyAll room (perm.length_eq.trans_le few) (perm.mem_iff.mpr mem) alone

end

end Sys2Proof.Machine

end

section
/-! PROOFS. The clock's events and settings (O24, O26): what the clock becomes, what follows it (R43, R45, R62, R67), and the
CLOCK_STATE notice. -/

namespace Sys2Proof.Machine

open Safety

/-! ## What a change of the clock tells -/

theorem sourceNotices_length (before after : Cku) : (sourceNotices before after).length ≤ 6 := List.length_filterMap_le ..

/-- No source's state differs, so none is told (R25). -/
theorem sourceNotices_nil {before after : Cku} (same : ∀ x, (after.record x).standing = (before.record x).standing) :
    sourceNotices before after = [] := by
  rw [sourceNotices, List.filterMap_eq_nil_iff]
  exact fun x _ => if_pos (same x).symm

theorem clockNotice_length (c : Cku) (reason : Option ClockReason) : (clockNotice c reason).length ≤ 1 := by
  cases reason <;> simp [clockNotice]

theorem portsBy_notices_length (op : Nat → Port → Port × Option PortReason) (ps : List Port) : (portsBy op ps).2.length ≤ ps.length :=
  (List.length_filterMap_le ..).trans (by rw [← List.length_map (f := Prod.snd), numbered_snd])

theorem heard_clockChange {after : Cku} {reason : Option ClockReason} {stu ptu : List NoticeBody} {s : State} {n : Nat} {x : NoticeBody}
    (room : HasRoom n s) (few : (sourceNotices s.cku after).length + (clockNotice after reason).length + stu.length + ptu.length + s.ptu.length ≤ n)
    (mem : x ∈ sourceNotices s.cku after ++ clockNotice after reason ++ stu ++ ptu) (alone : x.Alone) :
    Heard x (clockChange after reason stu ptu s) := by
  have ports := portsBy_notices_length (portAtClock s.cku after) s.ptu
  unfold clockChange
  dsimp only
  refine heard_notifyMerged (n := n) ?_ ?_ ?_ alone
  · exact room
  · simp only [List.length_append, List.length_nil]
    omega
  · simp only [List.mem_append] at mem ⊢
    tauto

/-! ## What the streams make of it -/

theorem entriesLess_zero {as : List Arrival} (counted : ∀ a ∈ as, 1 ≤ a.count) : entriesLess 0 as = as := by
  cases as with
  | nil => rfl
  | cons a rest =>
    have one := counted a List.mem_cons_self
    rw [entriesLess, if_neg (by omega), Nat.sub_zero]

/-- R56: the oldest frames are given up by the unlisted ones first, then by the entries. -/
theorem giveUp_eq (n : Nat) (p : Playback) (counted : ∀ a ∈ p.arrivals, 1 ≤ a.count) :
    p.giveUp n = { p with buffer := p.buffer.drop n, unlisted := p.unlisted - n, arrivals := entriesLess (n - p.unlisted) p.arrivals } := by
  induction n generalizing p with
  | zero => rw [Playback.giveUp, List.drop_zero, Nat.sub_zero, Nat.zero_sub, entriesLess_zero counted]
  | succ n ih =>
    rw [Playback.giveUp]
    unfold Playback.giveUpOldest
    dsimp only
    split
    · rw [ih _ (by exact counted)]
      simp only [List.drop_drop, Nat.add_comm 1 n, show p.unlisted - 1 - n = p.unlisted - (n + 1) by omega,
        show n - (p.unlisted - 1) = n + 1 - p.unlisted by omega]
    · rename_i listed
      have none : p.unlisted = 0 := by omega
      split
      · rename_i empty
        rw [ih _ (by simp [empty])]
        simp only [none, empty, entriesLess, List.drop_drop, Nat.add_comm 1 n, Nat.zero_sub]
      · rename_i a rest there
        rw [there, List.forall_mem_cons] at counted
        by_cases last : a.count ≤ 1
        · rw [if_pos last, ih _ (by exact counted.2)]
          simp only [none, there, entriesLess, List.drop_drop, Nat.add_comm 1 n, Nat.zero_sub, Nat.sub_zero]
          rw [if_pos (by omega), show n + 1 - a.count = n by omega]
        · rw [if_neg last, ih _ (List.forall_mem_cons.mpr ⟨by dsimp only; omega, counted.2⟩)]
          simp only [none, there, entriesLess, List.drop_drop, Nat.add_comm 1 n, Nat.zero_sub, Nat.sub_zero]
          by_cases all : a.count - 1 ≤ n
          · rw [if_pos all, if_pos (by omega), show n - (a.count - 1) = n + 1 - a.count by omega]
          · rw [if_neg all, if_neg (by omega), show a.count - 1 - n = a.count - (n + 1) by omega]

theorem recentred_recentre (p : Playback) : recentred p p.recentre := by
  unfold recentred Playback.recentre Playback.target
  dsimp only
  refine ⟨?_, ?_, ?_⟩
  · rintro (off | between)
    · rw [if_pos off]
    · by_cases running : p.state = .running
      · rw [if_neg (not_not.mpr running), if_neg (by omega), if_neg (by omega)]
      · rw [if_pos running]
  · intro running low
    rw [if_neg (not_not.mpr running), if_pos low]
    rfl
  · intro running high counted
    rw [if_neg (not_not.mpr running), if_neg (by omega), if_pos high, giveUp_eq _ _ counted]
    rfl

/-- The streams at a raised event of the clock; it comes to LOCKED or FREE only from SWITCHING or HOLDOVER. -/
theorem streamsFollow_clockEvent {s t : State} {after : ClockState} (stu : t.stu = s.stu.clockEvent s.cku.clock after true)
    (comes : after = .locked ∨ after = .free → s.cku.clock = .switching ∨ s.cku.clock = .holdover) : streamsFollow after s t := by
  unfold streamsFollow
  split
  · rename_i steady
    have steady' : (after == .switching || after == .holdover) = false := by
      obtain rfl | rfl := steady <;> rfl
    have rises : ((s.cku.clock == .switching || s.cku.clock == .holdover) && (after == .locked || after == .free)) = true := by
      simpa using ⟨comes steady, steady⟩
    have is : t.stu = { s.stu with playback := s.stu.playback.recentre } := by
      rw [stu]
      unfold Stu.clockEvent
      simp only [steady', Bool.and_false, rises]
      rfl
    rw [is]
    exact ⟨recentred_recentre _, rfl⟩
  · rename_i moving
    rw [stu]
    cases after <;> simp [Stu.clockEvent] at moving ⊢

/-! ## A clock event -/

theorem clockEvent_raised (c : Cku) (reason : ClockReason) (s : State) : clockEvent (c, some reason) s = clockChange c (some reason) [] [] s := by
  unfold clockEvent
  rw [if_neg (by simp)]

theorem clockEvent_still (s : State) : clockEvent (s.cku, none) s = s := if_pos ⟨rfl, rfl⟩

theorem clockChange_stu (after : Cku) (reason : Option ClockReason) (stu ptu : List NoticeBody) (s : State) :
    (clockChange after reason stu ptu s).stu = s.stu.clockEvent s.cku.clock after.clock reason.isSome := by
  rw [clockChange_eq]
  rfl

theorem clockChange_rme (after : Cku) (reason : Option ClockReason) (stu ptu : List NoticeBody) (s : State) :
    (clockChange after reason stu ptu s).rme = { s.rme with overload := (clockChange after reason stu ptu s).rme.overload } := by
  rw [clockChange_eq]
  rfl

theorem keepsBut_of_reaches {ps qs : List Part} {s t : State} (r : Reaches ps s t) (sub : ps ⊆ qs) : KeepsBut qs s t :=
  fun p away => r.frame p fun mem => away (sub mem)

theorem keepsBut_clockEvent (r : Cku × Option ClockReason) (s : State) : KeepsBut clockParts s (clockEvent r s) :=
  keepsBut_of_reaches (reaches_clockEvent r s) (by decide)

/-- R43, R45: the clock changes with no source's state, tells so, and the streams follow it. -/
theorem clockBecomes_clockEvent {c : Cku} {reason : ClockReason} {s : State} (same : ∀ x, (c.record x).standing = (s.cku.record x).standing)
    (comes : c.clock = .locked ∨ c.clock = .free → s.cku.clock = .switching ∨ s.cku.clock = .holdover) :
    clockBecomes c reason s (clockEvent (c, some reason) s) := by
  have quiet := sourceNotices_nil same
  refine ⟨clockEvent_cku .., ?_, keepsBut_clockEvent _ _, ?_, fun room four => ?_⟩ <;> rw [clockEvent_raised]
  · exact streamsFollow_clockEvent (clockChange_stu ..) comes
  · exact clockChange_rme ..
  · refine heard_clockChange room ?_ ?_ (by simp [NoticeBody.Alone, NoticeBody.code])
    · rw [quiet, four]
      simp [clockNotice]
    · rw [quiet]
      simp [clockNotice]

theorem putRec_standing (c : Cku) (x y : ClockSource) {r : SourceRec} (same : r.standing = (c.record x).standing) :
    ((c.putRec x r).record y).standing = (c.record y).standing := by
  by_cases is : x = y
  · subst is
    unfold Cku.record Cku.putRec at *
    rw [List.getD_eq_getElem?_getD] at same
    rw [List.getD_eq_getElem?_getD, List.getElem?_set_self']
    cases there : c.sources[sourceCode x]? with
    | none => simp [List.getD_eq_getElem?_getD, there]
    | some old =>
      rw [there] at same
      simpa [List.getD_eq_getElem?_getD, there] using same
  · rw [record_putRec_ne is]

/-- R31, R32: in FIXED mode a lock timer that expires is that of the fixed source. -/
theorem lockTimer_target {c : Cku} (h : ClockSound c) (runs : c.lockTimer ≠ none) :
    c.clock = .switching ∧ c.source ≠ .internal ∧ (c.mode = .fixed → c.source = c.fixedSource) := by
  obtain ⟨-, timers, -, -, -, -, -, fixed⟩ := clockSound_iff.mp h
  obtain ⟨switching, source⟩ := timers.1.mp (Option.isSome_iff_ne_none.mpr runs)
  refine ⟨switching, source, fun is => ?_⟩
  obtain ⟨same, -⟩ | ⟨internal, -⟩ := fixed is
  · exact same
  · exact absurd internal source

theorem find_usable {c : Cku} (h : ClockRecords c) : c.priority.find? c.usable = some c.firstUsable := by
  cases found : c.priority.find? c.usable with
  | none => exact absurd h.usable_internal (by simpa using List.find?_eq_none.mp found _ h.listed)
  | some x => rw [Cku.firstUsable, found]; rfl

theorem switchedTo_startSwitch (c : Cku) (x : ClockSource) : switchedTo x (c.startSwitch x) := ⟨rfl, rfl, rfl, rfl, rfl⟩


/-! ## The events that the clock states wait for -/

section
variable (s : State)

/-- R29: a lock reported while switching to an external target. -/
theorem lock_becomes : if s.cku.clock = .switching ∧ s.cku.source ≠ .internal then
    clockBecomes { s.cku with clock := .locked, lockTimer := none, fallback := .none } .lockAcquired s (clockEvent s.cku.lock s)
    else clockEvent s.cku.lock s = s := by
  unfold Cku.lock
  split
  · rename_i waits
    exact clockBecomes_clockEvent (fun x => rfl) fun _ => .inl waits.1
  · exact clockEvent_still s

/-- R33: an unlock reported while LOCKED. -/
theorem unlock_becomes : if s.cku.clock = .locked ∧ s.cku.source ≠ .internal then
    clockBecomes { s.cku with
      sources := s.cku.sources.set (sourceCode s.cku.source) { s.cku.record s.cku.source with unlock := true }
      clock := .switching, lockTimer := some 50, settleTimer := none, holdoverTimer := none } .unlock s (clockEvent s.cku.unlock s)
    else s.cku.clock ≠ .locked → clockEvent s.cku.unlock s = s := by
  unfold Cku.unlock
  split
  · rename_i locked
    rw [if_pos locked.1]
    have is : (s.cku.putRec s.cku.source { s.cku.record s.cku.source with unlock := true }).startSwitch s.cku.source =
        { s.cku with
          sources := s.cku.sources.set (sourceCode s.cku.source) { s.cku.record s.cku.source with unlock := true }
          clock := .switching, lockTimer := some 50, settleTimer := none, holdoverTimer := none } := by
      simp only [Cku.startSwitch, Cku.putRec, if_neg locked.2]
    rw [is]
    exact clockBecomes_clockEvent (fun x => putRec_standing s.cku s.cku.source x (r := { s.cku.record s.cku.source with unlock := true }) rfl)
      (by simp)
  · intro away
    rw [if_neg away]
    exact clockEvent_still s

/-- R30: the settle timer of a switch to INTERNAL. -/
theorem settle_becomes : if s.cku.clock = .switching ∧ s.cku.source = .internal ∧ s.cku.settleTimer.isSome = true then
    clockBecomes { s.cku with clock := .free, settleTimer := none } .settled s (clockEvent s.cku.settleTimeout s)
    else clockEvent s.cku.settleTimeout s = s := by
  unfold Cku.settleTimeout
  split
  · rename_i waits
    exact clockBecomes_clockEvent (fun x => rfl) fun _ => .inl waits.1
  · exact clockEvent_still s

/-- R39: the holdover timer. -/
theorem holdover_becomes : if s.cku.clock = .holdover ∧ s.cku.holdoverTimer.isSome = true then
    clockBecomes { s.cku with
      clock := .switching, source := .internal, fallback := .holdoverExpired, lockTimer := none
      settleTimer := some 2, holdoverTimer := none } .holdoverExpired s (clockEvent s.cku.holdoverTimeout s)
    else clockEvent s.cku.holdoverTimeout s = s := by
  unfold Cku.holdoverTimeout
  split
  · exact clockBecomes_clockEvent (c := { s.cku.startSwitch .internal with fallback := .holdoverExpired }) (fun x => rfl)
      (by simp [Cku.startSwitch])
  · exact clockEvent_still s

end

/-- R31, R32: a lock timeout charges its target, and the clock switches afresh or holds over on the fixed source. -/
theorem lockTimeout_spec {c : Cku} (h : ClockSound c) (runs : c.lockTimer ≠ none) :
    ∃ reason d, c.lockTimeout = (d, some reason) ∧ (d.record c.source).quality = min 255 ((c.record c.source).quality + 64) ∧
      (∀ x, x ≠ c.source → d.record x = c.record x) ∧ (d.clock = .switching ∨ d.clock = .holdover) ∧
      (d.usable c.source = true ∧ c.mode = .fixed → d.clock = .switching ∧ d.source = c.source ∧ d.lockTimer = some 50) ∧
      (d.usable c.source = false ∧ c.mode = .fixed → d.clock = .holdover ∧ d.source = c.source ∧ d.holdoverTimer = some 10000) ∧
      (c.mode = .auto → c.priority.find? d.usable = some d.source ∧ switchedTo d.source d ∧ d.fallback = .none) := by
  obtain ⟨switching, external, target⟩ := lockTimer_target h runs
  obtain ⟨records, -, -⟩ := clockSound_iff.mp h
  obtain ⟨e, he⟩ : ∃ e, e = { c.putRec c.source (c.record c.source).penalised with lockTimer := none } := ⟨_, rfl⟩
  have charged : e.record c.source = (c.record c.source).penalised := by
    rw [he]
    exact record_putRec_self records.seven ..
  have quality : (e.record c.source).quality = min 255 ((c.record c.source).quality + 64) := by
    rw [charged]
    rfl
  have others (x : ClockSource) (apart : x ≠ c.source) : e.record x = c.record x := by
    rw [he]
    exact record_putRec_ne apart.symm ..
  have sound : ClockRecords e := by
    have put := clockRecords_putRec records external (sourceSound_penalised (records.sound external))
    rw [he]
    exact ⟨put.seven, put.internal, put.sources, put.once, put.listed⟩
  have is : c.lockTimeout = e.select .lockTimeout true := by
    unfold Cku.lockTimeout
    rw [if_pos ⟨switching, external, Option.isSome_iff_ne_none.mpr runs⟩, he]
  obtain ⟨clock, source, mode, fixedSource, priority⟩ : e.clock = .switching ∧ e.source = c.source ∧ e.mode = c.mode ∧
      e.fixedSource = c.fixedSource ∧ e.priority = c.priority := by
    rw [he]
    exact ⟨switching, rfl, rfl, rfl, rfl⟩
  rw [is]
  have found : c.priority.find? e.usable = some e.firstUsable := priority ▸ find_usable sound
  unfold Cku.select
  cases auto : e.mode with
  | auto =>
    dsimp only
    obtain ⟨-, -, now⟩ | ⟨same, -⟩ := selectAuto_cases e .lockTimeout true
    · obtain now | now | now := now <;> simp [clock] at now
    · refine ⟨_, _, same, quality, others, .inl rfl, fun fixed => ?_, fun fixed => ?_,
        fun _ => ⟨found, switchedTo_startSwitch _ _, rfl⟩⟩ <;> simp [← mode, auto] at fixed
  | fixed =>
    dsimp only
    have on := target (mode ▸ auto)
    have onSource : e.onSource e.fixedSource = true := by simp [Cku.onSource, clock, source, fixedSource, on]
    obtain ⟨internal, -⟩ | ⟨internal, -⟩ | ⟨-, -, -, stale, -⟩ | ⟨-, usable, -, same⟩ | ⟨-, lost, -, same⟩ | ⟨-, -, off, -⟩ |
      ⟨-, -, off, -⟩ := selectFixed_cases e .lockTimeout true
    · exact absurd (on.trans (fixedSource ▸ internal)) external
    · exact absurd (on.trans (fixedSource ▸ internal)) external
    · cases stale
    · refine ⟨_, _, same, quality, others, .inl rfl, fun _ => ⟨rfl, ?_, ?_⟩, fun lost => ?_, fun auto' => ?_⟩
      · exact fixedSource.trans on.symm
      · simp only [Cku.startSwitch, fixedSource, ← on, if_neg external]
      · have lost : e.usable c.source = false := lost.1
        rw [fixedSource, ← on, lost] at usable
        cases usable
      · simp [← mode, auto] at auto'
    · refine ⟨_, _, same, quality, others, .inr rfl, fun usable => ?_, fun _ => ⟨rfl, fixedSource.trans on.symm, rfl⟩,
        fun auto' => ?_⟩
      · have usable : e.usable c.source = true := usable.1
        rw [fixedSource, ← on, usable] at lost
        cases lost
      · simp [← mode, auto] at auto'
    · rw [onSource] at off
      cases off
    · rw [onSource] at off
      cases off

end Sys2Proof.Machine

open Sys2Proof.Machine Sys2Proof.Safety in
/-- Settles O24, event by event: each acts in the clock state that waits for it, and the streams follow the clock. -/
theorem clockEvents : Obligations.ClockEvents := by
  refine ⟨fun s => ⟨⟨_, rfl, lock_becomes s⟩, ⟨_, rfl, unlock_becomes s⟩, ⟨_, rfl, settle_becomes s⟩, ⟨_, rfl, holdover_becomes s⟩⟩, fun s h =>
    ⟨_, rfl, keepsBut_clockEvent _ _, fun none => ?_, fun runs => ?_⟩⟩
  · have is : s.cku.lockTimeout = (s.cku, Option.none) := by
      unfold Cku.lockTimeout
      rw [if_neg (by simp [none])]
    rw [is]
    exact clockEvent_still s
  · obtain ⟨reason, d, is, quality, others, moves, usable, lost, auto⟩ := lockTimeout_spec h runs
    rw [is, clockEvent_cku]
    refine ⟨?_, quality, fun x _ apart => others x apart, usable, lost, auto⟩
    have follows : streamsFollow d.clock s (clockEvent (d, some reason) s) := by
      rw [clockEvent_raised]
      exact streamsFollow_clockEvent (clockChange_stu ..) (by obtain is | is := moves <;> simp [is])
    obtain is | is := moves <;> rw [is] at follows <;> exact follows

end

section
/-! PROOFS. A command that is accepted; CLOCK_SET_SOURCES (O26) and the check periods with the edges of the sources (O25). -/

namespace Sys2Proof.Machine

open Safety

/-! ## A command that is accepted (R6) -/

section
variable {c : Instr} {kind tag : Byte} {h : State → Handled} {s t : State} {r : Option Result} {st : Status} {ps : List Part}

theorem exec_accepted (hc : commandOf c = some (kind, tag)) (hh : handlerOf c = some h) (takes : s.takes = true) (accepted : h s = accept t r) :
    exec c s = .next (queueReply ⟨kind, tag, .ok, r⟩ t) := by
  rw [exec_taken hc hh takes, accepted]
  rfl

theorem answered_of_reaches (reach : Reaches ps s t) (away : Part.replies ∉ ps := by decide) :
    Answered kind tag st r s (queueReply ⟨kind, tag, st, r⟩ t) := by
  have replies : t.msu.replies = s.msu.replies := reach.frame .replies away
  rw [Answered, queueReply_replies, replies]

theorem keepsBut_queueReply {ps : List Part} (kept : KeepsBut ps s t) (x : Reply) : KeepsBut (.replies :: ps) s (queueReply x t) := by
  intro p away
  have same := kept p fun mem => away (List.mem_cons_of_mem _ mem)
  cases p <;> first | exact same | exact absurd List.mem_cons_self away

end

/-! ## New settings of the clock (R27, R34, R37, R38, R40) -/

theorem onInternal_iff {c : Cku} : c.onInternal = true ↔ c.clock = .free ∨ c.clock = .switching ∧ c.source = .internal := by simp [Cku.onInternal]

theorem onSource_iff {c : Cku} {x : ClockSource} :
    c.onSource x = true ↔ (c.clock = .locked ∨ c.clock = .switching) ∧ c.source = x := by simp [Cku.onSource]

/-- Selection that raises nothing leaves the clock and its timers; one that ends in SWITCHING raises its own reason. -/
theorem select_reason (c : Cku) (reason : ClockReason) (fresh : Bool) :
    ((c.select reason fresh).2 = none → ∃ f, (c.select reason fresh).1 = { c with fallback := f }) ∧
    (∀ r, (c.select reason fresh).2 = some r → (c.select reason fresh).1.clock = .switching → r = reason) := by
  unfold Cku.select
  split
  · obtain ⟨same, -⟩ | ⟨same, -⟩ := selectAuto_cases c reason fresh <;> rw [same]
    · exact ⟨fun _ => ⟨_, rfl⟩, nofun⟩
    · exact ⟨nofun, fun r is _ => (Option.some.inj is).symm⟩
  · obtain ⟨-, -, same⟩ | ⟨-, -, same⟩ | ⟨-, -, -, -, same⟩ | ⟨-, -, -, same⟩ | ⟨-, -, -, same⟩ | ⟨-, -, -, -, -, same⟩ |
      ⟨-, -, -, -, f, -, same⟩ := selectFixed_cases c reason fresh <;> rw [same]
    · exact ⟨fun _ => ⟨_, rfl⟩, nofun⟩
    · exact ⟨nofun, fun r is _ => (Option.some.inj is).symm⟩
    · exact ⟨fun _ => ⟨_, rfl⟩, nofun⟩
    · exact ⟨nofun, fun r is _ => (Option.some.inj is).symm⟩
    · exact ⟨nofun, fun r _ now => by cases now⟩
    · exact ⟨fun _ => ⟨c.fallback, rfl⟩, nofun⟩
    · split
      · exact ⟨fun _ => ⟨_, rfl⟩, nofun⟩
      · exact ⟨nofun, fun r is _ => (Option.some.inj is).symm⟩

section
variable {s t : State} {c : Cku}

/-- R34: selection in AUTO by new settings. -/
theorem selectedAuto_select (clock : c.clock = s.cku.clock) (source : c.source = s.cku.source)
    (timers : c.lockTimer = s.cku.lockTimer ∧ c.settleTimer = s.cku.settleTimer ∧ c.holdoverTimer = s.cku.holdoverTimer)
    (is : t.cku = (c.selectAuto .settings false).1) : t.cku.source = c.firstUsable ∧ selectedAuto t.cku.source s t := by
  obtain ⟨lock, settle, holdover⟩ := timers
  unfold selectedAuto
  dsimp only
  obtain ⟨same, on, now⟩ | ⟨same, off⟩ := selectAuto_cases c .settings false <;> rw [is, same]
  · refine ⟨on, rfl, fun _ => ?_, fun apart => absurd ⟨source.symm, fun held => ?_⟩ apart⟩
    · unfold timersKept
      rw [is, same]
      exact ⟨clock, source, lock, settle, holdover⟩
    · rw [clock, held] at now
      obtain now | now | now := now
      · cases now
      · cases now
      · cases now.1
  · refine ⟨rfl, rfl, fun ⟨on, moving⟩ => absurd ⟨source.trans on, ?_⟩ off, fun _ => switchedTo_startSwitch _ _⟩
    rw [clock]
    cases now : s.cku.clock with
    | free => exact .inr (.inl rfl)
    | locked => exact .inl rfl
    | switching => exact .inr (.inr ⟨rfl, rfl⟩)
    | holdover => exact absurd now moving

/-- R37, R38: selection in FIXED mode by new settings. -/
theorem selectedFixed_select (clock : c.clock = s.cku.clock) (source : c.source = s.cku.source) (sources : c.sources = s.cku.sources)
    (timers : c.lockTimer = s.cku.lockTimer ∧ c.settleTimer = s.cku.settleTimer ∧ c.holdoverTimer = s.cku.holdoverTimer)
    (fallback : c.fallback = s.cku.fallback) (is : t.cku = (c.selectFixed .settings false).1) : selectedFixed c.fixedSource s t := by
  obtain ⟨lock, settle, holdover⟩ := timers
  have usableSame : s.cku.usable c.fixedSource = c.usable c.fixedSource := by
    unfold Cku.usable Cku.record
    rw [sources]
  have kept {f : Fallback} (is : t.cku = { c with fallback := f }) : timersKept s t := by
    unfold timersKept
    rw [is]
    exact ⟨clock, source, lock, settle, holdover⟩
  have onInternal : c.onInternal = true ↔ s.cku.clock = .free ∨ s.cku.clock = .switching ∧ s.cku.source = .internal := by
    rw [onInternal_iff, clock, source]
  have onSource : c.onSource c.fixedSource = true ↔ (s.cku.clock = .locked ∨ s.cku.clock = .switching) ∧ s.cku.source = c.fixedSource := by
    rw [onSource_iff, clock, source]
  have heldOn : c.clock = .holdover ∧ c.source = c.fixedSource ↔ s.cku.clock = .holdover ∧ s.cku.source = c.fixedSource := by
    rw [clock, source]
  unfold selectedFixed
  dsimp only
  rw [usableSame]
  simp only [← onInternal, ← onSource, ← heldOn]
  obtain ⟨fx, on, same⟩ | ⟨fx, off, same⟩ | ⟨fx, usable, on, -, same⟩ | ⟨fx, usable, off, same⟩ | ⟨fx, lost, on, same⟩ |
    ⟨fx, lost, off, held, there, same⟩ | ⟨fx, lost, off, away, f, hf, same⟩ := selectFixed_cases c .settings false <;> rw [same] at is
  · rw [if_pos fx]
    exact ⟨by rw [is], fun _ => kept is, fun off => absurd on off⟩
  · rw [if_pos fx]
    exact ⟨by rw [is]; rfl, fun on => by simp [off] at on, fun _ => by rw [is]; exact switchedTo_startSwitch _ _⟩
  · rw [if_neg fx, if_pos usable]
    exact ⟨by rw [is], fun _ => kept is, fun off => absurd on off⟩
  · rw [if_neg fx, if_pos usable]
    exact ⟨by rw [is]; rfl, fun on => absurd ⟨on, rfl⟩ off, fun _ => by rw [is]; exact switchedTo_startSwitch _ _⟩
  · rw [if_neg fx, if_neg (by simp [lost]), if_pos on, is]
    exact ⟨rfl, rfl, rfl, rfl, rfl, rfl⟩
  · rw [if_neg fx, if_neg (by simp [lost]), if_neg (by simp [off]), if_pos ⟨held, there⟩]
    exact ⟨kept (f := c.fallback) is, by rw [is]; exact fallback⟩
  · rw [if_neg fx, if_neg (by simp [lost]), if_neg (by simp [off]), if_neg away]
    by_cases on : c.onInternal = true
    · rw [if_pos on] at is
      exact ⟨by rw [is, ← fallback]; exact hf, fun _ => kept is, fun off => absurd on off⟩
    · rw [if_neg on] at is
      exact ⟨by rw [is, ← fallback]; exact hf, fun now => absurd now on, fun _ => by rw [is]; exact switchedTo_startSwitch _ _⟩

end

theorem clockRecords_settings {c : Cku} (h : ClockRecords c) (m : ClockMode) (x : ClockSource) (r : Bool) {xs : List ClockSource} (once : xs.Nodup) :
    ClockRecords { c with priority := storedList xs, mode := m, fixedSource := x, revert := r } := by
  refine ⟨h.seven, h.internal, h.sources, ?_, ?_⟩
  · dsimp only [storedList]
    split
    · exact once
    · rename_i missing
      rw [List.nodup_append]
      exact ⟨once, by simp, fun a ha b hb same => missing (by simp_all)⟩
  · dsimp only [storedList]
    split
    · rename_i there
      simpa using there
    · simp

theorem sourcesOf_eq_none {list : List Byte} (bad : ∃ b ∈ list, sourceOf b = none) : sourcesOf list = none := by
  induction list with
  | nil => simp at bad
  | cons b rest ih =>
    rw [sourcesOf]
    split
    · rename_i x xs hx hxs
      obtain ⟨d, hd, none⟩ := bad
      obtain rfl | later := List.mem_cons.mp hd
      · rw [none] at hx
        cases hx
      · rw [ih ⟨d, later, none⟩] at hxs
        cases hxs
    · rfl

theorem sourcesOf_eq_some {list : List Byte} {xs : List ClockSource} (codes : list.map sourceOf = xs.map some) : sourcesOf list = some xs := by
  induction list generalizing xs with
  | nil =>
    cases xs with
    | nil => rfl
    | cons x rest => cases codes
  | cons b rest ih =>
    cases xs with
    | nil => cases codes
    | cons x others =>
      simp only [List.map_cons, List.cons.injEq] at codes
      rw [sourcesOf, codes.1, ih codes.2]

section
variable {s t : State} {m : ClockMode} {x : ClockSource} {r : Bool} {xs : List ClockSource}
  (once : xs.Nodup) (is : t = clockEvent (s.cku.setSources m x r xs) s)
include is

/-- The settings are stored, and no source record changes (R27, R40). -/
theorem setSources_stored : t.cku.priority = storedList xs ∧ t.cku.mode = m ∧ t.cku.fixedSource = x ∧ t.cku.revert = r ∧
    t.cku.sources = s.cku.sources ∧ t.cku.rate = s.cku.rate := by
  have moves : Moves _ _ := moves_select { s.cku with priority := storedList xs, mode := m, fixedSource := x, revert := r } .settings false
  rw [is, clockEvent_cku, show (s.cku.setSources m x r xs).1 = _ from moves]
  exact ⟨rfl, rfl, rfl, rfl, rfl, rfl⟩

include once in
theorem setSources_auto (auto : m = .auto) (sound : ClockSound s.cku) :
    t.cku.priority.find? s.cku.usable = some t.cku.source ∧ selectedAuto t.cku.source s t := by
  obtain ⟨c, hc⟩ : ∃ c : Cku, c = { s.cku with priority := storedList xs, mode := m, fixedSource := x, revert := r } := ⟨_, rfl⟩
  have chosen : t.cku = (c.selectAuto .settings false).1 := by
    rw [is, clockEvent_cku, hc, auto]
    rfl
  have records : ClockRecords c := by
    rw [hc]
    exact clockRecords_settings (clockSound_iff.mp sound).1 m x r once
  obtain ⟨source, selected⟩ := selectedAuto_select (s := s) (by rw [hc]) (by rw [hc]) (by rw [hc]; exact ⟨rfl, rfl, rfl⟩) chosen
  have usable : c.usable = s.cku.usable := by rw [hc]; rfl
  refine ⟨?_, selected⟩
  rw [(setSources_stored is).1, source, ← usable, ← find_usable records, hc]

theorem setSources_fixed (fixed : m = .fixed) : selectedFixed x s t := by
  obtain ⟨c, hc⟩ : ∃ c : Cku, c = { s.cku with priority := storedList xs, mode := m, fixedSource := x, revert := r } := ⟨_, rfl⟩
  have chosen : t.cku = (c.selectFixed .settings false).1 := by
    rw [is, clockEvent_cku, hc, fixed]
    rfl
  have names : c.fixedSource = x := by rw [hc]
  rw [← names]
  exact selectedFixed_select (by rw [hc]) (by rw [hc]) (by rw [hc]) (by rw [hc]; exact ⟨rfl, rfl, rfl⟩) (by rw [hc]) chosen

/-- R43: a switch raises its notice. -/
theorem setSources_heard (switching : t.cku.clock = .switching) (moved : ¬ timersKept s t) (room : HasRoom 5 s) (four : s.ptu.length = 4) :
    Heard (.clockState .switching t.cku.source s.cku.rate t.cku.fallback .settings) t := by
  obtain ⟨-, -, -, -, sources, rate⟩ := setSources_stored is
  have told : _ ∧ _ := select_reason { s.cku with priority := storedList xs, mode := m, fixedSource := x, revert := r } .settings false
  have cku : t.cku = (s.cku.setSources m x r xs).1 := by rw [is, clockEvent_cku]
  cases reason : (s.cku.setSources m x r xs).2 with
  | none =>
    obtain ⟨f, same⟩ := told.1 reason
    have same : t.cku = { s.cku with priority := storedList xs, mode := m, fixedSource := x, revert := r, fallback := f } := cku.trans same
    refine absurd ?_ moved
    unfold timersKept
    rw [same]
    exact ⟨rfl, rfl, rfl, rfl, rfl⟩
  | some reason' =>
    obtain rfl := told.2 reason' reason (cku ▸ switching)
    have pair : s.cku.setSources m x r xs = (t.cku, some .settings) := by rw [cku, ← reason]
    have quiet : sourceNotices s.cku t.cku = [] := sourceNotices_nil fun x => by simp only [Cku.record, sources]
    have there : Heard (.clockState .switching t.cku.source s.cku.rate t.cku.fallback .settings) (clockChange t.cku (some .settings) [] [] s) := by
      refine heard_clockChange room ?_ ?_ (by simp [NoticeBody.Alone, NoticeBody.code])
      · rw [quiet, four]
        simp [clockNotice]
      · rw [quiet]
        simp [clockNotice, switching, rate]
    rw [pair, clockEvent_raised] at is
    rwa [← is] at there

end

end Sys2Proof.Machine

open Sys2Proof.Machine Sys2Proof.Safety in
/-- Settles O26: the codes are checked, then the names; selection then starts from the clock with the settings stored. -/
theorem clockSetSources : Obligations.ClockSetSources := by
  intro tag mode fixed revert list s takes least most
  have taken := exec_taken (c := .clockSetSources tag mode fixed revert list) rfl rfl takes
  rw [if_pos ⟨least, most⟩] at taken
  unfold handleClockSetSources at taken
  refine ⟨fun bad => ?_, fun m x r xs hm hx hr hxs => ?_⟩
  · rw [taken]
    obtain none | none | none | none := bad
    · simp only [none]
      rfl
    · cases clockModeOf mode <;> simp only [none] <;> rfl
    · cases clockModeOf mode <;> cases sourceOf fixed <;> simp only [none] <;> rfl
    · cases clockModeOf mode <;> cases sourceOf fixed <;> cases flagOf revert <;> simp only [sourcesOf_eq_none none] <;> rfl
  · simp only [hm, hx, hr, sourcesOf_eq_some hxs] at taken
    refine ⟨fun twice => ?_, fun once => ?_⟩
    · rw [taken, if_neg twice]
      rfl
    · rw [if_pos once] at taken
      obtain ⟨t, is⟩ : ∃ t, t = clockEvent (s.cku.setSources m x r xs) s := ⟨_, rfl⟩
      rw [← is] at taken
      have reach : Reaches clockReach s t := is ▸ reaches_clockEvent ..
      obtain ⟨priority, mode', fixedSource, revert', sources, -⟩ := setSources_stored is
      refine ⟨_, taken, ?_, mode', fixedSource, revert', sources, setSources_auto (t := t) once is, setSources_fixed (t := t) is,
        setSources_heard (t := t) is, ?_, ?_⟩
      · refine priority.trans ?_
        unfold storedList
        by_cases there : Sys2Proof.ClockSource.internal ∈ xs <;> simp [there]
      · rw [← mode', ← fixedSource, ← revert']
        exact answered_of_reaches reach
      · exact keepsBut_queueReply (keepsBut_of_reaches reach (by decide)) _

end

section
/-! PROOFS. The check periods and the edges of the sources (O25). -/

namespace Sys2Proof.Machine

open Safety

/-! ## The records of a period (R24, R25, R26, R41) -/

theorem judged_record (rate : Rate) (r : SourceRec) :
    ((r.judged rate).counted.standing, (r.judged rate).counted.quality) = judgedRecord rate r ∧
      (r.judged rate).counted.lastEdges = r.edges ∧ (r.judged rate).counted.edges = 0 ∧ (r.judged rate).counted.unlock = false ∧
      (r.judged rate).counted.revert = if (r.judged rate).counted.standing = .good then min 500 (r.revert + 1) else 0 := by
  have within : (goodEdges rate r.edges && !r.unlock) = true ↔
      r.unlock = false ∧ (1000 * (r.edges : Int) - rate.hertz).natAbs ≤ 1000 := by
    simp only [goodEdges, Bool.and_eq_true, decide_eq_true_eq, Bool.not_eq_true']
    rw [and_comm]
    refine and_congr Iff.rfl ?_
    omega
  unfold SourceRec.judged judgedRecord
  dsimp only
  by_cases none : r.edges = 0
  · rw [if_pos none, if_pos none]
    exact ⟨rfl, rfl, rfl, rfl, rfl⟩
  · rw [if_neg none, if_neg none]
    by_cases absent : r.standing = .absent
    · rw [if_pos absent, if_pos absent]
      exact ⟨rfl, rfl, rfl, rfl, rfl⟩
    · rw [if_neg absent, if_neg absent]
      have table (q : Nat) : r.standing.reevaluated q = match r.standing with
          | .good => if 128 ≤ q then .unusable else if 96 ≤ q then .degraded else .good
          | .degraded => if 128 ≤ q then .unusable else if q < 64 then .good else .degraded
          | _ => if q < 64 then .good else .unusable := by
        cases standing : r.standing with
        | absent => exact absurd standing absent
        | _ => rfl
      by_cases good : (goodEdges rate r.edges && !r.unlock) = true
      · rw [if_pos good, if_pos (within.mp good)]
        exact ⟨Prod.ext (table _) rfl, rfl, rfl, rfl, rfl⟩
      · rw [if_neg good, if_neg (fun is => good (within.mpr is))]
        exact ⟨Prod.ext (table _) rfl, rfl, rfl, rfl, rfl⟩

section
variable {c : Cku}

theorem judgeAll_internal (seven : c.sources.length = 7) (present : ClockSource → Bool) :
    (c.judgeAll present).record .internal = c.record .internal := by
  rw [judgeAll_record seven, if_pos rfl]

/-! ## The clock in AUTO (R34, R35, R36) -/

/-- A clock whose source is not the choice, or that holds over, switches. -/
theorem selectAuto_switches {reason : ClockReason} (apart : c.source ≠ c.firstUsable) :
    c.selectAuto reason false = ({ c with fallback := .none }.startSwitch c.firstUsable, some reason) := by
  obtain ⟨-, on, -⟩ | ⟨same, -⟩ := selectAuto_cases c reason false
  · exact absurd on apart
  · exact same

theorem firstUsable_ahead (listed : c.priority.find? c.usable = some .internal) :
    ∀ y ∈ c.priority.takeWhile (fun y => y != ClockSource.internal), c.usable y = false := by
  obtain ⟨-, before, after, is, none⟩ := List.find?_eq_some_iff_append.mp listed
  intro y hy
  rw [is] at hy
  have there := List.mem_takeWhile_imp hy
  have mem : y ∈ before ++ ClockSource.internal :: after := (List.takeWhile_prefix _).subset hy
  by_cases early : y ∈ before
  · simpa using none y early
  · exfalso
    rw [List.takeWhile_append] at hy
    split at hy
    · simp only [List.takeWhile_cons, bne_self_eq_false, Bool.false_eq_true, if_false, List.append_nil] at hy
      exact early hy
    · exact early ((List.takeWhile_prefix _).subset hy)

theorem periodAuto_lost (records : ClockRecords c) (lost : c.usable c.source = false) :
    c.periodAuto = ({ c with fallback := .none }.startSwitch c.firstUsable, some .sourceLost) := by
  unfold Cku.periodAuto
  rw [lost]
  refine selectAuto_switches fun is => ?_
  rw [is, (firstUsable_spec records).1] at lost
  cases lost

theorem periodAuto_recovered (records : ClockRecords c) (internal : c.source = .internal)
    (ahead : ∃ y ∈ c.priority.takeWhile (fun y => y != c.source), c.usable y = true) :
    c.periodAuto = ({ c with fallback := .none }.startSwitch c.firstUsable, some .recovered) := by
  have usable : c.usable c.source = true := internal ▸ records.usable_internal
  rw [internal] at ahead
  have any : (c.ahead .internal).any c.usable = true := List.any_eq_true.mpr ahead
  unfold Cku.periodAuto
  rw [usable, internal, any]
  refine selectAuto_switches fun is => ?_
  obtain ⟨y, hy, on⟩ := ahead
  rw [firstUsable_ahead (by rw [find_usable records, ← is, internal]) y hy] at on
  cases on

theorem periodAuto_revert (usable : c.usable c.source = true) (internal : c.source ≠ .internal) (reverts : c.revert = true) {y : ClockSource}
    (found : (c.priority.takeWhile (fun y => y != c.source)).find? (fun z => decide ((c.record z).revert = 500)) = some y) :
    c.periodAuto = (c.startSwitch y, some .revert) := by
  unfold Cku.periodAuto Cku.revertTest Cku.ahead
  simp only [usable, reverts, found]
  simp [internal]

theorem periodAuto_stays (usable : c.usable c.source = true)
    (alone : c.source = .internal → ∀ y ∈ c.priority.takeWhile (fun y => y != c.source), c.usable y = false)
    (young : c.source ≠ .internal → c.revert = true → ∀ y ∈ c.priority.takeWhile (fun y => y != c.source), (c.record y).revert ≠ 500) :
    c.periodAuto = (c, none) := by
  unfold Cku.periodAuto
  rw [usable]
  simp only [Bool.not_true, Bool.false_eq_true, if_false]
  by_cases internal : c.source = .internal
  · have none := alone internal
    rw [internal] at none
    have any : (c.ahead .internal).any c.usable = false := by
      rw [List.any_eq_false]
      exact fun y hy => by simp [none y hy]
    rw [any]
    simp [Cku.revertTest, internal]
  · rw [if_neg (by simp [internal])]
    obtain same | ⟨x, hx, old, -, reverts, -⟩ := revertTest_cases c
    · exact same
    · exact absurd old (young internal reverts x hx)

end

/-! ## The clock in FIXED mode (R37, R38) -/

/-- The clock source of FIXED mode, from the records as they were before the period (R37, R38). -/
structure FixedSource (c : Cku) : Prop where
  free : c.clock = .free → c.source = .internal
  locked : c.clock = .locked → c.source ≠ .internal
  held : c.clock = .holdover → c.source = c.fixedSource
  which : (c.source = c.fixedSource ∧ c.fallback = .none) ∨ (c.source = .internal ∧ c.fixedSource ≠ .internal ∧ c.fallback ≠ .none)

section
variable {c : Cku} {reason : ClockReason} (h : FixedSource c) (external : c.fixedSource ≠ .internal)
include h external

theorem FixedSource.onSource : c.onSource c.fixedSource = true ↔ c.source = c.fixedSource ∧ c.clock ≠ .holdover := by
  rw [onSource_iff]
  constructor
  · rintro ⟨now, on⟩
    exact ⟨on, fun held => by simp [held] at now⟩
  · rintro ⟨on, moving⟩
    refine ⟨?_, on⟩
    cases now : c.clock with
    | free => exact absurd ((h.free now).symm.trans on).symm external
    | locked => exact .inl rfl
    | switching => exact .inr rfl
    | holdover => exact absurd now moving

theorem fixed_stays (usable : c.usable c.fixedSource = true) (on : c.source = c.fixedSource ∧ c.clock ≠ .holdover) :
    c.selectFixed reason false = (c, none) := by
  have there := (h.onSource external).mpr on
  have fallback : c.fallback = .none := h.which.elim And.right fun ⟨internal, _⟩ => absurd (on.1.symm.trans internal) external
  unfold Cku.selectFixed
  simp only [if_neg external, usable, if_true, there]
  simp only [Cku.onSource] at there
  simp only [Cku.onSource, there, Bool.not_false, Bool.and_self, if_true]
  rw [← fallback]

theorem fixed_recovers (usable : c.usable c.fixedSource = true) (off : ¬ (c.source = c.fixedSource ∧ c.clock ≠ .holdover)) :
    c.selectFixed reason false = ({ c with fallback := .none }.startSwitch c.fixedSource, some reason) := by
  have there : ¬ c.onSource c.fixedSource = true := fun on => off ((h.onSource external).mp on)
  obtain ⟨fx, -⟩ | ⟨fx, -⟩ | ⟨-, -, on, -⟩ | ⟨-, -, -, same⟩ | ⟨-, lost, -⟩ | ⟨-, lost, -⟩ | ⟨-, lost, -⟩ := selectFixed_cases c reason false
  · exact absurd fx external
  · exact absurd fx external
  · exact absurd on there
  · exact same
  all_goals
    rw [usable] at lost
    cases lost

theorem fixed_waits (lost : c.usable c.fixedSource = false) (off : ¬ (c.source = c.fixedSource ∧ c.clock ≠ .holdover)) :
    c.selectFixed reason false = (c, none) := by
  have there : ¬ c.onSource c.fixedSource = true := fun on => off ((h.onSource external).mp on)
  obtain ⟨fx, -⟩ | ⟨fx, -⟩ | ⟨-, usable, -⟩ | ⟨-, usable, -⟩ | ⟨-, -, on, -⟩ | ⟨-, -, -, -, -, same⟩ | ⟨-, -, -, away, f, hf, same⟩ :=
    selectFixed_cases c reason false
  · exact absurd fx external
  · exact absurd fx external
  · rw [usable] at lost
    cases lost
  · rw [usable] at lost
    cases lost
  · exact absurd on there
  · exact same
  · have moving : c.clock ≠ .holdover := fun held => away ⟨held, h.held held⟩
    obtain ⟨on, -⟩ | ⟨internal, -, fallen⟩ := h.which
    · exact absurd ⟨on, moving⟩ off
    · have on : c.onInternal = true := by
        rw [onInternal_iff]
        cases now : c.clock with
        | free => exact .inl rfl
        | locked => exact absurd internal (h.locked now)
        | switching => exact .inr ⟨rfl, internal⟩
        | holdover => exact absurd now moving
      have keeps : f = c.fallback := by
        rw [hf]
        cases is : c.fallback with
        | none => exact absurd is fallen
        | _ => rfl
      rw [same, if_pos on, keeps]

theorem fixed_holds (lost : c.usable c.fixedSource = false) (on : c.source = c.fixedSource ∧ c.clock ≠ .holdover) :
    c.selectFixed reason false = ({ c with fallback := .none }.enterHoldover c.fixedSource, some .sourceLost) := by
  have there := (h.onSource external).mpr on
  unfold Cku.selectFixed
  rw [if_neg external, lost, there]
  rfl

end

/-! ## The end of a check period -/

section
variable {c : Cku} (h : ClockSound c) (present : ClockSource → Bool)

/-- Judging changes the records alone, and the period is no longer unjudged. -/
theorem judgeAll_keeps (c : Cku) : (c.judgeAll present).clock = c.clock ∧ (c.judgeAll present).source = c.source ∧
    (c.judgeAll present).mode = c.mode ∧ (c.judgeAll present).fixedSource = c.fixedSource ∧ (c.judgeAll present).fallback = c.fallback ∧
    (c.judgeAll present).priority = c.priority ∧ (c.judgeAll present).revert = c.revert ∧ (c.judgeAll present).rate = c.rate ∧
    (c.judgeAll present).counter = c.counter ∧ (c.judgeAll present).unjudged = false ∧ (c.judgeAll present).lockTimer = c.lockTimer ∧
    (c.judgeAll present).settleTimer = c.settleTimer ∧ (c.judgeAll present).holdoverTimer = c.holdoverTimer := by
  rw [judgeAll_eq]
  exact ⟨rfl, rfl, rfl, rfl, rfl, rfl, rfl, rfl, rfl, rfl, rfl, rfl, rfl⟩

include h in
theorem fixedSource_judgeAll (fixed : c.mode = .fixed) : FixedSource (c.judgeAll present) := by
  obtain ⟨-, -, free, locked, -, held, -, which⟩ := clockSound_iff.mp h
  obtain ⟨clock, source, -, fixedSource, fallback, -⟩ := judgeAll_keeps present c
  refine ⟨?_, ?_, ?_, ?_⟩
  · rw [clock, source]
    exact free
  · rw [clock, source]
    exact fun is => (locked is).1
  · rw [clock, source, fixedSource]
    exact fun is => (held is).2.1
  · rw [source, fixedSource, fallback]
    exact (which fixed).imp id fun ⟨internal, external, fallen, _⟩ => ⟨internal, external, fallen⟩

include h in
theorem periodEnd_usable (auto : c.mode = .auto) : (c.periodEnd present).1.usable (c.periodEnd present).1.source = true := by
  have sound := clockSound_judgeAll_periodEnd h present
  obtain ⟨records, -, free, locked, switching, held, -⟩ := clockSound_iff.mp sound
  have moves : Moves _ _ := moves_periodEnd c present
  have mode : (c.periodEnd present).1.mode = .auto := by
    rw [show (c.periodEnd present).1 = _ from moves]
    exact (judgeAll_keeps present c).2.2.1.trans auto
  cases now : (c.periodEnd present).1.clock with
  | free => rw [free now]; exact records.usable_internal
  | locked => exact (locked now).2
  | switching => exact switching now
  | holdover => simp [mode] at held; exact absurd now held

end

theorem heard_clock {after : Cku} {reason : ClockReason} {s : State} (room : HasRoom 11 s) (four : s.ptu.length = 4) :
    Heard (.clockState after.clock after.source after.rate after.fallback reason) (clockChange after (some reason) [] [] s) := by
  have few := sourceNotices_length s.cku after
  have one := clockNotice_length after (some reason)
  refine heard_clockChange room ?_ (by simp [clockNotice]) (by simp [NoticeBody.Alone, NoticeBody.code])
  simp only [List.length_nil, four]
  omega

section
variable {s t : State} (sound : ClockSound s.cku) (is : t = clockEvent (s.cku.periodEnd s.present) s)
include is

theorem periodEnd_record (x : ClockSource) :
    t.cku.record x = (s.cku.judgeAll s.present).record x := by
  rw [is, clockEvent_cku]
  exact (moves_periodEnd s.cku s.present).record x

/-- R24, R25, R26, R41: every external source at the end of a check period. -/
theorem periodEnd_records {x : ClockSource} (external : x ≠ .internal) (sound : ClockSound s.cku) :
    (t.cku.record x).edges = 0 ∧ (t.cku.record x).unlock = false ∧
      (s.cku.unjudged = true → (t.cku.record x).standing = (s.cku.record x).standing ∧
        (t.cku.record x).quality = (s.cku.record x).quality ∧ (t.cku.record x).revert = (s.cku.record x).revert) ∧
      (s.cku.unjudged = false → s.present x = true →
        ((t.cku.record x).standing, (t.cku.record x).quality) = judgedRecord s.cku.rate (s.cku.record x) ∧
        (t.cku.record x).lastEdges = (s.cku.record x).edges ∧
        (t.cku.record x).revert = if (t.cku.record x).standing = .good then min 500 ((s.cku.record x).revert + 1) else 0) ∧
      (s.cku.unjudged = false → s.present x = false →
        (t.cku.record x).standing = (s.cku.record x).standing ∧ (t.cku.record x).revert = 0) := by
  rw [periodEnd_record is, judgeAll_record (clockSound_iff.mp sound).1.seven, if_neg external]
  obtain ⟨table, last, edges, unlock, revert⟩ := judged_record s.cku.rate (s.cku.record x)
  cases s.cku.unjudged with
  | true => exact ⟨rfl, rfl, fun _ => ⟨rfl, rfl, rfl⟩, nofun, nofun⟩
  | false =>
    cases there : s.present x with
    | true => exact ⟨edges, unlock, nofun, fun _ _ => ⟨table, last, revert⟩, nofun⟩
    | false => exact ⟨rfl, rfl, nofun, nofun, fun _ _ => ⟨rfl, rfl⟩⟩

/-- A switch at the end of a check period, with its notice (R28, R43). -/
theorem periodSwitch_of {d : Cku} {x : ClockSource} {reason : ClockReason} (end_ : s.cku.periodEnd s.present = (d.startSwitch x, some reason))
    (fallback : d.fallback = .none) (rate : d.rate = s.cku.rate) : periodSwitch x reason s t := by
  rw [end_] at is
  have cku : t.cku = d.startSwitch x := by rw [is, clockEvent_cku]
  refine ⟨cku ▸ switchedTo_startSwitch d x, by rw [cku]; exact fallback, fun room four => ?_⟩
  rw [is, clockEvent_raised]
  rw [← rate, ← fallback]
  exact heard_clock room four

/-- The clock stays as it was through a check period. -/
theorem clockKept_of (end_ : s.cku.periodEnd s.present = (s.cku.judgeAll s.present, none)) : clockKept s t := by
  obtain ⟨clock, source, -, -, fallback, -, -, -, -, -, lock, settle, holdover⟩ := judgeAll_keeps s.present s.cku
  have cku : t.cku = s.cku.judgeAll s.present := by rw [is, end_, clockEvent_cku]
  unfold clockKept timersKept
  rw [cku]
  exact ⟨⟨clock, source, lock, settle, holdover⟩, fallback⟩

include sound

theorem autoPeriod_periodEnd (auto : s.cku.mode = .auto) : autoPeriod s t := by
  obtain ⟨-, source, mode, -, fallback, priority, revert, rate, -⟩ := judgeAll_keeps s.present s.cku
  have records := clockRecords_judgeAll (clockSound_iff.mp sound).1 s.present
  have none_ : (s.cku.judgeAll s.present).fallback = .none := fallback.trans ((clockSound_iff.mp sound).2.2.2.2.2.2.1 auto).1
  have ends : s.cku.periodEnd s.present = (s.cku.judgeAll s.present).periodAuto := by
    unfold Cku.periodEnd
    dsimp only
    rw [mode, auto]
  have usable : t.cku.usable = (s.cku.judgeAll s.present).usable := funext fun x => by
    unfold Cku.usable
    rw [periodEnd_record is]
  have record (x : ClockSource) : t.cku.record x = (s.cku.judgeAll s.present).record x := periodEnd_record is x
  have found := find_usable records
  unfold autoPeriod
  dsimp only
  simp only [usable, record]
  rw [priority] at found
  refine ⟨fun lost => ⟨_, found, ?_⟩, fun internal ahead => ⟨_, found, ?_⟩, fun on external reverts y hy => ?_, fun on alone young => ?_⟩
  · refine periodSwitch_of is (ends.trans (periodAuto_lost records ?_)) rfl rate
    rw [source]
    exact lost
  · refine periodSwitch_of is (ends.trans (periodAuto_recovered records (source.trans internal) ?_)) rfl rate
    rw [source, priority]
    exact ahead
  · refine periodSwitch_of is (ends.trans (periodAuto_revert ?_ ?_ (revert.trans reverts) ?_)) none_ rate
    · rw [source]
      exact on
    · rw [source]
      exact external
    · rw [source, priority]
      exact hy
  · refine clockKept_of is (ends.trans (periodAuto_stays ?_ ?_ ?_))
    · rw [source]
      exact on
    · rw [source, priority]
      exact alone
    · rw [source, priority, revert]
      exact young

theorem fixedPeriod_periodEnd (fixed : s.cku.mode = .fixed) : fixedPeriod s t := by
  obtain ⟨clock, source, mode, fixedSource, -, -, -, rate, -⟩ := judgeAll_keeps s.present s.cku
  have which := fixedSource_judgeAll sound s.present fixed
  have ends : s.cku.periodEnd s.present = (s.cku.judgeAll s.present).periodFixed (s.cku.record s.cku.fixedSource).standing := by
    unfold Cku.periodEnd
    dsimp only
    rw [mode, fixed]
  have record (x : ClockSource) : t.cku.record x = (s.cku.judgeAll s.present).record x := periodEnd_record is x
  have usable (x : ClockSource) : t.cku.usable x = (s.cku.judgeAll s.present).usable x := by
    unfold Cku.usable
    rw [record]
  unfold Cku.periodFixed at ends
  rw [fixedSource] at ends
  have onSame : s.cku.source = s.cku.fixedSource ∧ s.cku.clock ≠ .holdover ↔
      (s.cku.judgeAll s.present).source = (s.cku.judgeAll s.present).fixedSource ∧ (s.cku.judgeAll s.present).clock ≠ .holdover := by
    rw [source, fixedSource, clock]
  unfold fixedPeriod
  dsimp only
  simp only [usable, record]
  refine ⟨fun same => ?_, fun differs => ?_⟩
  · rw [if_pos same] at ends
    exact clockKept_of is ends
  · rw [if_neg differs] at ends
    have external : (s.cku.judgeAll s.present).fixedSource ≠ .internal := by
      rw [fixedSource]
      intro internal
      rw [internal, judgeAll_internal (clockSound_iff.mp sound).1.seven] at differs
      exact differs rfl
    rw [onSame]
    refine ⟨fun good on => ?_, fun good off => ?_, fun lost off => ?_, fun lost on => ?_⟩
    · exact clockKept_of is (ends.trans (fixed_stays which external (by rw [fixedSource]; exact good) on))
    · rw [good, if_pos rfl] at ends
      have recovers := fixed_recovers (reason := .recovered) which external (by rw [fixedSource]; exact good) off
      rw [fixedSource] at recovers
      exact periodSwitch_of is (ends.trans recovers) rfl rate
    · exact clockKept_of is (ends.trans (fixed_waits which external (by rw [fixedSource]; exact lost) off))
    · have holds := ends.trans (fixed_holds which external (by rw [fixedSource]; exact lost) on)
      have cku := clockEvent_cku (s.cku.periodEnd s.present) s
      rw [holds] at is cku
      rw [← is] at cku
      refine ⟨by rw [cku]; rfl, by rw [cku]; exact fixedSource, by rw [cku]; rfl, by rw [cku]; rfl, by rw [cku]; rfl, by rw [cku]; rfl,
        fun room four => ?_⟩
      rw [is, clockEvent_raised]
      have told := heard_clock (after := { s.cku.judgeAll s.present with fallback := .none }.enterHoldover
        (s.cku.judgeAll s.present).fixedSource) (reason := .sourceLost) room four
      rw [← rate, ← fixedSource]
      exact told

end

/-! ## Edges (R22) -/

theorem countEdges_running {x : ClockSource} {s : State} (running : s.phase = .running) (external : x ≠ .internal) (n : Nat) :
    (s.present x = false → (countEdges x n s).cku = s.cku) ∧
      (s.present x = true → (countEdges x n s).cku = s.cku.putRec x { s.cku.record x with edges := min 255 ((s.cku.record x).edges + n) }) := by
  refine ⟨fun away => ?_, fun there => ?_⟩
  · unfold countEdges
    rw [if_neg (by simp [away])]
  · unfold countEdges
    rw [if_pos ⟨running, external, there⟩]
    rfl

end Sys2Proof.Machine

open Sys2Proof.Machine Sys2Proof.Safety in
/-- Settles O25: the judged records first, then the clock from them, in AUTO and in FIXED mode; and one edge of a source. -/
theorem checkPeriods : Obligations.CheckPeriods := by
  intro s running sound
  refine ⟨?_, fun x mem => ?_⟩
  · obtain ⟨t, is⟩ : ∃ t, t = clockEvent (s.cku.periodEnd s.present) s := ⟨_, rfl⟩
    have moves : Moves _ _ := moves_periodEnd s.cku s.present
    obtain ⟨-, -, mode, fixedSource, -, priority, revert, rate, counter, unjudged, -⟩ := judgeAll_keeps s.present s.cku
    have cku : t.cku = (s.cku.periodEnd s.present).1 := by rw [is, clockEvent_cku]
    have kept := cku.trans moves
    refine ⟨t, ?_, is ▸ keepsBut_clockEvent _ _, by rw [kept]; exact unjudged,
      fun x mem => periodEnd_records is (mem_externalSources.mp mem) sound, by rw [kept]; exact rate, by rw [kept]; exact priority,
      by rw [kept]; exact mode, by rw [kept]; exact fixedSource, by rw [kept]; exact revert, by rw [kept]; exact counter,
      fun auto => ⟨by rw [cku]; exact periodEnd_usable sound s.present auto, autoPeriod_periodEnd sound is auto⟩,
      fixedPeriod_periodEnd sound is⟩
    exact congrArg Host.Outcome.next ((if_pos running).trans is.symm)
  · have external := mem_externalSources.mp mem
    have edges (u : State) (phase : u.phase = .running) := countEdges_running (s := u) phase external 1
    have keeps (u : State) : KeepsBut [.cku] u (countEdges x 1 u) := keepsBut_of_reaches (reaches_countEdges x 1 u) (by decide)
    cases x with
    | internal => exact absurd rfl external
    | link =>
      by_cases due : 0 < s.lif.reference.due
      · obtain ⟨u, hu⟩ : ∃ u, u = s.withLif { s.lif with reference := { s.lif.reference with due := s.lif.reference.due - 1 } } := ⟨_, rfl⟩
        refine ⟨countEdges .link 1 u, ?_, fun _ none => absurd due (by omega), fun _ => ⟨?_, ?_, ?_, ?_⟩⟩
        · exact congrArg Host.Outcome.next (hu ▸ if_pos due)
        · exact keepsBut_of_reaches ((hu ▸ reaches_withReference _ s : Reaches [.reference] s u).andThen (reaches_countEdges ..)
            (rs := [.cku, .reference])) (by decide)
        · rw [countEdges_eq, hu]
          rfl
        · have kept := (edges u (by rw [hu]; exact running)).1
          rw [hu] at kept ⊢
          exact kept
        · have counted := (edges u (by rw [hu]; exact running)).2
          rw [hu] at counted ⊢
          exact counted
      · refine ⟨s, congrArg Host.Outcome.next (if_neg due), fun _ _ => rfl, fun some => absurd some (by simpa using Nat.eq_zero_of_not_pos due)⟩
    | wordclock =>
      refine ⟨_, rfl, nofun, fun _ => ⟨fun p away => keeps s p fun mem => away (by simp_all), by rw [countEdges_eq]; rfl, (edges s running).1, (edges s running).2⟩⟩
    | port p =>
      refine ⟨_, rfl, nofun, fun _ => ⟨fun p away => keeps s p fun mem => away (by simp_all), by rw [countEdges_eq]; rfl, (edges s running).1, (edges s running).2⟩⟩

end

section
/-! PROOFS. A change of the studio rate (O27). -/

namespace Sys2Proof.Machine

open Safety

theorem clockEvent_switching (u : Stu) (before : ClockState) :
    u.clockEvent before .switching true = { u with capture := { u.capture with unsteady := true } } := by
  cases before <;> rfl

theorem portChangeRate_state (r : Rate) (p : Port) (clock : ClockState) (own : Standing) :
    (p.changeRate r clock own).1.state = portAfterRate r p := by
  unfold Port.changeRate portAfterRate
  cases is : p.state with
  | off => exact is
  | conflict => exact is
  | _ =>
    dsimp only
    split <;> rfl

theorem changeRate_states (r : Rate) (s : State) : (changeRate r s).ptu.map (fun p => p.state) = s.ptu.map (portAfterRate r) := by
  rw [changeRate_ptu]
  refine List.ext_getElem? fun i => ?_
  rw [List.getElem?_map, portsBy_getElem?, List.getElem?_map, Option.map_map]
  cases s.ptu[i]? with
  | none => rfl
  | some p => exact congrArg some (portChangeRate_state ..)

theorem changeRate_rme (r : Rate) (s : State) : (changeRate r s).rme =
    { s.rme.changeRate.1 with overload := (changeRate r s).rme.overload } := by
  rw [changeRate_eq]
  rfl

theorem atRateChange_steady (q : Route) : q.atRateChange.level.ramp = none ∧ q.atRateChange.state ≠ .releasing := by
  unfold Route.atRateChange
  split
  · exact ⟨rfl, nofun⟩
  · rename_i other
    exact ⟨by unfold GainRec.finishRamp; split <;> simp_all, other⟩

theorem finishRamp_ramp (l : GainRec) : l.finishRamp.ramp = none := by
  unfold GainRec.finishRamp
  split
  · assumption
  · rfl

theorem changeRate_record {c : Cku} (seven : c.sources.length = 7) (r : Rate) {x : ClockSource} (external : x ≠ .internal) :
    (c.changeRate r).record x = (c.record x).disqualified := by
  refine (disqualifyAll_record seven x).trans ?_
  rw [if_neg external]

theorem changeRate_kept (c : Cku) (r : Rate) : (c.changeRate r).counter = c.counter := by
  have kept := disqualifyAll_eq c
  simp only [Cku.changeRate, Cku.startSwitch]
  rw [kept]

end Sys2Proof.Machine

open Sys2Proof.Machine Sys2Proof.Safety in
/-- Settles O27, block by block: what a change of the rate makes of the clock, the streams, the ports and the mixer. -/
theorem clockSetRate : Obligations.ClockSetRate := by
  intro tag rate s takes seven four
  refine ⟨fun bad => ?_, fun r code => ⟨fun same => ?_, fun new => ?_⟩⟩
  · refine exec_refused rfl rfl takes ?_
    have none : rateOf rate = none := by
      unfold rateOf
      split <;> first | rfl | omega
    unfold handleClockSetRate
    rw [none]
  · refine exec_accepted rfl rfl takes ?_
    unfold handleClockSetRate
    rw [code]
    exact congrArg (accept · _) (if_pos same)
  · have accepted : handleClockSetRate rate s = accept (changeRate r s) (some (.rate r)) := by
      unfold handleClockSetRate
      rw [code]
      exact congrArg (accept · _) (if_neg new)
    have reach := reaches_changeRate r s
    have stu : (changeRate r s).stu = _ := (changeRate_stu r s).trans (clockEvent_switching _ _)
    have cku := changeRate_cku r s
    refine ⟨_, exec_accepted rfl rfl takes accepted, answered_of_reaches reach, keepsBut_queueReply (keepsBut_of_reaches reach (by decide)) _,
      ?_, ?_, ?_, ?_, ?_, ?_, ?_, ?_, fun x mem => ?_, ?_, ?_, ?_, ?_, ?_, ?_, ?_, ?_, ?_, ?_, changeRate_states r s, ?_, fun q hq => ?_,
      fun l hl => ?_, ?_⟩
    · exact congrArg Cku.rate cku
    · exact congrArg Cku.clock cku
    · exact congrArg Cku.source cku
    · exact congrArg Cku.settleTimer cku
    · exact congrArg Cku.lockTimer cku
    · exact congrArg Cku.holdoverTimer cku
    · exact congrArg Cku.unjudged cku
    · exact (congrArg Cku.counter cku).trans (changeRate_kept ..)
    · have record : (changeRate r s).cku.record x = _ := (congrArg (Cku.record · x) cku).trans
        (changeRate_record seven r (mem_externalSources.mp mem))
      refine ⟨(congrArg SourceRec.revert record).trans ?_, ?_⟩
      · unfold SourceRec.disqualified
        split <;> rfl
      · split
        · rename_i absent
          refine (congrArg SourceRec.standing record).trans ?_
          unfold SourceRec.disqualified
          rw [if_pos absent]
          exact absent
        · rename_i there
          refine ⟨(congrArg SourceRec.standing record).trans ?_, (congrArg SourceRec.quality record).trans ?_⟩ <;>
          · unfold SourceRec.disqualified
            rw [if_neg there]
    · exact congrArg (fun u => u.playback.buffer) stu
    · exact congrArg (fun u => u.capture.buffer) stu
    · exact congrArg Stu.ring stu
    · exact congrArg Stu.lastReport stu
    · exact congrArg (fun u => u.playback.effective) stu
    · exact congrArg (fun u => u.playback.depth) stu
    · exact congrArg (fun u => u.playback.state) stu
    · exact congrArg (fun u => u.capture.effective) stu
    · exact congrArg (fun u => u.capture.depth) stu
    · exact congrArg (fun u => u.capture.state) stu
    · exact congrArg Rme.frameCount (changeRate_rme r s)
    · have routes : (changeRate r s).rme.routes = _ := congrArg Rme.routes (changeRate_rme r s)
      have hq : q ∈ (changeRate r s).rme.routes := hq
      rw [routes] at hq
      obtain ⟨p, -, rfl⟩ := List.mem_map.mp hq
      exact atRateChange_steady p
    · have buses : (changeRate r s).rme.buses = _ := congrArg Rme.buses (changeRate_rme r s)
      have hl : l ∈ (changeRate r s).rme.buses := hl
      rw [buses] at hl
      obtain ⟨p, -, rfl⟩ := List.mem_map.mp hl
      exact finishRamp_ramp p
    · show (changeRate r s).rme.rampLength = _
      rw [changeRate_rme]
      rfl

end

section
/-! PROOFS. What a link reset and a suspend reach (O16). -/

namespace Sys2Proof.Machine

open Safety

/-! ## The clock when a source is lost (R23, R34, R37, R38) -/

section
variable {c : Cku} {x : ClockSource}

theorem lost_unusable (seven : c.sources.length = 7) : (c.putRec x (c.record x).lost).usable x = false := by
  unfold Cku.usable
  rw [record_putRec_self seven]
  rfl

theorem clockRecords_lost (h : ClockSound c) (external : x ≠ .internal) : ClockRecords (c.putRec x (c.record x).lost) := by
  obtain ⟨records, -⟩ := clockSound_iff.mp h
  exact clockRecords_putRec records external (sourceSound_lost (records.sound external))

theorem fixedSource_lost (h : ClockSound c) (fixed : c.mode = .fixed) : FixedSource (c.putRec x (c.record x).lost) := by
  obtain ⟨-, -, free, locked, -, held, -, which⟩ := clockSound_iff.mp h
  exact ⟨free, fun is => (locked is).1, fun is => (held is).2.1,
    (which fixed).imp id fun ⟨internal, external, fallen, _⟩ => ⟨internal, external, fallen⟩⟩

theorem lose_of_auto (auto : c.mode = .auto) : c.lose x =
    if c.source = x then (c.putRec x (c.record x).lost).selectAuto .sourceLost false else (c.putRec x (c.record x).lost, none) := by
  unfold Cku.lose
  dsimp only
  rw [show (c.putRec x (c.record x).lost).mode = .auto from auto]
  rfl

theorem lose_of_fixed (fixed : c.mode = .fixed) : c.lose x =
    if c.fixedSource = x then (c.putRec x (c.record x).lost).selectFixed .sourceLost false else (c.putRec x (c.record x).lost, none) := by
  unfold Cku.lose
  dsimp only
  rw [show (c.putRec x (c.record x).lost).mode = .fixed from fixed]
  rfl

section
variable (h : ClockSound c) (external : x ≠ .internal)
include h external

/-- A source that the clock is not on is lost without a word of the clock. -/
theorem lose_apart (apart : c.source ≠ x) : c.lose x = (c.putRec x (c.record x).lost, none) := by
  have lost : (c.putRec x (c.record x).lost).usable x = false := lost_unusable (clockSound_iff.mp h).1.seven
  cases mode : c.mode with
  | auto => rw [lose_of_auto mode, if_neg apart]
  | fixed =>
    rw [lose_of_fixed mode]
    by_cases own : c.fixedSource = x
    · rw [if_pos own]
      have own' : (c.putRec x (c.record x).lost).fixedSource = x := own
      exact fixed_waits (fixedSource_lost h mode) (by rw [own']; exact external) (by rw [own']; exact lost) fun on =>
        apart (on.1.trans own)
    · exact if_neg own

theorem lose_auto (on : c.source = x) (auto : c.mode = .auto) : ∃ y, c.priority.find? (c.putRec x (c.record x).lost).usable = some y ∧
    c.lose x = ((c.putRec x (c.record x).lost).startSwitch y, some .sourceLost) := by
  have records := clockRecords_lost h external
  have lost : (c.putRec x (c.record x).lost).usable x = false := lost_unusable (clockSound_iff.mp h).1.seven
  have fallback : (c.putRec x (c.record x).lost).fallback = .none := ((clockSound_iff.mp h).2.2.2.2.2.2.1 auto).1
  refine ⟨_, find_usable records, ?_⟩
  rw [lose_of_auto auto, if_pos on, selectAuto_switches, ← fallback]
  intro is
  have there := (firstUsable_spec records).1
  rw [← is, show (c.putRec x (c.record x).lost).source = x from on, lost] at there
  cases there

theorem lose_fixed (on : c.source = x) (fixed : c.mode = .fixed) :
    c.lose x = if c.clock = .holdover then (c.putRec x (c.record x).lost, none)
      else ((c.putRec x (c.record x).lost).enterHoldover x, some .sourceLost) := by
  obtain ⟨-, -, -, -, -, -, -, which⟩ := clockSound_iff.mp h
  obtain ⟨own, fallback⟩ | ⟨internal, -⟩ := which fixed
  · have own : c.fixedSource = x := own.symm.trans on
    have own' : (c.putRec x (c.record x).lost).fixedSource = x := own
    have lost : (c.putRec x (c.record x).lost).usable x = false := lost_unusable (clockSound_iff.mp h).1.seven
    have known := fixedSource_lost (x := x) h fixed
    rw [lose_of_fixed fixed, if_pos own]
    split
    · rename_i held
      exact fixed_waits known (by rw [own']; exact external) (by rw [own']; exact lost) fun on => on.2 held
    · rename_i moving
      have same : (c.putRec x (c.record x).lost).fallback = .none := fallback
      refine (fixed_holds known (by rw [own']; exact external) (by rw [own']; exact lost) ⟨on.trans own.symm, moving⟩).trans ?_
      rw [← same]
      exact congrArg (fun y => ((c.putRec x (c.record x).lost).enterHoldover y, some ClockReason.sourceLost)) own'
  · exact absurd (on.symm.trans internal) external

end

end

/-- R23, R34, R37, R38: what the clock becomes when an external source is lost. -/
theorem losesSource_lose {x : ClockSource} {s t : State} (sound : ClockSound s.cku) (external : x ≠ .internal) (cku : t.cku = (s.cku.lose x).1) :
    losesSource x s t := by
  refine ⟨fun apart => ?_, fun on auto => ?_, fun on fixed moving => ?_, fun on fixed held => ?_⟩
  · rw [cku, lose_apart sound external apart]
    rfl
  · obtain ⟨y, found, same⟩ := lose_auto sound external on auto
    rw [same] at cku
    exact ⟨y, found, cku ▸ switchedTo_startSwitch _ y, by rw [cku]; rfl⟩
  · rw [cku, lose_fixed sound external on fixed, if_neg moving]
    simp only [Cku.enterHoldover, ← on]
    rfl
  · rw [cku, lose_fixed sound external on fixed, if_pos held]
    rfl

/-! ## What a lost link leaves -/

/-- What the clock, the streams, the ports and the mixer are after the streams are reset and, where LINK was present, its record is
lost (R2, R23, R70, R71). -/
structure LinkLost (s t : State) : Prop where
  cku : t.cku = if s.present .link then (s.cku.lose .link).1 else s.cku
  stu : t.stu = if s.present .link then (s.stu.linkReset s.cku.counter).clockEvent s.cku.clock (s.cku.lose .link).1.clock
    (s.cku.lose .link).2.isSome else s.stu.linkReset s.cku.counter
  ptu : t.ptu = if s.present .link then (portsBy (portAtClock s.cku (s.cku.lose .link).1) s.ptu).1 else s.ptu
  rme : t.rme = if s.present .link then { s.rme with overload := t.ptu.map Port.handsOverload } else s.rme
  reach : Reaches ([.link, .answer] ++ recordParts ++ clockReach) s t

section
variable {s t u : State}

theorem linkLost_losePresence (cku : u.cku = s.cku) (stu : u.stu = s.stu.linkReset s.cku.counter) (ptu : u.ptu = s.ptu) (rme : u.rme = s.rme)
    (link : u.lif.link ≠ .configured) (reach : Reaches ([.link, .stu] ++ recordParts) s u) (notes : List NoticeBody) :
    LinkLost s (losePresence .link (s.present .link) notes [] u) := by
  have away : u.present .link = false := by simp [State.present, link]
  have all : Reaches ([.link, .answer] ++ recordParts ++ clockReach) s (losePresence .link (s.present .link) notes [] u) :=
    reach.andThen (reaches_losePresence ..)
  obtain ⟨was, -, same⟩ | ⟨not, same⟩ := losePresence_cases .link (s.present .link) notes [] u
  · refine ⟨?_, ?_, ?_, ?_, all⟩ <;> rw [if_pos was, same, clockChange_eq]
    · rw [cku]
      rfl
    · rw [cku, stu]
      rfl
    · rw [cku, ptu]
      rfl
    · rw [← rme]
      rfl
  · have was : ¬ s.present .link = true := fun was => not ⟨was, away⟩
    refine ⟨?_, ?_, ?_, ?_, all⟩ <;> rw [if_neg was, same, notifyAll_eq]
    · exact cku
    · exact stu
    · exact ptu
    · exact rme

theorem linkLost_of_reaches {ps : List Part} (h : LinkLost s t) (r : Reaches ps t u) (only : ps ⊆ .answer :: recordParts := by decide) :
    LinkLost s u := by
  have frame := (r.to only).frame
  have cku : u.cku = t.cku := frame .cku (by decide)
  have stu : u.stu = t.stu := frame .stu (by decide)
  have ptu : u.ptu = t.ptu := frame .ptu (by decide)
  have rme : u.rme = t.rme := frame .rme (by decide)
  exact ⟨cku ▸ h.cku, stu ▸ h.stu, ptu ▸ h.ptu, by rw [rme, ptu]; exact h.rme, h.reach.andThen (r.to only)⟩

/-- R2, R46, R73, R92, R151, R152, R167, R171, R184, R193: the rest runs on. -/
theorem LinkLost.runsOn (h : LinkLost s t) : runsOn s t := by
  have frame := h.reach.frame
  obtain ⟨mask, lampA, lampB, cause⟩ : Part.settings.same s t := frame .settings (by decide)
  have rme : t.rme = { s.rme with overload := t.rme.overload } := by
    rw [h.rme]
    split <;> rfl
  obtain ⟨rate, priority, mode, fixedSource, revert, counter, others⟩ : t.cku.rate = s.cku.rate ∧ t.cku.priority = s.cku.priority ∧
      t.cku.mode = s.cku.mode ∧ t.cku.fixedSource = s.cku.fixedSource ∧ t.cku.revert = s.cku.revert ∧ t.cku.counter = s.cku.counter ∧
      ∀ x ∈ externalSources, x ≠ .link → t.cku.record x = s.cku.record x := by
    rw [h.cku]
    split
    · have moves := moves_lose s.cku .link
      refine ⟨?_, ?_, ?_, ?_, ?_, ?_, fun x _ apart => (moves.record x).trans (record_putRec_ne apart.symm ..)⟩ <;>
      · rw [show (s.cku.lose .link).1 = _ from moves]
        rfl
    · exact ⟨rfl, rfl, rfl, rfl, rfl, rfl, fun _ _ _ => rfl⟩
  exact ⟨mask, lampA, lampB, cause, frame .sbc (by decide), frame .mtb (by decide), frame .evf (by decide), frame .sou (by decide),
    frame .bdt (by decide), frame .fsv (by decide), frame .phase (by decide), frame .pending (by decide), frame .reference (by decide),
    rme, rate, priority, mode, fixedSource, revert, counter, others⟩

theorem recentre_idle {p : Playback} (idle : p.state = .idle) : p.recentre = p := by
  unfold Playback.recentre
  rw [if_pos (by simp [idle])]

/-- Streams that are IDLE take only the latch from an event of the clock. -/
theorem clockEvent_idle {u : Stu} (idle : u.playback.state = .idle) (before after : ClockState) (raised : Bool) :
    u.clockEvent before after raised = { u with capture := { u.capture with
      unsteady := (u.clockEvent before after raised).capture.unsteady } } := by
  unfold Stu.clockEvent
  dsimp only
  split <;> split <;> simp [recentre_idle idle]

theorem LinkLost.streamsReset (h : LinkLost s t) : streamsReset s t := by
  unfold Safety.streamsReset
  rw [h.stu]
  split
  · rw [clockEvent_idle rfl]
    exact ⟨rfl, rfl, rfl, rfl⟩
  · exact ⟨rfl, rfl, rfl, rfl⟩

theorem LinkLost.record (h : LinkLost s t) (seven : s.cku.sources.length = 7) (was : s.present .link = true) :
    t.cku.record .link = (s.cku.record .link).lost := by
  rw [h.cku, if_pos was]
  exact ((moves_lose s.cku .link).record .link).trans (record_putRec_self seven ..)

theorem LinkLost.losesSource (h : LinkLost s t) (sound : ClockSound s.cku) (was : s.present .link = true) : losesSource .link s t :=
  losesSource_lose sound link_external (h.cku.trans (if_pos was))

/-- The clock is on another source: the ports, the latch and the mixer are as they were. -/
theorem LinkLost.apart (h : LinkLost s t) (sound : ClockSound s.cku) (apart : s.cku.source ≠ .link) :
    t.ptu = s.ptu ∧ t.stu.capture.unsteady = false ∧ (s.rme.overload = s.ptu.map Port.handsOverload → t.rme = s.rme) := by
  have lost := lose_apart sound link_external apart
  have ptu : t.ptu = s.ptu := by
    rw [h.ptu, lost]
    split
    · refine List.ext_getElem? fun i => ?_
      have still : portAtClock s.cku (s.cku.putRec .link (s.cku.record .link).lost) i = fun p => (p, none) := funext fun p => by
        refine if_pos ⟨rfl, ?_⟩
        simp only [ownStanding, Cku.putRec, sourceCode, List.getD_eq_getElem?_getD]
        rw [List.getElem?_set_ne (by omega)]
      rw [portsBy_getElem?, still]
      cases s.ptu[i]? <;> rfl
    · rfl
  refine ⟨ptu, ?_, fun overload => ?_⟩
  · rw [h.stu, lost]
    split
    · show (Stu.clockEvent _ s.cku.clock s.cku.clock false).capture.unsteady = false
      cases s.cku.clock <;> rfl
    · rfl
  · rw [h.rme, ptu, ← overload]
    split <;> rfl

/-! ## The notices of a lost link (log 33) -/

/-- What one event tells when LINK is lost: few notices, of the clock, of one source and of the ports. -/
theorem lostNotices (c : Cku) (moves : ∀ x, x ≠ .link → (c.record x).standing = (s.cku.record x).standing) :
    (sourceNotices s.cku c).length ≤ 1 := by
  have others (xs : List ClockSource) (away : ClockSource.link ∉ xs) : xs.filterMap (fun x =>
      if (s.cku.record x).standing = (c.record x).standing then none
      else some (NoticeBody.sourceState x (s.cku.record x).standing (c.record x).standing (c.record x).quality)) = [] := by
    rw [List.filterMap_eq_nil_iff]
    exact fun x hx => if_pos (moves x fun is => away (is ▸ hx)).symm
  rw [sourceNotices, show externalSources = [.wordclock] ++ [.link] ++ [.port 0, .port 1, .port 2, .port 3] from rfl, List.filterMap_append,
    List.filterMap_append, others [.wordclock] (by simp), others [.port 0, .port 1, .port 2, .port 3] (by simp), List.nil_append, List.append_nil]
  exact List.length_filterMap_le ..

theorem clockNotices_codes (before after : Cku) (reason : Option ClockReason) (ps : List Port) :
    ∀ b ∈ sourceNotices before after ++ clockNotice after reason ++ (portsBy (portAtClock before after) ps).2, b.code ∈ [1, 2, 5] := by
  intro b hb
  simp only [List.mem_append] at hb
  obtain (source | clock) | port := hb
  · obtain ⟨x, -, is⟩ := List.mem_filterMap.mp source
    split at is
    · cases is
    · cases is
      simp [NoticeBody.code]
  · cases reason with
    | none => cases clock
    | some r =>
      obtain rfl := List.mem_singleton.mp clock
      simp [NoticeBody.code]
  · obtain ⟨x, -, is⟩ := List.mem_filterMap.mp port
    obtain ⟨r, -, rfl⟩ := Option.map_eq_some_iff.mp is
    simp [Port.stateNotice, NoticeBody.code]

theorem alone_of_code {b : NoticeBody} (codes : b.code ∈ [1, 2, 5]) : b.Alone := by
  unfold NoticeBody.Alone
  simp only [List.mem_cons, List.not_mem_nil, or_false] at codes ⊢
  omega

theorem enqueueAll_gap {m : Msu} {bs : List NoticeBody} (gap : m.gap = false) (room : m.notices.length + bs.length ≤ 64) :
    (bs.foldl Msu.enqueue m).gap = false := by
  induction bs generalizing m with
  | nil => exact gap
  | cons b rest ih =>
    have one := enqueue_length (m := m) (b := b)
    rw [List.length_cons] at room
    refine ih ?_ (by omega)
    obtain ⟨-, h⟩ | ⟨-, -, h⟩ | ⟨-, -, full, -⟩ | ⟨-, -, -, h⟩ := enqueue_cases m b
    · rw [h, gap]
    · rw [h]
      exact gap
    · omega
    · rw [h]

/-- The notices that the loss of LINK hands over, with those of the event itself. -/
structure LostTold (s t : State) (notes bs : List NoticeBody) : Prop where
  msu : t.msu = if s.phase = .resetting then s.msu else bs.foldl Msu.enqueue s.msu
  few : bs.length ≤ notes.length + 6
  only : ∀ b ∈ bs, b ∈ notes ∨ b.code ∈ [1, 2, 5]
  notes : ∀ b ∈ notes, b ∈ bs

theorem losePresence_told (u : State) (was : Bool) (notes : List NoticeBody) (seven : u.cku.sources.length = 7) (four : u.ptu.length = 4) :
    ∃ bs, LostTold u (losePresence .link was notes [] u) notes bs ∧ (was = true → u.present .link = false →
      (u.cku.record .link).standing ≠ .absent → .sourceState .link (u.cku.record .link).standing .absent 255 ∈ bs) := by
  obtain ⟨-, -, same⟩ | ⟨not, same⟩ := losePresence_cases .link was notes [] u
  · obtain ⟨c, hc⟩ : ∃ c, c = (u.cku.lose .link).1 := ⟨_, rfl⟩
    have moves := moves_lose u.cku .link
    have record : c.record .link = (u.cku.record .link).lost := hc ▸ (moves.record .link).trans (record_putRec_self seven ..)
    have others (x : ClockSource) (apart : x ≠ .link) : (c.record x).standing = (u.cku.record x).standing := by
      rw [hc, moves.record, record_putRec_ne apart.symm]
    have perm := mergeNotices_perm u.fresh (sourceNotices u.cku c ++ clockNotice c (u.cku.lose .link).2) notes
      ([] ++ (portsBy (portAtClock u.cku c) u.ptu).2) []
    have codes := clockNotices_codes u.cku c (u.cku.lose .link).2 u.ptu
    refine ⟨_, ⟨?_, ?_, fun b hb => ?_, fun b hb => perm.mem_iff.mpr (by simp [hb])⟩, fun _ _ some => perm.mem_iff.mpr ?_⟩
    · rw [same, ← hc, clockChange, notifyMerged_eq]
      rfl
    · have sources := lostNotices c others
      have clock := clockNotice_length c (u.cku.lose .link).2
      have ports := portsBy_notices_length (portAtClock u.cku c) u.ptu
      rw [perm.length_eq]
      simp only [List.length_append, List.length_nil]
      omega
    · have hb := perm.mem_iff.mp hb
      simp only [List.nil_append, List.append_nil, List.mem_append] at hb codes
      obtain clock | note | port := hb
      · exact .inr (codes b (.inl clock))
      · exact .inl note
      · exact .inr (codes b (.inr port))
    · simp only [List.mem_append]
      refine .inl (.inl (List.mem_filterMap.mpr ⟨.link, by decide, ?_⟩))
      rw [if_neg (by rw [record]; exact some), record]
      rfl
  · refine ⟨notes, ⟨?_, Nat.le_add_right .., fun b => .inl, fun b => id⟩, fun was away => absurd ⟨was, away⟩ not⟩
    rw [same, notifyAll_eq, List.append_nil]
    rfl

theorem suspendNotices_spec (u : Stu) : u.suspendNotices.length ≤ 2 ∧ (∀ b ∈ u.suspendNotices, b.Alone) ∧
    (u.playback.state ≠ .idle → .streamState .playback u.playback.state .idle .suspended false false u.playback.effective u.playback.depth ∈
      u.suspendNotices) ∧
    (u.capture.state ≠ .idle → .streamState .capture u.capture.state .idle .suspended false false u.capture.effective u.capture.depth ∈
      u.suspendNotices) := by
  unfold Stu.suspendNotices Playback.stateNotice Capture.stateNotice
  dsimp only
  refine ⟨?_, fun b hb => ?_, fun on => ?_, fun on => ?_⟩
  · split <;> split <;> simp
  · obtain mem | mem := List.mem_append.mp hb <;> split at mem
    · cases mem
    · obtain rfl := List.mem_singleton.mp mem
      simp [NoticeBody.Alone, NoticeBody.code]
    · cases mem
    · obtain rfl := List.mem_singleton.mp mem
      simp [NoticeBody.Alone, NoticeBody.code]
  · rw [if_neg on]
    exact List.mem_append_left _ List.mem_cons_self
  · rw [if_neg on]
    exact List.mem_append_right _ List.mem_cons_self

/-! ## The link events of the table -/

/-- The records of the LIF and the MSU after a link reset (R2, R17): only what the event itself tells. -/
def RecordsEmptied (t : State) : Prop :=
  t.lif.transmit = none ∧ t.msu.commands = [] ∧ t.msu.replies = [] ∧ t.msu.gap = false ∧ ∀ n ∈ t.msu.notices, n.body.code ∈ [1, 2, 5]

theorem recordsEmptied_linkReset (s : State) (l : LinkState) (seven : s.cku.sources.length = 7) (four : s.ptu.length = 4) :
    RecordsEmptied (linkReset l s) := by
  unfold linkReset
  dsimp only
  split
  · obtain ⟨u, hu⟩ : ∃ u, u = emptyRecords ((setLink l s).withStu (s.stu.linkReset s.cku.counter)) := ⟨_, rfl⟩
    rw [← hu]
    obtain ⟨bs, told, -⟩ := losePresence_told u (s.present .link) [] (by rw [hu]; exact seven) (by rw [hu]; exact four)
    have empty : u.msu.notices = [] ∧ u.msu.gap = false := by rw [hu]; exact ⟨rfl, rfl⟩
    have reach := (reaches_losePresence .link (s.present .link) [] [] u).frame
    have few := told.few
    refine ⟨?_, ?_, ?_, ?_, fun n hn => ?_⟩
    · rw [show Part.transmit.same _ _ from reach .transmit (by decide), hu]
      rfl
    · rw [show Part.commands.same _ _ from reach .commands (by decide), hu]
      rfl
    · rw [show Part.replies.same _ _ from reach .replies (by decide), hu]
      rfl
    · rw [told.msu]
      split
      · exact empty.2
      · refine enqueueAll_gap empty.2 ?_
        rw [empty.1]
        simp only [List.length_nil] at few ⊢
        omega
    · rw [told.msu] at hn
      split at hn
      · rw [empty.1] at hn
        cases hn
      · obtain old | new := enqueueAll_mem hn
        · rw [empty.1] at old
          cases old
        · exact (told.only _ new).resolve_left nofun
  · generalize losePresence .link _ [] [] _ = v
    exact ⟨rfl, rfl, rfl, rfl, by simp [emptyRecords]⟩

theorem linkLost_linkReset (s : State) {l : LinkState} (away : l ≠ .configured) : LinkLost s (linkReset l s) := by
  have start : Reaches [.link, .stu] s ((setLink l s).withStu (s.stu.linkReset s.cku.counter)) :=
    ⟨fun p hp => by cases p <;> simp_all [Part.same, setLink], id⟩
  unfold linkReset
  dsimp only
  split
  · exact linkLost_losePresence (s := s) (u := emptyRecords ((setLink l s).withStu (s.stu.linkReset s.cku.counter))) rfl rfl rfl rfl away
      (start.andThen (reaches_emptyRecords _) (rs := [.link, .stu] ++ recordParts)) []
  · exact linkLost_of_reaches (linkLost_losePresence (s := s) (u := (setLink l s).withStu (s.stu.linkReset s.cku.counter)) rfl rfl rfl rfl away
      (start.to (qs := [.link, .stu] ++ recordParts)) []) (reaches_emptyRecords _)

theorem linkLost_suspendLink (s : State) (b : Bool) : LinkLost s (suspendLink b s) := by
  have start : Reaches [.link, .stu] s ((setLink (.suspended b) s).withStu (s.stu.linkReset s.cku.counter)) :=
    ⟨fun p hp => by cases p <;> simp_all [Part.same, setLink], id⟩
  exact linkLost_losePresence (s := s) (u := (setLink (.suspended b) s).withStu (s.stu.linkReset s.cku.counter)) rfl rfl rfl rfl (by simp [setLink])
    (start.to (qs := [.link, .stu] ++ recordParts)) _

/-- The records of the LIF and the MSU after a suspend (R18, R71): they stay, and what is told of the streams and of LINK joins them. -/
def RecordsTold (s t : State) : Prop :=
  t.lif.transmit = s.lif.transmit ∧ t.msu.commands = s.msu.commands ∧ t.msu.replies = s.msu.replies ∧
  (∃ more, t.msu.notices = s.msu.notices ++ more) ∧
  (HasRoom 8 s →
    (s.stu.playback.state ≠ .idle → Heard (.streamState .playback s.stu.playback.state .idle .suspended
      false false s.stu.playback.effective s.stu.playback.depth) t) ∧
    (s.stu.capture.state ≠ .idle → Heard (.streamState .capture s.stu.capture.state .idle .suspended
      false false s.stu.capture.effective s.stu.capture.depth) t) ∧
    (s.present .link = true → (s.cku.record .link).standing ≠ .absent →
      Heard (.sourceState .link (s.cku.record .link).standing .absent 255) t))

theorem recordsTold_suspendLink (s : State) (b : Bool) (seven : s.cku.sources.length = 7) (four : s.ptu.length = 4) :
    RecordsTold s (suspendLink b s) := by
  have frame := (reaches_suspendLink b s).frame
  obtain ⟨few, alone, playback, capture⟩ := suspendNotices_spec s.stu
  obtain ⟨bs, told, source⟩ := losePresence_told ((setLink (.suspended b) s).withStu (s.stu.linkReset s.cku.counter)) (s.present .link)
    s.stu.suspendNotices seven four
  have msu : (suspendLink b s).msu = if s.phase = .resetting then s.msu else bs.foldl Msu.enqueue s.msu := told.msu
  have each : ∀ c ∈ bs, c.Alone := fun c hc => (told.only c hc).elim (alone c) alone_of_code
  refine ⟨frame .transmit (by decide), frame .commands (by decide), frame .replies (by decide), ?_, fun ⟨phase, mask, room⟩ => ?_⟩
  · rw [msu]
    split
    · exact ⟨[], (List.append_nil _).symm⟩
    · exact enqueueAll_appends each
  · have enough := told.few
    have heard {x : NoticeBody} (mem : x ∈ bs) : Heard x (suspendLink b s) := by
      rw [Heard, msu, if_neg phase]
      exact enqueueAll_heard mask (by omega) mem fun c _ _ => ((each x mem).not_coalesces c).1
    exact ⟨fun on => heard (told.notes _ (playback on)), fun on => heard (told.notes _ (capture on)),
      fun was some => heard (source was rfl some)⟩

/-- Each link reset and each entry to SUSPENDED of the table loses LINK (R1, R2, R18). -/
theorem linkLeft_leads {c : Instr} {s : State} (left : linkLeft c s.lif.link = true) (seven : s.cku.sources.length = 7) (four : s.ptu.length = 4) :
    ∃ t, exec c s = .next t ∧ LinkLost s t ∧ if c = .busIdleSuspend then RecordsTold s t else RecordsEmptied t := by
  have empties (l : LinkState) := recordsEmptied_linkReset s l seven four
  have tells (b : Bool) := recordsTold_suspendLink s b seven four
  unfold linkLeft at left
  split at left
  case h_1 is | h_2 is =>
    refine ⟨linkReset .attached s, ?_, linkLost_linkReset s nofun, empties .attached⟩
    simp only [exec, execBusReset, leaveLink, is]
    rfl
  case h_3 is | h_4 is =>
    refine ⟨linkReset .detached s, ?_, linkLost_linkReset s nofun, empties .detached⟩
    simp only [exec, execDisconnection, leaveLink, is]
  case h_5 is =>
    refine ⟨answerLink .accepted (linkReset .attached s), ?_, linkLost_of_reaches (linkLost_linkReset s (l := .attached) nofun) (reaches_answerLink ..),
      empties .attached⟩
    simp only [exec, execSelectConfiguration, leaveLink, is]
    exact congrArg Host.Outcome.next (if_pos (by simp [State.answersSetup, is]))
  case h_6 is =>
    refine ⟨suspendLink false s, ?_, linkLost_suspendLink s false, tells false⟩
    simp only [exec, execBusIdleSuspend, is]
  case h_7 is =>
    refine ⟨suspendLink true s, ?_, linkLost_suspendLink s true, tells true⟩
    simp only [exec, execBusIdleSuspend, is]
  case h_8 => cases left

end

end Sys2Proof.Machine

open Sys2Proof.Machine Sys2Proof.Safety in
/-- Settles O16, event by event: each link reset and each suspend loses LINK alike, and differs in the records. -/
theorem linkLossReachesOnlyItsBlocks : Obligations.LinkLossReachesOnlyItsBlocks := by
  intro c s seven four left
  obtain ⟨t, hx, lost, records⟩ := linkLeft_leads left seven four
  refine ⟨t, hx, lost.runsOn, lost.streamsReset, fun away => ?_, fun was => ?_, lost.losesSource, lost.apart, records⟩
  · have not : ¬ s.present .link = true := by simp [away]
    exact ⟨lost.cku.trans (if_neg not), lost.ptu.trans (if_neg not), lost.rme.trans (if_neg not)⟩
  · rw [lost.record seven was]
    exact ⟨rfl, rfl, rfl⟩

end

section
/-! PROOFS. The streams' commands, packets and reports (O28, O29, O31). -/

namespace Sys2Proof.Machine

open Safety

/-! ## A stream stopped (R23, R50) -/

theorem clockEvent_active (u : Stu) (before after : ClockState) (raised : Bool) : (u.clockEvent before after raised).active = u.active := by
  unfold Stu.active
  rw [clockEvent_playback_state, clockEvent_capture_state]

/-- While a stream runs, LINK stays present, and the stop only tells its notices. -/
theorem losePresence_active {u : State} (was : Bool) (notes : List NoticeBody) (on : u.stu.active = true)
    (here : was = true → u.lif.link = .configured) : losePresence .link was notes [] u = notifyAll notes u := by
  obtain ⟨w, away, -⟩ | ⟨-, same⟩ := losePresence_cases .link was notes [] u
  · simp [State.present, here w, on] at away
  · rw [same, List.append_nil]

/-- With the last stream LINK stops being present (R22, R23). -/
theorem losePresence_last {u : State} (notes : List NoticeBody) (off : u.stu.active = false) :
    losePresence .link true notes [] u = clockChange (u.cku.lose .link).1 (u.cku.lose .link).2 notes [] u := by
  obtain ⟨-, -, same⟩ | ⟨not, -⟩ := losePresence_cases .link true notes [] u
  · exact same
  · exact absurd ⟨rfl, by simp [State.present, off]⟩ not

theorem losePresence_stu (x : ClockSource) (was : Bool) (stu ptu : List NoticeBody) (u : State) :
    (losePresence x was stu ptu u).stu = u.stu ∨
      ∃ after raised, (losePresence x was stu ptu u).stu = u.stu.clockEvent u.cku.clock after raised := by
  obtain ⟨-, -, same⟩ | ⟨-, same⟩ := losePresence_cases x was stu ptu u <;> rw [same]
  · exact .inr ⟨_, _, clockChange_stu ..⟩
  · exact .inl (by rw [notifyAll_eq]; rfl)

/-- The streams after a stop: only the latch may follow the clock, and only with no stream left running. -/
theorem stopStream_stu {s : State} {v : Stu} {notes : List NoticeBody} {t : State}
    (is : t = losePresence .link (s.present .link) notes [] (s.withStu v)) (idle : v.active = false → v.playback.state = .idle) :
    t.stu = { v with capture := { v.capture with unsteady := t.stu.capture.unsteady } } ∧ t.stu.active = v.active ∧
      (v.active = true → t.stu = v) := by
  have active : t.stu.active = v.active := by
    rw [is]
    obtain same | ⟨after, raised, same⟩ := losePresence_stu .link (s.present .link) notes [] (s.withStu v) <;> rw [same]
    · rfl
    · exact clockEvent_active ..
  have runs (on : v.active = true) : t.stu = v := by
    have link : s.present .link = true → s.lif.link = .configured := by simp +contextual [State.present]
    rw [is, losePresence_active (u := s.withStu v) (s.present .link) notes on link, notifyAll_eq]
    rfl
  refine ⟨?_, active, runs⟩
  cases on : v.active with
  | true => rw [runs on]
  | false =>
    rw [is]
    obtain same | ⟨after, raised, same⟩ := losePresence_stu .link (s.present .link) notes [] (s.withStu v) <;> rw [same]
    · rfl
    · exact clockEvent_idle (idle on) ..

theorem stopped_state (u : Stu) (counter : Stamp) (id : StreamId) : (u.stopped counter id).1.state id = .idle := by cases id <;> rfl

theorem active_of_state {u : Stu} {id : StreamId} (on : u.state id ≠ .idle) : u.active = true := by
  cases id <;> simp only [Stu.state] at on <;> simp [Stu.active, on]

theorem streamConfig_range {selector channels : Byte} {depth : Half} {s : State}
    (bad : streamOf selector = none ∨ depthOf depth = none ∨ channels.toNat = 0 ∨ 32 < channels.toNat) :
    handleStreamConfig selector channels depth s = refuse s .outOfRange := by
  unfold handleStreamConfig
  split
  · rename_i id d hid hd
    simp only [hid, hd, reduceCtorEq, false_or] at bad
    exact if_pos (by omega)
  · rfl

end Sys2Proof.Machine

open Sys2Proof.Machine Sys2Proof.Safety in
/-- Settles O28, command by command; a stop with no stream left running loses LINK. -/
theorem streamCommands : Obligations.StreamCommands := by
  intro tag selector channels depth s takes
  refine ⟨fun bad => exec_refused rfl rfl takes (streamConfig_range bad), fun id hid => ⟨fun d hd least most => ?_, fun shut => ?_,
    fun idle linked => ?_, fun idle => ?_, fun on seven => ?_⟩⟩
  · refine (exec_taken rfl rfl takes).trans ?_
    unfold handleStreamConfig
    simp only [hid, hd]
    rw [if_neg (by omega)]
    split
    · rfl
    · split
      · rfl
      · cases id <;> rfl
  · refine exec_refused rfl rfl takes ?_
    unfold handleStreamStart
    simp only [hid]
    exact if_pos shut
  · have accepted : handleStreamStart selector s = accept (startStream id s) none := by
      unfold handleStreamStart
      simp only [hid]
      exact if_neg (by simp [idle, linked])
    have reach : Reaches [.records, .stu] s (startStream id s) := reaches_startStream ..
    refine ⟨_, exec_accepted rfl rfl takes accepted, answered_of_reaches reach, keepsBut_queueReply (keepsBut_of_reaches reach (by decide)) _, ?_⟩
    have stu : (queueReply ⟨0x19, tag, .ok, none⟩ (startStream id s)).stu = match id with
        | .playback => { s.stu with playback := s.stu.playback.start }
        | .capture => { s.stu with capture := s.stu.capture.start s.cku.counter s.cku.clock } := by
      cases id <;> simp only [startStream, notify_eq] <;> rfl
    rw [stu]
    cases id <;> exact ⟨rfl, rfl, by simp [Playback.start, Playback.cleared, Playback.emptied, zeroFrame], by simp [Capture.start]⟩
  · refine exec_accepted rfl rfl takes ?_
    unfold handleStreamStop
    simp only [hid]
    exact if_pos idle
  · obtain ⟨v, hv⟩ : ∃ v, v = (s.stu.stopped s.cku.counter id).1 := ⟨_, rfl⟩
    obtain ⟨t, is⟩ : ∃ t, t = losePresence .link (s.present .link) [(s.stu.stopped s.cku.counter id).2] [] (s.withStu v) := ⟨_, rfl⟩
    have accepted : handleStreamStop selector s = accept t none := by
      unfold handleStreamStop
      simp only [hid, is, hv]
      exact if_neg on
    have reach : Reaches clockReach s t := by
      have streams := reaches_handleStreamStop s selector
      rwa [accepted] at streams
    have only : Reaches [.records, .stu] s t ∨ v.active = false := by
      cases active : v.active with
      | false => exact .inr rfl
      | true =>
        have link : s.present .link = true → s.lif.link = .configured := by simp +contextual [State.present]
        have same := losePresence_active (u := s.withStu v) (s.present .link) [(s.stu.stopped s.cku.counter id).2] active link
        rw [is, same]
        exact .inl ((reaches_withStu s v).andThen (reaches_notifyAll ..))
    obtain ⟨stu, active, runs⟩ := stopStream_stu is fun off => by
      simpa [Stu.active] using (Bool.or_eq_false_iff.mp off).1
    refine ⟨_, exec_accepted rfl rfl takes accepted, answered_of_reaches reach, keepsBut_queueReply (keepsBut_of_reaches reach (by decide)) _, ?_,
      ?_, ?_, ?_, ?_, fun off linked => ?_, fun still => ?_⟩
    · show t.stu.state id = .idle
      have gone := stopped_state s.stu s.cku.counter id
      rw [← hv] at gone
      rw [stu]
      cases id <;> exact gone
    · rintro rfl
      refine ⟨?_, ?_, fun still => ?_⟩
      · show t.stu.playback = _
        rw [stu, hv]
        rfl
      · show t.stu.capture = { s.stu.capture with unsteady := t.stu.capture.unsteady }
        rw [stu, hv]
        rfl
      · show t.stu.capture = _
        rw [runs (active.symm.trans still), hv]
        rfl
    · show t.stu.ring = _
      rw [stu, hv]
      cases id <;> rfl
    · show t.stu.lastReport = _
      rw [stu, hv]
      cases id <;> rfl
    · rintro rfl
      refine ⟨?_, ?_⟩
      · show t.stu.playback = _
        rw [stu, hv]
        rfl
      · show t.stu.capture = { s.stu.capture with
          state := .idle, buffer := [], headStamp := s.cku.counter + 1, unsteady := t.stu.capture.unsteady }
        rw [stu, hv]
        rfl
    · show (t.cku.record .link).standing = .absent
      have was : s.present .link = true := by simp [State.present, linked, active_of_state on]
      rw [is, was, losePresence_last (u := s.withStu v) _ (active.symm.trans off), clockChange_cku]
      exact lose_absent seven .link
    · exact keepsBut_queueReply (keepsBut_of_reaches (only.resolve_right (by rw [← active, show t.stu.active = true from still]; simp)) (by decide)) _

end

section
/-! PROOFS. The playback packets (O29), the capture packets and the reports (O31). -/

namespace Sys2Proof.Machine

open Safety

/-- R55, R56: what a checked packet leaves. -/
theorem append_eq (p : Playback) (counter : Stamp) (frames : List Frame) :
    let excess := p.buffer.length + frames.length - p.depth
    let q := (p.append counter frames).1
    let reaches := decide (p.state = .priming ∧ p.depth / 2 ≤ (p.buffer.drop excess ++ frames).length)
    q = { p with
      buffer := p.buffer.drop excess ++ frames, arrivals := q.arrivals, unlisted := q.unlisted
      overruns := saturate16 (p.overruns + excess), state := if reaches then .running else p.state } ∧
    (p.append counter frames).2 =
      (if p.depth < p.buffer.length + frames.length then [q.slipNotice counter] else []) ++
        (if reaches then [q.stateNotice .priming .primed] else []) := by
  dsimp only
  have buffer := giveUp_buffer (p.buffer.length + frames.length - p.depth) p
  have same := giveUp_refilled (p.buffer.length + frames.length - p.depth) p
  unfold Playback.append Playback.makeRoom
  dsimp only
  generalize Playback.giveUp (p.buffer.length + frames.length - p.depth) p = g at buffer same
  have arrivedBuffer := addArrival_buffer { g with
    overruns := saturate16 (g.overruns + (p.buffer.length + frames.length - p.depth)), buffer := g.buffer ++ frames } counter frames.length
  have arrivedSame := addArrival_refilled { g with
    overruns := saturate16 (g.overruns + (p.buffer.length + frames.length - p.depth)), buffer := g.buffer ++ frames } counter frames.length
  dsimp only at arrivedBuffer arrivedSame
  generalize Playback.addArrival _ counter frames.length = r at arrivedBuffer arrivedSame
  rw [buffer] at arrivedBuffer
  rw [same] at arrivedSame
  have is : r = { p with
      buffer := p.buffer.drop (p.buffer.length + frames.length - p.depth) ++ frames, arrivals := r.arrivals, unlisted := r.unlisted
      overruns := saturate16 (p.overruns + (p.buffer.length + frames.length - p.depth)) } := by
    rw [← arrivedBuffer]
    exact arrivedSame
  have primed : (decide (r.state = .priming) && decide (r.target ≤ r.buffer.length)) =
      decide (p.state = .priming ∧ p.depth / 2 ≤ (p.buffer.drop (p.buffer.length + frames.length - p.depth) ++ frames).length) := by
    rw [is, Bool.decide_and]
    rfl
  rw [primed]
  simp only [decide_eq_true_eq]
  constructor
  · split
    · rw [is]
    · rw [is]
  · trivial

theorem addArrival_last (p : Playback) (counter : Stamp) (n : Nat) : (p.addArrival counter n).arrivals.getLast? = some ⟨counter, n⟩ := by
  unfold Playback.addArrival
  split
  · split <;> simp
  · rfl

theorem append_last (p : Playback) (counter : Stamp) (frames : List Frame) :
    (p.append counter frames).1.arrivals.getLast? = some ⟨counter, frames.length⟩ := by
  unfold Playback.append
  dsimp only
  split <;> exact addArrival_last ..

theorem execPlaybackPacket_eq {s : State} (linked : s.lif.link = .configured) (bytes : List Byte) :
    exec (.playbackPacket bytes) s = .next (notifyAll (s.stu.playback.packet s.cku.rate s.cku.counter bytes).2
      (s.withStu { s.stu with playback := (s.stu.playback.packet s.cku.rate s.cku.counter bytes).1 })) :=
  congrArg Host.Outcome.next (if_pos linked)

section
variable {p : Playback} {rate : Rate} {counter : Stamp} {bytes : List Byte}

theorem packet_idle_eq (idle : p.state = .idle) : p.packet rate counter bytes = (p, []) := if_pos idle

theorem packet_malformed (on : p.state ≠ .idle)
    (bad : bytes.length % (4 * p.effective) ≠ 0 ∨ rate.maxFrames < bytes.length / (4 * p.effective)) :
    p.packet rate counter bytes = ({ p with malformed := saturate16 (p.malformed + 1) }, []) := by
  unfold Playback.packet
  rw [if_neg on]
  exact if_pos bad

theorem packet_checked (on : p.state ≠ .idle) (whole : bytes.length % (4 * p.effective) = 0)
    (few : bytes.length / (4 * p.effective) ≤ rate.maxFrames) : p.packet rate counter bytes =
      if bytes.length / (4 * p.effective) = 0 then (p, [])
      else p.append counter (framesOf p.effective (bytes.length / (4 * p.effective)) (samplesOf bytes)) := by
  unfold Playback.packet
  rw [if_neg on]
  dsimp only
  rw [if_neg (by simp [whole, few])]

/-- A packet of no frames is as if none were appended, in a stream that keeps its law. -/
theorem playback_unfilled (h : PlaybackSound rate p) : ¬ p.depth < p.buffer.length ∧ ¬ (p.state = .priming ∧ p.depth / 2 ≤ p.buffer.length) := by
  obtain ⟨-, -, filled⟩ := playbackSound_iff.mp h
  have fits := filled.fits
  refine ⟨by omega, fun ⟨priming, reached⟩ => ?_⟩
  have short := (filled.priming priming).1
  unfold Playback.target at short
  omega

end

/-! ## Capture packets and reports -/

theorem captureFlags (slip unsteady : Bool) : BitVec.ofNat 8 ((if slip then 1 else 0) + (if unsteady then 2 else 0)) =
    (if unsteady then 2 else 0) + (if slip then 1 else 0) := by cases slip <;> cases unsteady <;> rfl

theorem clampReport_eq (r : Rate) (v : Int) : (clampReport r v : Int) =
    max ((r.nominal - r.nominal / 64 : Nat) : Int) (min ((r.nominal + r.nominal / 64 : Nat) : Int) v) := by
  unfold clampReport
  dsimp only
  omega

theorem countEdges_link (s : State) (n : Nat) : (countEdges .link n s).cku = if s.phase = .running ∧ s.present .link = true then
    s.cku.putRec .link { s.cku.record .link with edges := min 255 ((s.cku.record .link).edges + n) } else s.cku := by
  unfold countEdges
  by_cases counted : s.phase = .running ∧ s.present .link = true
  · rw [if_pos counted, if_pos ⟨counted.1, nofun, counted.2⟩]
    rfl
  · rw [if_neg counted, if_neg fun ⟨running, _, there⟩ => counted ⟨running, there⟩]

theorem reportBase_cases (u : Stu) (counter : Stamp) (rate : Rate) :
    (u.ring.length < 128 → u.reportBase counter rate = rate.nominal) ∧
      ∀ oldest rest, u.ring = oldest :: rest → 128 ≤ u.ring.length → u.reportBase counter rate = (counter - oldest).toNat * 512 := by
  unfold Stu.reportBase
  refine ⟨fun short => ?_, fun oldest rest is full => ?_⟩
  · split
    · exact if_neg (by omega)
    · rfl
  · rw [is] at full ⊢
    dsimp only
    rw [if_pos full]
    norm_cast

end Sys2Proof.Machine

open Sys2Proof.Machine Sys2Proof.Safety in
/-- Settles O29, by the checks of a packet in their order. -/
theorem playbackPackets : Obligations.PlaybackPackets := by
  intro bytes s linked sound
  dsimp only
  rw [execPlaybackPacket_eq linked]
  refine ⟨fun idle => ?_, fun on bad => ?_, fun on whole few => ?_⟩
  · rw [packet_idle_eq idle]
    rfl
  · rw [packet_malformed on bad]
    rfl
  · obtain ⟨n, hn⟩ : ∃ n, n = bytes.length / (4 * s.stu.playback.effective) := ⟨_, rfl⟩
    obtain ⟨⟨q, notes⟩, hq⟩ : ∃ r, r = s.stu.playback.packet s.cku.rate s.cku.counter bytes := ⟨_, rfl⟩
    obtain ⟨t, ht⟩ : ∃ t, t = notifyAll notes (s.withStu { s.stu with playback := q }) := ⟨_, rfl⟩
    have stu : t.stu = { s.stu with playback := q } := by
      rw [ht, notifyAll_eq]
      rfl
    have reach : Reaches [.stu, .records] s t := ht ▸ (reaches_withStu s _).andThen (reaches_notifyAll notes _)
    refine ⟨t, by rw [ht, ← hq], keepsBut_of_reaches reach (by decide), ?_⟩
    rw [stu, ← hn]
    rw [packet_checked on whole few, ← hn] at hq
    obtain ⟨settled, accounted, filled⟩ := playbackSound_iff.mp sound
    obtain ⟨fits, unready⟩ := playback_unfilled sound
    have bounded := settled.overruns
    by_cases empty : n = 0
    · rw [if_pos empty] at hq
      cases hq
      subst empty
      rw [Nat.add_zero, if_neg fits, if_neg unready, if_neg unready, Nat.sub_eq_zero_of_le (Nat.le_of_not_lt fits)]
      refine ⟨ht, rfl, rfl, ?_, ?_, rfl, rfl, rfl, fun some => absurd some (by omega)⟩
      · rw [framesOf, List.append_nil, List.drop_zero]
      · dsimp only
        omega
    · rw [if_neg empty] at hq
      have short : n ≤ s.stu.playback.depth := by
        have least := (maxFrames_le_minDepth s.cku.rate).trans settled.deep
        omega
      have length := framesOf_length s.stu.playback.effective n (samplesOf bytes)
      generalize framesOf s.stu.playback.effective n (samplesOf bytes) = frames at hq length ⊢
      have last := append_last s.stu.playback s.cku.counter frames
      obtain ⟨is, told⟩ := append_eq s.stu.playback s.cku.counter frames
      have room : s.stu.playback.buffer.length ≤ s.stu.playback.depth := filled.fits
      have joined : s.stu.playback.buffer.drop (s.stu.playback.buffer.length + n - s.stu.playback.depth) ++ frames =
          (s.stu.playback.buffer ++ frames).drop (s.stu.playback.buffer.length + n - s.stu.playback.depth) :=
        (List.drop_append_of_le_length (by omega)).symm
      have reached : decide (s.stu.playback.state = .priming ∧ s.stu.playback.depth / 2 ≤
          (s.stu.playback.buffer.drop (s.stu.playback.buffer.length + n - s.stu.playback.depth) ++ frames).length) =
          decide (s.stu.playback.state = .priming ∧ s.stu.playback.depth / 2 ≤ s.stu.playback.buffer.length + n) := by
        rw [decide_eq_decide, List.length_append, List.length_drop, length]
        refine and_congr Iff.rfl ?_
        omega
      rw [← hq, length] at is told
      rw [length, ← hq] at last
      rw [reached] at is told
      simp only [decide_eq_true_eq] at is told
      dsimp only at is told last
      obtain ⟨buffer, overruns, malformed, underruns, state, effective, depth⟩ : q.buffer = s.stu.playback.buffer.drop
            (s.stu.playback.buffer.length + n - s.stu.playback.depth) ++ frames ∧
          q.overruns = min 65535 (s.stu.playback.overruns + (s.stu.playback.buffer.length + n - s.stu.playback.depth)) ∧
          q.malformed = s.stu.playback.malformed ∧ q.underruns = s.stu.playback.underruns ∧
          q.state = (if s.stu.playback.state = .priming ∧ s.stu.playback.depth / 2 ≤ s.stu.playback.buffer.length + n
            then .running else s.stu.playback.state) ∧ q.effective = s.stu.playback.effective ∧ q.depth = s.stu.playback.depth := by
        rw [is]
        exact ⟨rfl, rfl, rfl, rfl, rfl, rfl, rfl⟩
      refine ⟨?_, rfl, rfl, buffer.trans joined, overruns, malformed, underruns, state, fun _ => last⟩
      have slip : q.slipNotice s.cku.counter =
          .streamSlip .playback s.stu.playback.underruns q.overruns (s.cku.counter.setWidth 32) := by
        rw [← underruns]
        rfl
      rw [ht, told, slip]
      by_cases runs : s.stu.playback.state = .priming ∧ s.stu.playback.depth / 2 ≤ s.stu.playback.buffer.length + n
      · rw [if_pos runs] at state
        have primed : q.stateNotice .priming .primed =
            .streamState .playback .priming .running .primed false false s.stu.playback.effective s.stu.playback.depth := by
          rw [← effective, ← depth, ← state]
          rfl
        rw [if_pos runs, if_pos runs, primed]
        split <;> rfl
      · rw [if_neg runs, if_neg runs, List.append_nil]
        split <;> rfl

open Sys2Proof.Machine Sys2Proof.Safety in
/-- Settles O31, pipe by pipe. -/
theorem captureAndReports : Obligations.CaptureAndReports := by
  refine ⟨fun s linked => ?_, fun s => ⟨?_, fun linked => congrArg Host.Outcome.next (if_pos linked)⟩⟩
  · refine (congrArg Host.Outcome.next (if_pos linked)).trans ?_
    have count : (s.stu.capture.buffer.take (min s.stu.capture.buffer.length s.cku.rate.maxFrames)).length =
        min s.stu.capture.buffer.length s.cku.rate.maxFrames := by
      rw [List.length_take]
      omega
    have steady : (!(s.cku.clock == .free || s.cku.clock == .locked)) = (s.cku.clock == .switching || s.cku.clock == .holdover) := by
      cases s.cku.clock <;> rfl
    simp only [Capture.build, capturePacket, count, captureFlags, steady]
    rfl
  · have spec := LinkReference.interval_spec s.lif.reference s.cku.rate
    obtain ⟨t, ht⟩ : ∃ t, t = referenceInterval (s.withStu (s.stu.interval s.cku.counter s.cku.rate)) := ⟨_, rfl⟩
    have counted := countEdges_link (s.withStu (s.stu.interval s.cku.counter s.cku.rate)) s.lif.reference.due
    have rate : (countEdges .link s.lif.reference.due (s.withStu (s.stu.interval s.cku.counter s.cku.rate))).cku.rate = s.cku.rate :=
      (countEdges_time ..).1
    have is := referenceInterval_eq (s.withStu (s.stu.interval s.cku.counter s.cku.rate))
    rw [← ht] at is
    have reference : t.lif.reference = s.lif.reference.interval s.cku.rate := 
      (congrArg (fun u => u.lif.reference) is).trans (congrArg s.lif.reference.interval rate)
    have stu : t.stu = s.stu.interval s.cku.counter s.cku.rate := by
      rw [is]
      rfl
    have reach : Reaches [.stu, .cku, .reference] s t := by
      rw [ht]
      unfold referenceInterval
      exact (reaches_withStu s _).andThen ((reaches_countEdges ..).andThen (reaches_withReference ..) (rs := [.cku, .reference]))
    refine ⟨t, congrArg Host.Outcome.next ht.symm, keepsBut_of_reaches reach (by decide), ?_, by rw [reference]; exact spec.1,
      by rw [reference]; exact spec.2, by rw [stu]; rfl, by rw [stu]; rfl, ?_, s.stu.reportBase s.cku.counter s.cku.rate, s.stu.playback.fillError,
      (reportBase_cases ..).1, (reportBase_cases ..).2, fun off => if_neg off, fun on => if_pos on, ?_⟩
    · rw [is]
      exact counted
    · rw [stu]
      show (if 128 ≤ s.stu.ring.length then s.stu.ring.drop 1 else s.stu.ring) ++ [s.cku.counter] = _
      by_cases full : 128 ≤ s.stu.ring.length
      · simp only [if_pos full]
      · simp only [if_neg full, List.drop_zero]
    · rw [stu]
      exact clampReport_eq ..

end

section
/-! PROOFS. The converter ports: their commands (O32), timers, frames and link bits (O33). -/

namespace Sys2Proof.Machine

open Safety

/-! ## One port changed -/

section
variable {s t : State} {i : Nat} {op : Port → Port × Option PortReason}

theorem changePort_becomes (i : Nat) (op : Port → Port × Option PortReason) (s : State) :
    portBecomes i (op (s.port i)).1 s (changePort i op s) := by
  have reach := reaches_changePort i op s
  refine ⟨?_, ?_, keepsBut_of_reaches reach (by decide)⟩ <;> rw [changePort_eq] <;> rfl

theorem portBecomes_port {q : Port} (h : portBecomes i q s t) (inside : i < s.ptu.length) : t.port i = q := by
  rw [State.port, h.1, List.getD_eq_getElem?_getD, List.getElem?_set_self inside]
  rfl

theorem portBecomes_queueReply {q : Port} (h : portBecomes i q s t) (r : Reply) : portBecomes i q s (queueReply r t) := by
  obtain ⟨ptu, rme, kept⟩ := h
  refine ⟨ptu, rme, fun p away => ?_⟩
  have same := kept p away
  cases p <;> first | exact same | exact absurd (by decide) away

/-- What is present follows the ports' modes; a port that keeps its mode changes nothing of it (R22). -/
theorem present_changePort (mode : (op (s.port i)).1.mode = (s.port i).mode) (x : ClockSource) :
    (changePort i op s).present x = s.present x := by
  rw [changePort_eq]
  cases x with
  | port p =>
    have modes : (s.ptu.set i (op (s.port i)).1).map Port.mode = s.ptu.map Port.mode := set_modes (mode.trans (port_mode s i))
    simp only [State.present, State.withMsu_ptu, port_mode, withPorts_ptu, modes]
  | _ => rfl

end

/-! ## PORT_CONFIG (R23, R77, R81) -/

section
variable {s : State} {i n : Nat} {m : PortMode}

/-- The port as configured: in CONFLICT it restarts (R81). -/
def Port.configured (p : Port) (m : PortMode) (n : Nat) (clock : ClockState) (own : Standing) : Port :=
  if p.state = .conflict then { p with mode := m, slots := n }.enterStarting clock own else { p with mode := m, slots := n }

/-- The notice of a port that leaves CONFLICT. -/
def Port.configuredNotices (p : Port) (i : Nat) (m : PortMode) (n : Nat) : List NoticeBody :=
  if p.state = .conflict then [.portState i .conflict .starting .configured m n] else []

/-- A port whose own source is not lost. -/
theorem configurePort_keeps (keeps : ¬ ((s.port i).mode = .follow ∧ m = .drive)) : configurePort i m n s =
    notifyAll ((s.port i).configuredNotices i m n)
      (withPorts (s.ptu.set i ((s.port i).configured m n s.cku.clock (ownStanding s.cku i))) s) := by
  unfold configurePort Port.configured Port.configuredNotices
  simp only [if_neg keeps]
  by_cases conflict : (s.port i).state = .conflict
  · simp only [if_pos conflict]
    rfl
  · simp only [if_neg conflict]

/-- A port that goes from FOLLOW to DRIVE loses its source (R23). -/
theorem configurePort_loses (follow : (s.port i).mode = .follow) : configurePort i .drive n s =
    clockChange (s.cku.lose (portSource i)).1 (s.cku.lose (portSource i)).2 [] ((s.port i).configuredNotices i .drive n)
      (withPorts (s.ptu.set i ((s.port i).configured .drive n (s.cku.lose (portSource i)).1.clock
        (ownStanding (s.cku.lose (portSource i)).1 i))) s) := by
  unfold configurePort Port.configured Port.configuredNotices
  simp only [follow, and_self, if_true]
  by_cases conflict : (s.port i).state = .conflict
  · simp only [if_pos conflict]
    rfl
  · simp only [if_neg conflict]

theorem configurePort_becomes (keeps : ¬ ((s.port i).mode = .follow ∧ m = .drive)) :
    portBecomes i ((s.port i).configured m n s.cku.clock (ownStanding s.cku i)) s (configurePort i m n s) := by
  rw [configurePort_keeps keeps]
  have reach : Reaches [.ptu, .rme, .records] s (notifyAll ((s.port i).configuredNotices i m n)
      (withPorts (s.ptu.set i ((s.port i).configured m n s.cku.clock (ownStanding s.cku i))) s)) :=
    (reaches_withPorts _ s).andThen (reaches_notifyAll ..)
  refine ⟨?_, ?_, keepsBut_of_reaches reach (by decide)⟩ <;> rw [notifyAll_eq] <;> rfl

/-- A DRIVE port just configured stands as the clock says already. -/
theorem portAtClock_configured (p : Port) (stopped : p.state = .off ∨ p.state = .conflict) (before after : Cku) (n : Nat) (own : Standing) :
    (portAtClock before after i (p.configured .drive n after.clock own)).1 = p.configured .drive n after.clock own := by
  unfold portAtClock
  split
  · rfl
  · unfold Port.configured
    obtain off | conflict := stopped
    · rw [if_neg (by simp [off])]
      simp only [Port.react, off]
    · rw [if_pos conflict]
      cases after.clock <;> rfl

end

theorem configured_restarts {p : Port} (conflict : p.state = .conflict) (n : Nat) (clock : ClockState) (own : Standing) :
    p.configured .drive n clock own = { p with
      mode := .drive, slots := n, state := .starting, settle := 0, inBuf := [], outBuf := []
      resetTimer := if clock = .free ∨ clock = .locked then some 1 else none } := by
  unfold Port.configured
  rw [if_pos conflict]
  cases clock <;> rfl

/-! R23, R81: a port that goes from FOLLOW to DRIVE, and the clock that its source is lost to. -/

section
variable {s t : State} {p : Fin 4} {n : Nat} (is : t = configurePort p.val .drive n s) (four : s.ptu.length = 4)
  (stopped : (s.port p.val).state = .off ∨ (s.port p.val).state = .conflict) (follow : (s.port p.val).mode = .follow)
include is follow

theorem configurePort_lost_cku : t.cku = (s.cku.lose (.port p)).1 := by
  rw [configurePort_loses follow, show portSource p.val = .port p by rw [portSource, Fin.ofNat_val_eq_self]] at is
  rw [is, clockChange_cku]

theorem configurePort_lost_ptu : t.ptu = (portsBy (portAtClock s.cku t.cku)
    (s.ptu.set p.val ((s.port p.val).configured .drive n t.cku.clock (ownStanding t.cku p.val)))).1 := by
  rw [configurePort_lost_cku is follow]
  rw [configurePort_loses follow, show portSource p.val = .port p by rw [portSource, Fin.ofNat_val_eq_self]] at is
  rw [is, clockChange_eq]
  rfl

include four stopped

theorem configurePort_lost_place : t.ptu[p.val]? = some ((s.port p.val).configured .drive n t.cku.clock (ownStanding t.cku p.val)) := by
  rw [configurePort_lost_ptu is follow, portsBy_getElem?, List.getElem?_set_self (by omega), Option.map_some, portAtClock_configured _ stopped]

theorem configurePort_lost_port : t.port p.val = (s.port p.val).configured .drive n t.cku.clock (ownStanding t.cku p.val) := by
  rw [State.port, List.getD_eq_getElem?_getD, configurePort_lost_place is four stopped follow]
  rfl

/-- The other ports stay while the clock is on another source. -/
theorem configurePort_lost_others (sound : ClockSound s.cku) (apart : s.cku.source ≠ .port p) : t.ptu = s.ptu.set p.val (t.port p.val) := by
  have place := configurePort_lost_place is four stopped follow
  rw [← configurePort_lost_port is four stopped follow] at place
  refine List.ext_getElem? fun j => ?_
  by_cases own : p.val = j
  · rw [← own, place, List.getElem?_set_self (by omega)]
  · have still (r : Port) : (portAtClock s.cku t.cku j r).1 = r := by
      unfold portAtClock
      rw [if_pos]
      rw [configurePort_lost_cku is follow, lose_apart (x := .port p) sound (by simp) apart]
      refine ⟨rfl, ?_⟩
      simp only [ownStanding, Cku.putRec, sourceCode, List.getD_eq_getElem?_getD]
      rw [List.getElem?_set_ne (by omega)]
    rw [configurePort_lost_ptu is follow, portsBy_getElem?, List.getElem?_set_ne own, List.getElem?_set_ne own]
    cases s.ptu[j]? with
    | none => rfl
    | some r => exact congrArg some (still r)

theorem configurePort_lost_gone : t.present (.port p) = false := by
  rw [State.present, configurePort_lost_port is four stopped follow]
  unfold Port.configured
  split <;> rfl

end

/-- A port in CONFLICT restarts as configured (R81). -/
theorem configurePort_starts {s : State} {i n : Nat} {m : PortMode} (four : s.ptu.length = 4) (below : i < 4)
    (conflict : (s.port i).state = .conflict) : ((configurePort i m n s).port i).state = .starting ∧
      ((configurePort i m n s).port i).mode = m ∧ ((configurePort i m n s).port i).slots = n := by
  by_cases lost : (s.port i).mode = .follow ∧ m = .drive
  · obtain ⟨follow, rfl⟩ := lost
    have is := configurePort_lost_port (p := ⟨i, below⟩) (n := n) rfl four (.inr conflict) follow
    simp only at is
    rw [is, configured_restarts conflict]
    exact ⟨rfl, rfl, rfl⟩
  · rw [portBecomes_port (configurePort_becomes lost) (by omega)]
    unfold Port.configured
    rw [if_pos conflict]
    exact ⟨rfl, rfl, rfl⟩

end Sys2Proof.Machine

open Sys2Proof.Machine Sys2Proof.Safety in
/-- Settles O32, command by command; one port changes, and a lost source takes the clock's way. -/
theorem portCommands : Obligations.PortCommands := by
  intro tag port mode slots mute i s takes four hi
  have inside : i < s.ptu.length := by
    have below := indexBelow_lt hi
    omega
  have silent {p : Port} (b : Bool) : ({ p with mute := b } : Port).mode = p.mode := rfl
  refine ⟨fun m n hm hn => ?_, fun on => ?_, fun off wide => ?_, fun off fits => ?_, fun off => ?_, fun on => ?_, fun b hb => ?_⟩
  · have taken : exec (.portConfig tag port mode slots) s = _ := exec_taken rfl rfl takes
    unfold handlePortConfig at taken
    simp only [hi, hm, hn] at taken
    have accepted (stopped : (s.port i).state = .off ∨ (s.port i).state = .conflict) (fits : n ≤ s.cku.rate.maxSlots) :
        exec (.portConfig tag port mode slots) s =
          .next (queueReply ⟨0x20, tag, .ok, some (.portConfig m n)⟩ (configurePort i m n s)) := by
      rw [taken, if_neg (by tauto), if_neg (by omega)]
      rfl
    have answered : Answered 0x20 tag .ok (some (.portConfig m n)) s
        (queueReply ⟨0x20, tag, .ok, some (.portConfig m n)⟩ (configurePort i m n s)) := answered_of_reaches (reaches_configurePort ..)
    have keeps (away : (s.port i).mode = .drive ∨ m = .follow) : ¬ ((s.port i).mode = .follow ∧ m = .drive) := by
      rintro ⟨follow, drive⟩
      simp [follow, drive] at away
    refine ⟨fun on live => ?_, fun stopped wide => ?_, fun off fits away => ?_, fun conflict fits => ?_, fun conflict fits away => ?_,
      fun p hp stopped fits follow drive sound => ?_⟩
    · rw [taken, if_pos ⟨on, live⟩]
      rfl
    · rw [taken, if_neg (by tauto), if_pos wide]
      rfl
    · refine ⟨_, accepted (.inl off) fits, answered, portBecomes_queueReply ?_ _⟩
      have becomes := configurePort_becomes (n := n) (keeps away)
      unfold Port.configured at becomes
      rwa [if_neg (by simp [off])] at becomes
    · refine ⟨_, accepted (.inr conflict) fits, answered, ?_⟩
      exact configurePort_starts four (indexBelow_lt hi) conflict
    · refine ⟨_, accepted (.inr conflict) fits, answered, portBecomes_queueReply ?_ _, fun room => ?_⟩
      · have becomes := configurePort_becomes (n := n) (keeps away)
        unfold Port.configured at becomes
        rwa [if_pos conflict] at becomes
      · show Heard _ (configurePort i m n s)
        rw [configurePort_keeps (keeps away)]
        refine heard_notifyAll (n := 1) room ?_ ?_ (by simp [NoticeBody.Alone, NoticeBody.code]) <;> simp [Port.configuredNotices, conflict]
    · subst drive
      subst hp
      refine ⟨_, accepted stopped fits, answered, keepsBut_queueReply (keepsBut_of_reaches (reaches_configurePort ..) (by decide)) _,
        losesSource_lose (t := configurePort p.val .drive n s) sound (by simp) (configurePort_lost_cku rfl follow), ?_,
        configurePort_lost_others (t := configurePort p.val .drive n s) rfl four stopped follow sound,
        configurePort_lost_gone (t := configurePort p.val .drive n s) rfl four stopped follow⟩
      refine (configurePort_lost_port (t := configurePort p.val .drive n s) rfl four stopped follow).trans ?_
      obtain off | conflict := stopped
      · rw [if_pos off, Port.configured, if_neg (by simp [off])]
      · rw [if_neg (by simp [conflict])]
        exact configured_restarts conflict ..
  · exact exec_refused rfl rfl takes (by simp only [handlePortStart, hi]; exact if_pos on)
  · refine exec_refused rfl rfl takes ?_
    simp only [handlePortStart, hi]
    rw [if_neg (by simp [off]), if_pos wide]
  · have accepted : handlePortStart port s = accept (changePort i (fun p => p.started s.cku.clock (ownStanding s.cku i)) s) none := by
      simp only [handlePortStart, hi]
      rw [if_neg (by simp [off]), if_neg (by omega)]
    exact ⟨_, exec_accepted rfl rfl takes accepted, answered_of_reaches (reaches_changePort ..), portBecomes_queueReply (changePort_becomes ..) _⟩
  · exact exec_accepted rfl rfl takes (by simp only [handlePortStop, hi]; exact if_pos off)
  · have accepted : handlePortStop port s = accept (changePort i (fun p => (p.enterStopped .off, some .stopped)) s) none := by
      simp only [handlePortStop, hi]
      exact if_neg on
    exact ⟨_, exec_accepted rfl rfl takes accepted, answered_of_reaches (reaches_changePort ..), portBecomes_queueReply (changePort_becomes ..) _,
      present_changePort rfl⟩
  · have accepted : handlePortMute port mute s = accept (changePort i (fun p => ({ p with mute := b }, none)) s) (some (.portMute b)) := by
      simp only [handlePortMute, hi, hb]
    exact ⟨_, exec_accepted rfl rfl takes accepted, answered_of_reaches (reaches_changePort ..), portBecomes_queueReply (changePort_becomes ..) _, rfl⟩

end

section
/-! PROOFS. The timers, frames and link bits of the ports (O33). -/

namespace Sys2Proof.Machine

open Safety

section
variable {p : Port}

theorem inputFrame_retimes (retimes : p.retimes = true) (f : Frame) : p.inputFrame f = { p with
    inBuf := (p.inBuf ++ [f]).drop (if 8 ≤ p.inBuf.length then 1 else 0)
    overSlips := if 8 ≤ p.inBuf.length then min 65535 (p.overSlips + 1) else p.overSlips } := by
  unfold Port.inputFrame retimePush Port.addOver
  rw [if_pos retimes]
  by_cases full : 8 ≤ p.inBuf.length
  · simp only [if_pos full, if_true]
    rw [List.drop_append_of_le_length (by omega)]
    rfl
  · simp only [if_neg full, Bool.false_eq_true, if_false, List.drop_zero]

theorem inputFrame_drive (drive : p.mode = .drive) (running : p.state = .running) (f : Frame) : p.inputFrame f = { p with driveIn := some f } := by
  unfold Port.inputFrame
  rw [if_neg (by simp [Port.retimes, drive]), if_pos ⟨drive, running⟩]

theorem inputFrame_discards (still : p.retimes = false) (away : p.mode = .follow ∨ p.state ≠ .running) (f : Frame) : p.inputFrame f = p := by
  unfold Port.inputFrame
  rw [if_neg (by simp [still]), if_neg]
  rintro ⟨drive, running⟩
  simp [drive, running] at away

theorem zero_slots (p : Port) : p.zero.map slotOfSample = List.replicate p.slots 0 := by
  rw [Port.zero, List.map_replicate]
  rfl

theorem sentSlots_eq (p : Port) (f : Frame) : p.sentSlots f = if p.mute then List.replicate p.slots 0 else f.map slotOfSample := by
  rw [Port.sentSlots, zero_slots]

theorem outputFrame_retimes (retimes : p.retimes = true) : p.outputFrame = { p with
    outBuf := p.outBuf.drop 1, lastOut := p.outBuf.head?.getD p.lastOut
    underSlips := if p.outBuf = [] then min 65535 (p.underSlips + 1) else p.underSlips
    line := some (if p.mute then List.replicate p.slots 0 else (p.outBuf.head?.getD p.lastOut).map slotOfSample) } := by
  have follow : p.mode ≠ .drive := fun drive => by simp [Port.retimes, drive] at retimes
  unfold Port.outputFrame
  rw [if_neg follow, if_pos retimes]
  split
  · rename_i f rest there
    simp only [sentSlots_eq, there]
    rfl
  · rename_i empty
    simp only [sentSlots_eq, empty]
    rfl

theorem outputFrame_still (follow : p.mode = .follow) (still : p.retimes = false) : p.outputFrame = { p with
    line := if p.state = .off ∨ p.state = .conflict then none else some (List.replicate p.slots 0) } := by
  unfold Port.outputFrame
  rw [if_neg (by simp [follow]), if_neg (by simp [still]), zero_slots]
  split <;> rfl

end

end Sys2Proof.Machine

open Sys2Proof.Machine Sys2Proof.Safety in
/-- Settles O33, event by event, and the link frame bit by bit. -/
theorem portEvents : Obligations.PortEvents := by
  intro i slots level s four
  have inside : i.val < s.ptu.length := by omega
  have becomes (op : Port → Port × Option PortReason) := changePort_becomes i.val op s
  have port (op : Port → Port × Option PortReason) : (changePort i.val op s).port i.val = (op (s.port i.val)).1 :=
    portBecomes_port (becomes op) inside
  dsimp only
  refine ⟨fun starting runs => ?_, fun settling => ?_, ?_, ?_, ?_, linkBits_length slots, slotsOfLine_linkBits slots, fun n w bit there small line => ?_⟩
  · have done : (s.port i.val).resetDone.1 = (s.port i.val).enterSettling := by
      unfold Port.resetDone
      rw [if_pos ⟨starting, runs⟩]
    refine ⟨_, rfl, ?_, ?_, ?_, fun follow => ⟨?_, ?_⟩, keepsBut_of_reaches (reaches_changePort ..) (by decide)⟩ <;> rw [port, done]
    · rfl
    · rfl
    · rfl
    · simp [Port.enterSettling, follow, Port.zero]
    · rfl
  · refine ⟨_, rfl, ?_⟩
    have ends := becomes Port.settleEnd
    unfold Port.settleEnd at ends
    rwa [if_pos settling] at ends
  · refine ⟨_, rfl, ?_, fun retimes => ?_, fun drive running => ?_, fun still away => ?_⟩ <;> rw [port]
    · exact becomes _
    · exact inputFrame_retimes retimes _
    · exact inputFrame_drive drive running _
    · exact inputFrame_discards still away _
  · refine ⟨_, rfl, ?_, fun retimes => ?_, fun follow stopped => ?_, fun follow waits => ?_, fun drive => ?_⟩ <;> rw [port]
    · exact becomes _
    · exact outputFrame_retimes retimes
    · refine (outputFrame_still follow ?_).trans (by rw [if_pos stopped])
      obtain is | is := stopped <;> simp [Port.retimes, is]
    · refine (outputFrame_still follow ?_).trans (by rw [if_neg (by obtain is | is := waits <;> simp [is])])
      obtain is | is := waits <;> simp [Port.retimes, is]
    · exact if_pos drive
  · exact ⟨_, rfl, becomes _, rfl⟩
  · refine ⟨?_, fun drives width => ⟨?_, fun rate => ?_⟩⟩
    · rw [Port.lineBit, line]
      exact linkBits_get slots n bit w there small
    · have place : n < slots.length := (List.getElem?_eq_some_iff.mp there).1
      rw [Port.frameClock, if_pos drives, Port.frameMark, Port.frameBits, Nat.mod_eq_of_lt (by omega)]
      exact congrArg some (by rw [beq_eq_decide, decide_eq_decide]; omega)
    · rw [Port.drivenBitClock, if_pos drives]
      rfl

end

section
/-! PROOFS. The route table: ROUTE_ADD with and without REPLACE, and ROUTE_REMOVE (O34, O35). -/

namespace Sys2Proof.Machine

open Safety

/-! ## Entries found and entries placed -/

section
variable {m : Rme} {source dest : Point} {st : RouteState}

theorem laneRoute_isSome : (m.laneRoute source dest st).isSome = true ↔
    ∃ r ∈ m.routes, r.state = st ∧ r.inLane source dest = true := by
  simp [Rme.laneRoute, List.findIdx?_isSome]

theorem lowestFree_isSome : m.lowestFree.isSome = true ↔ ∃ r ∈ m.routes, r.state = .free := by
  simp [Rme.lowestFree, List.findIdx?_isSome]

/-- R98: the FREE entry that ROUTE_ADD takes is the one with the lowest id. -/
theorem lowestFree_spec (free : ∃ r ∈ m.routes, r.state = .free) : ∃ id, m.lowestFree = some id ∧ id < m.routes.length ∧
    (m.route id).state = .free ∧ ∀ n < id, (m.route n).state ≠ .free := by
  obtain ⟨id, found⟩ := Option.isSome_iff_exists.mp (lowestFree_isSome.mpr free)
  have is := found
  rw [Rme.lowestFree, List.findIdx?_eq_some_iff_getElem] at is
  obtain ⟨inside, passes, before⟩ := is
  refine ⟨id, found, inside, ?_, fun n lower => ?_⟩
  · rw [Rme.route, List.getD_eq_getElem _ _ inside]
    simpa using passes
  · rw [Rme.route, List.getD_eq_getElem _ _ (lower.trans inside)]
    simpa using before n lower

theorem route_mem {n : Nat} (inside : n < m.routes.length) : m.route n ∈ m.routes := by
  rw [Rme.route, List.getD_eq_getElem _ _ inside]
  exact List.getElem_mem _

theorem route_of_mem {r : Route} (mem : r ∈ m.routes) : ∃ n < m.routes.length, m.route n = r := by
  obtain ⟨n, inside, is⟩ := List.getElem_of_mem mem
  exact ⟨n, inside, by rw [Rme.route, List.getD_eq_getElem _ _ inside, is]⟩

/-- The lowest FREE id is the only one that is FREE with none FREE before it. -/
theorem lowestFree_eq {id : Nat} (inside : id < m.routes.length) (free : (m.route id).state = .free)
    (before : ∀ n < id, (m.route n).state ≠ .free) : m.lowestFree = some id := by
  obtain ⟨k, found, -, freeK, beforeK⟩ := lowestFree_spec ⟨_, route_mem inside, free⟩
  rw [found, Nat.le_antisymm (Nat.le_of_not_lt fun h => beforeK id h free) (Nat.le_of_not_lt fun h => before k h freeK)]

/-- R98: the new route starts from K_cur 0. -/
theorem placeRoute_eq (m : Rme) (id : Nat) (source dest : Point) (gain : Gain) (mute invert : Bool) :
    m.placeRoute id source dest gain mute invert =
      m.putRoute id (Safety.newRoute source dest gain mute invert m.rampLength) := by
  have level : (⟨gain, mute, 0, none, none⟩ : GainRec).setTarget none none m.rampLength =
      if mute = true ∨ gain.coeff = 0 then ⟨gain, mute, 0, none, none⟩
      else if m.rampLength = 0 then ⟨gain, mute, gain.coeff, none, none⟩
      else ⟨gain, mute, 0, some ⟨0, gain.coeff, m.rampLength, 0⟩, none⟩ := by
    cases mute <;> simp [GainRec.setTarget, GainRec.targetCoeff, GainRec.heading, GainRec.rampTo]
  rw [Rme.placeRoute, level]
  rfl

theorem adjustedIf_clamped (g : Gain) : adjustedIf (g.clamped != g) = if g.clamped = g then .ok else .adjusted := by
  by_cases same : g.clamped = g <;> simp [adjustedIf, same]

end

/-! ## A route that leaves ACTIVE (R99, R100) -/

section
variable {m : Rme}

/-- R99 step 1: the lane's RELEASING route becomes FREE, and it is told. -/
theorem cutReleasing_route (law : RoutesLaw m) (source dest : Point) :
    (∀ n, (m.cutReleasing source dest).1.route n =
      if (m.route n).state = .releasing ∧ (m.route n).inLane source dest = true then Route.freeEntry else m.route n) ∧
    (∀ n, (m.route n).state = .releasing → (m.route n).inLane source dest = true →
      NoticeBody.routeReleased n (m.route n).source (m.route n).dest .cut ∈ (m.cutReleasing source dest).2) := by
  unfold Rme.cutReleasing
  split
  · rename_i id found
    obtain ⟨inside, state, lane⟩ := laneRoute_spec found
    have only (n : Nat) (hs : (m.route n).state = .releasing) (hl : (m.route n).inLane source dest = true) : n = id :=
      laneRoute_only law found nofun hs hl
    refine ⟨fun n => ?_, fun n hs hl => ?_⟩
    · simp only [Rme.freeRoute, route_putRoute]
      by_cases same : n = id
      · subst same
        simp [inside, state, lane]
      · rw [if_neg fun h => same h.1, if_neg fun h => same (only n h.1 h.2)]
    · rw [only n hs hl]
      exact List.mem_singleton_self _
  · rename_i missing
    refine ⟨fun n => ?_, fun n hs hl => ?_⟩
    · rw [if_neg]
      rintro ⟨hs, hl⟩
      exact absurd hl (by simp [laneRoute_none missing nofun n hs])
    · exact absurd hl (by simp [laneRoute_none missing nofun n hs])

theorem cutReleasing_frame (m : Rme) (source dest : Point) : ∃ routes, (m.cutReleasing source dest).1 = { m with routes := routes } ∧
    routes.length = m.routes.length ∧ (m.cutReleasing source dest).2.length ≤ 1 := by
  unfold Rme.cutReleasing
  split
  · exact ⟨_, rfl, by simp, Nat.le_refl 1⟩
  · exact ⟨m.routes, rfl, rfl, Nat.zero_le 1⟩

/-- R99 step 2: what the route that leaves ACTIVE becomes. -/
theorem demote_frame (m : Rme) (id : Nat) : (m.demote id).1 = m.putRoute id (if m.rampLength = 0 then Route.freeEntry else
      { m.route id with
        state := .releasing
        level := { (m.route id).level with holder := none, ramp := some ⟨(m.route id).level.coeff, 0, m.rampLength, 0⟩ } }) ∧
    (m.demote id).2.length ≤ 1 ∧
    (m.rampLength = 0 → NoticeBody.routeReleased id (m.route id).source (m.route id).dest .cut ∈ (m.demote id).2) := by
  unfold Rme.demote
  split
  · exact ⟨rfl, Nat.le_refl 1, fun _ => List.mem_singleton_self _⟩
  · rename_i nonzero
    refine ⟨?_, Nat.zero_le 1, fun h => absurd h nonzero⟩
    simp only [GainRec.rampTo, if_neg nonzero]

theorem routeReleased_alone (n : Nat) (a b : Point) (r : ReleaseReason) : (NoticeBody.routeReleased n a b r).Alone := by
  simp [NoticeBody.Alone, NoticeBody.code]

/-- What `routeLeft` says of the bindings and of the notices is a fact about those two records alone. -/
theorem routeLeft_congr {old : Nat} {s t u : State} {m : Rme} (left : routeLeft old s m t) (bdt : u.bdt = t.bdt)
    (notices : u.msu.notices = t.msu.notices) : routeLeft old s m u := by
  obtain ⟨rest, length, routes, bindings, told⟩ := left
  refine ⟨rest, length, routes, bdt.trans bindings, fun room n hn used freed => ?_⟩
  rw [Heard, notices]
  exact told room n hn used freed

/-- R99, R100, R102: an ACTIVE route leaves ACTIVE. -/
theorem routeLeft_leaveActive {s : State} (sound : RoutesSound s.rme) {id : Nat} (active : (s.rme.route id).state = .active) :
    routeLeft id s (leaveActive id s).rme (leaveActive id s) := by
  have law := routesLaw_iff.mpr sound
  have inside : id < s.rme.routes.length := by
    by_contra out
    rw [Rme.route, List.getD_eq_default _ _ (Nat.le_of_not_lt out)] at active
    cases active
  obtain ⟨routes, cutIs, cutLength, cutFew⟩ := cutReleasing_frame s.rme (s.rme.route id).source (s.rme.route id).dest
  obtain ⟨cutRoute, cutTold⟩ := cutReleasing_route law (s.rme.route id).source (s.rme.route id).dest
  have eq := leaveActive_eq id s
  generalize s.rme.cutReleasing (s.rme.route id).source (s.rme.route id).dest = cut at *
  obtain ⟨gone, goneFew, goneTold⟩ := demote_frame cut.1 id
  have same : cut.1.route id = s.rme.route id := by
    rw [cutRoute, if_neg (by simp [active])]
  have length : cut.1.rampLength = s.rme.rampLength := by rw [cutIs]
  rw [same, length] at gone goneTold
  have rme : (leaveActive id s).rme = (cut.1.demote id).1 := by
    rw [eq, notifyAll_eq]
    rfl
  have routeIs (n : Nat) : (leaveActive id s).rme.route n = afterLeaving s.rme id n := by
    rw [rme, gone, route_putRoute, afterLeaving, cutRoute]
    by_cases here : n = id
    · rw [if_pos ⟨here, by rw [cutIs]; exact cutLength ▸ inside⟩, if_pos here]
    · rw [if_neg fun h => here h.1, if_neg here]
  refine ⟨?_, ?_, fun n _ => routeIs n, ?_, fun room n _ used freed => ?_⟩
  · rw [rme, gone, cutIs]
    rfl
  · rw [rme, gone, cutIs]
    exact (List.length_set ..).trans (cutLength.trans sound.1)
  · rw [eq, notifyAll_eq]
    rfl
  · rw [eq]
    refine heard_notifyAll room (by rw [List.length_append]; omega) ?_ (routeReleased_alone _ _ _ _)
    rw [routeIs, afterLeaving] at freed
    split at freed
    · rename_i here
      split at freed
      · rw [here]
        exact List.mem_append_right _ (goneTold ‹_›)
      · cases freed
    · split at freed
      · rename_i lane
        exact List.mem_append_left _ (cutTold n lane.1 lane.2)
      · exact absurd freed used

end

/-! ## ROUTE_ADD (R97, R98, R99) -/

section
variable {s : State} {source destination : PointCode} {gain : Half} {flags : Byte} {src dst : Point} {g : Gain}
  {mute invert replace : Bool} (hs : sourcePointOf source = some src) (hd : destPointOf destination = some dst)
  (hg : gainOf gain = some g) (hf : routeFlagsOf flags = some (mute, invert, replace))
include hs hd hg hf

theorem handleRouteAdd_badOrder (bad : badOrder src dst = true) : handleRouteAdd source destination gain flags s = refuse s .badOrder := by
  simp only [handleRouteAdd, hs, hd, hg, hf, if_pos bad]

theorem handleRouteAdd_inUse (good : badOrder src dst = false) (used : (s.rme.laneRoute src dst .active).isSome = true)
    (keeps : replace = false) : handleRouteAdd source destination gain flags s = refuse s .inUse := by
  simp [handleRouteAdd, hs, hd, hg, hf, good, used, keeps]

theorem handleRouteAdd_noRoom (good : badOrder src dst = false)
    (open_ : (s.rme.laneRoute src dst .active).isSome = true → replace = true) (full : s.rme.roomFor src dst replace = false) :
    handleRouteAdd source destination gain flags s = refuse s .noRoom := by
  simp only [handleRouteAdd, hs, hd, hg, hf, good, full]
  rw [if_neg (by simp), if_neg fun h => by simp [open_ h.1] at h, if_pos trivial]

theorem handleRouteAdd_adds (good : badOrder src dst = false)
    (open_ : (s.rme.laneRoute src dst .active).isSome = true → replace = true) (room : s.rme.roomFor src dst replace = true) {id : Nat}
    (free : (clearLane src dst s).rme.lowestFree = some id) :
    handleRouteAdd source destination gain flags s =
      ⟨(clearLane src dst s).withRme ((clearLane src dst s).rme.putRoute id
        (Safety.newRoute src dst g.clamped mute invert (clearLane src dst s).rme.rampLength)),
        if g.clamped = g then .ok else .adjusted, some (.routeAdded id g.clamped)⟩ := by
  simp only [handleRouteAdd, hs, hd, hg, hf, good, room]
  rw [if_neg (by simp), if_neg fun h => by simp [open_ h.1] at h, if_neg (by simp)]
  simp only [addRoute, free, Option.getD_some, placeRoute_eq, adjustedIf_clamped]

end

theorem clearLane_none {source dest : Point} {s : State} (missing : s.rme.laneRoute source dest .active = none) : clearLane source dest s = s := by
  simp only [clearLane, missing]

theorem clearLane_some {source dest : Point} {s : State} {id : Nat} (found : s.rme.laneRoute source dest .active = some id) :
    clearLane source dest s = leaveActive id s := by
  simp only [clearLane, found]

end Sys2Proof.Machine

open Sys2Proof.Machine Sys2Proof.Safety in
/-- Settles O34, by the checks of ROUTE_ADD in their order. -/
theorem routeAdd : Obligations.RouteAdd := by
  intro tag flags source destination gain src dst g mute invert s takes hs hd hg hf lane
  have lane_none (clear : ∀ r ∈ s.rme.routes, ¬ lane r) : s.rme.laneRoute src dst .active = none := by
    rw [← Option.not_isSome_iff_eq_none, laneRoute_isSome]
    rintro ⟨r, mem, is⟩
    exact clear r mem is
  refine ⟨fun bad => ?_, fun good used => ?_, fun good clear full => ?_, fun good clear before old after table used free => ?_⟩
  · exact exec_refused rfl rfl takes (handleRouteAdd_badOrder hs hd hg hf bad)
  · exact exec_refused rfl rfl takes (handleRouteAdd_inUse hs hd hg hf good (laneRoute_isSome.mpr used) rfl)
  · refine exec_refused rfl rfl takes (handleRouteAdd_noRoom hs hd hg hf good (by simp [lane_none clear]) ?_)
    rw [Rme.roomFor, Bool.and_assoc, Bool.false_and, Bool.or_false, Bool.eq_false_iff, ne_eq, lowestFree_isSome]
    rintro ⟨r, mem, is⟩
    exact full r mem is
  · have lowest : s.rme.lowestFree = some before.length := by
      refine lowestFree_eq (by simp [table]) (by simp [Rme.route, table, free]) fun n lower => ?_
      rw [Rme.route, table, List.getD_append _ _ _ _ lower, List.getD_eq_getElem _ _ lower]
      exact used _ (List.getElem_mem _)
    have still := clearLane_none (lane_none clear)
    rw [(exec_taken rfl rfl takes).trans (congrArg (fun h => Host.Outcome.next (h.answered 0x28 tag))
      (handleRouteAdd_adds hs hd hg hf good (by simp [lane_none clear])
        (by rw [Rme.roomFor, lowest]; rfl) (id := before.length) (by rw [still, lowest])))]
    rw [still]
    have routes : s.rme.routes.set before.length (newRoute src dst g.clamped mute invert s.rme.rampLength) =
        before ++ newRoute src dst g.clamped mute invert s.rme.rampLength :: after := by
      rw [table, List.set_append_right _ _ (Nat.le_refl _), Nat.sub_self, List.set_cons_zero]
    rw [Rme.putRoute, routes]
    rfl

open Sys2Proof.Machine Sys2Proof.Safety in
/-- Settles O35, by what a route that leaves ACTIVE leaves behind. -/
theorem routeReplaceAndRemove : Obligations.RouteReplaceAndRemove := by
  refine ⟨fun tag flags source destination gain src dst g mute invert s takes hs hd hg hf good sound => ?_, fun tag id s takes => ?_⟩
  · have law := routesLaw_iff.mpr sound
    have length := sound.1
    intro row status inLane new free
    refine ⟨fun clear => ?_, fun old inside active lane => ?_⟩
    · have missing : s.rme.laneRoute src dst .active = none := by
        rw [← Option.not_isSome_iff_eq_none, laneRoute_isSome]
        rintro ⟨r, mem, is⟩
        exact clear r mem is.1 is.2
      have still := clearLane_none missing
      refine ⟨fun full => exec_refused rfl rfl takes (handleRouteAdd_noRoom hs hd hg hf good (by simp) ?_),
        fun id inside freed before => ?_⟩
      · rw [Rme.roomFor, missing, Bool.eq_false_iff.mpr (mt lowestFree_isSome.mp full)]
        rfl
      · have lowest := lowestFree_eq (length ▸ inside) freed before
        rw [(exec_taken rfl rfl takes).trans (congrArg (fun h => Host.Outcome.next (h.answered 0x28 tag))
          (handleRouteAdd_adds hs hd hg hf good (by simp) (by rw [Rme.roomFor, lowest]; rfl) (id := id) (by rw [still, lowest])))]
        rw [still]
        rfl
    · intro room
      obtain ⟨id', found⟩ := Option.isSome_iff_exists.mp
        (laneRoute_isSome.mpr ⟨_, route_mem (length ▸ inside), active, lane⟩)
      obtain rfl := laneRoute_only law found nofun active lane
      have left := routeLeft_leaveActive sound active
      have cleared := clearLane_some found
      have reach := reaches_leaveActive (s := s) old
      generalize leaveActive old s = u at left cleared reach
      obtain ⟨rest, uLength, routes, -, -⟩ := id left
      refine ⟨fun full => exec_refused rfl rfl takes (handleRouteAdd_noRoom hs hd hg hf good (by simp) ?_), fun has => ?_⟩
      · simp only [Rme.roomFor, found, Option.isSome_some, Bool.true_and, Bool.or_eq_false_iff]
        refine ⟨Bool.eq_false_iff.mpr fun h => full (.inl (lowestFree_isSome.mp h)), Bool.eq_false_iff.mpr fun h => ?_, ?_⟩
        · exact full (.inr (.inr (laneRoute_isSome.mp h)))
        · exact beq_eq_false_iff_ne.mpr fun h => full (.inr (.inl h))
      · have freed : ∃ n < 128, (u.rme.route n).state = .free := by
          obtain ⟨r, mem, is⟩ | zero | ⟨r, mem, is, there⟩ := has
          · obtain ⟨n, hn, rfl⟩ := route_of_mem mem
            refine ⟨n, length ▸ hn, ?_⟩
            rw [routes n (length ▸ hn), afterLeaving, if_neg (by rintro rfl; simp [active] at is), if_neg (by simp [is]), is]
          · refine ⟨old, inside, ?_⟩
            rw [routes old inside, afterLeaving, if_pos rfl, if_pos zero]
            rfl
          · obtain ⟨n, hn, rfl⟩ := route_of_mem mem
            refine ⟨n, length ▸ hn, ?_⟩
            rw [routes n (length ▸ hn), afterLeaving, if_neg (by rintro rfl; simp [active] at is),
              if_pos ⟨is, inLane_of_inLane lane there⟩]
            rfl
        obtain ⟨n, hn, isFree⟩ := freed
        obtain ⟨id, lowest, idInside, idFree, before⟩ := lowestFree_spec ⟨_, route_mem (uLength ▸ hn), isFree⟩
        have roomy : s.rme.roomFor src dst true = true := by
          simp only [Rme.roomFor, found, Option.isSome_some, Bool.true_and, Bool.or_eq_true, beq_iff_eq]
          exact has.imp lowestFree_isSome.mpr fun h => h.symm.imp_left laneRoute_isSome.mpr
        have ramp : u.rme.rampLength = s.rme.rampLength := by rw [rest]
        have runs := (exec_taken (c := row) rfl rfl takes).trans (congrArg (fun h => Host.Outcome.next (h.answered 0x28 tag))
          (handleRouteAdd_adds hs hd hg hf good (by simp) roomy (id := id) (by rw [cleared, lowest])))
        rw [cleared, ramp] at runs
        have placed := reach.andThen (reaches_withRme u (u.rme.putRoute id new)) (rs := [.records, .rme, .bdt])
        exact ⟨_, u.rme, id, runs, uLength ▸ idInside, idFree, before, routeLeft_congr left rfl rfl, rfl,
          answered_of_reaches placed, keepsBut_queueReply (keepsBut_of_reaches placed (by decide)) _⟩
  · refine ⟨fun out => exec_refused rfl rfl takes ?_, fun inside freed => exec_refused rfl rfl takes ?_, fun inside releasing => ?_,
      fun inside active sound => ?_⟩
    · simp [handleRouteRemove, indexBelow, Nat.not_lt.mpr out]
    · simp [handleRouteRemove, indexBelow, inside, freed]
    · exact exec_accepted rfl rfl takes (by simp [handleRouteRemove, indexBelow, inside, releasing])
    · have reach := reaches_leaveActive (s := s) id.toNat
      have accepted : handleRouteRemove id s = accept (leaveActive id.toNat s) none := by
        simp [handleRouteRemove, indexBelow, inside, active]
      exact ⟨_, exec_accepted rfl rfl takes accepted,
        answered_of_reaches reach, routeLeft_congr (routeLeft_leaveActive sound active) rfl rfl,
        keepsBut_queueReply (keepsBut_of_reaches reach (by decide)) _⟩

end

section
/-! PROOFS. The set-target rule with its feedback, and the commands that apply it to routes and buses (O36, O37). -/

namespace Sys2Proof.Machine

open Safety

/-! ## The record (R95) -/

/-- R95 steps 1 to 3. -/
theorem retargeted_setTarget (old : GainRec) (gain : Option Gain) (mute : Option Bool) (length : Nat) :
    retargeted (gain.getD old.gain) (mute.getD old.mute) length old (old.setTarget gain mute length) := by
  set q : GainRec := { old with gain := gain.getD old.gain, mute := mute.getD old.mute } with hq
  have target : q.targetCoeff = if mute.getD old.mute then 0 else (gain.getD old.gain).coeff := rfl
  have stands : q.heading = old.heading := rfl
  have is : old.setTarget gain mute length = if q.targetCoeff = q.heading then q else q.rampTo q.targetCoeff length := rfl
  rw [retargeted, is, ← target]
  split
  · rename_i same
    exact ⟨rfl, rfl, rfl, same.symm, fun _ => ⟨rfl, rfl⟩, fun moved => absurd stands moved, fun moved => absurd stands moved⟩
  · rename_i moves
    obtain ⟨gainIs, muteIs, holder⟩ := rampTo_gain (l := q) q.targetCoeff length
    refine ⟨gainIs, muteIs, holder, rampTo_heading _ _, ?_, fun _ zero => ?_, fun _ long => ?_⟩ <;> rw [rampTo_heading]
    · exact fun same => absurd (same.trans stands.symm) moves
    · rw [GainRec.rampTo, if_pos zero]
      exact ⟨rfl, rfl⟩
    · rw [GainRec.rampTo, if_neg long]
      exact ⟨rfl, rfl⟩

/-! ## Feedback (R191) -/

/-- R191: feedback goes through the bindings in ascending index order. -/
theorem feedbackAll_fold (x : LevelRef) (gained muted : Bool) (cause : Option Nat) (s : State) :
    feedbackAll x gained muted cause s = (List.range s.bdt.length).foldl (fun u i =>
      if (s.bdt.getD i Binding.emptyEntry).hears x gained muted && cause != some i
      then sendFeedback (s.bdt.getD i Binding.emptyEntry) u else u) s := by
  rw [feedbackAll, numbered_eq_map_range s.bdt Binding.emptyEntry, List.foldl_map]

theorem hears_iff (b : Binding) (x : LevelRef) (gained muted : Prop) [Decidable gained] [Decidable muted] :
    b.hears x (decide gained) (decide muted) = true ↔
      b.state = .active ∧ b.feedback = true ∧ b.target.ref = x ∧ (if b.target.isGain then gained else muted) := by
  unfold Binding.hears
  split <;> simp [and_assoc]

/-- R193, R197: the channel that takes a target. -/
theorem aimed_headed (f : Fader) (t : Nat) : (f.aimed t).1 = headed f t := by
  unfold Fader.aimed headed
  by_cases far : f.deadbandInForce < ((t : Int) - f.position).natAbs <;> cases f.state <;> simp [Fader.distance, far] <;> rfl

theorem takesTarget_iff (f : Fader) : f.takesTarget = true ↔ ¬ (f.state = .disabled ∨ f.touch = true) := by
  simp [Fader.takesTarget]

theorem changeFader_fsv (i : Nat) (op : Fader → Fader × Option FaderReason) (s : State) :
    (changeFader i op s).fsv = { s.fsv with channels := s.fsv.channels.set i (op (s.fsv.channel i)).1 } := by
  simp only [changeFader]
  split
  · rw [notify_eq]
    rfl
  · rfl

theorem feedbackValue_eq (b : Binding) (l : GainRec) : feedbackOf b l = feedbackValue b.mode (b.control.origin == .bank) l := by
  unfold feedbackOf feedbackValue
  cases b.mode <;> cases b.control.origin <;> rfl

theorem feedbackSent_sendFeedback (b : Binding) (s : State) : feedbackSent b s (sendFeedback b s) := by
  unfold feedbackSent sendFeedback
  rw [feedbackValue_eq]
  cases origin : b.control.origin with
  | bank =>
    simp only [aimFader, takesTarget_iff]
    split
    · rfl
    · exact ⟨by rw [changeFader_fsv, aimed_headed]; rfl, keepsBut_of_reaches (reaches_changeFader ..) (by decide)⟩
  | remote a =>
    dsimp only
    split
    · rfl
    · rfl

/-! ## The rule with the scheduler behind it -/

/-- R139: once nothing is left, only a queue can have a new offer, while the bus stands as it stood. -/
theorem schedule_queued {s t : State} (left : NothingLeft s) (phase : t.phase = s.phase) (sbc : t.sbc = s.sbc) :
    schedule t = t ∨ ∃ q f, schedule t = sendQueued q f t := by
  obtain ⟨-, stays⟩ | ⟨-, -, stays⟩ | ⟨o, picks, offers, takes⟩ := schedule_cases t
  · exact .inl stays
  · exact .inl stays
  have mayPick : s.mayPick = true := by rwa [State.mayPick, phase, sbc] at picks
  have none_ := left mayPick
  unfold State.offer at none_ offers
  rw [sbc] at offers
  split at none_
  · cases none_
  · rename_i started
    simp only [Option.or_eq_none_iff, Option.map_eq_none_iff] at none_
    obtain ⟨-, round, search, -⟩ := none_
    simp only [if_neg started, round, search, Option.map_none, Option.none_or, Option.or_eq_some_iff, Option.map_eq_some_iff] at offers
    rw [takes]
    obtain ⟨f, -, rfl⟩ | ⟨-, ⟨f, -, rfl⟩ | ⟨-, f, -, rfl⟩⟩ := offers <;> exact .inr ⟨_, f, rfl⟩

theorem reaches_schedule_queued {s t : State} (left : NothingLeft s) (phase : t.phase = s.phase) (sbc : t.sbc = s.sbc) :
    Reaches [.sbc, .sou] t (schedule t) := by
  obtain stays | ⟨q, f, picks⟩ := schedule_queued left phase sbc
  · rw [stays]
    exact .refl t
  · rw [picks]
    exact (reaches_withSou t _).andThen (reaches_withSbc _ _)

/-- R95, R191: the rule in a record, and what its feedback reaches. -/
theorem setTarget_scheduled {s : State} (left : NothingLeft s) (x : LevelRef) (g : Option Gain) (m : Option Bool) :
    (schedule (setTarget x g m none s)).rme = s.rme.putLevel x ((s.rme.level x).setTarget g m s.rme.rampLength) ∧
    (setTarget x g m none s).rme = s.rme.putLevel x ((s.rme.level x).setTarget g m s.rme.rampLength) ∧
    Reaches [.records, .rme, .sbc, .sou, .fsv] s (schedule (setTarget x g m none s)) := by
  have reach := reaches_setTarget x g m none s
  have sent := reaches_schedule_queued (t := setTarget x g m none s) left (reach.frame .phase (by decide)) (reach.frame .sbc (by decide))
  have rme : (setTarget x g m none s).rme = s.rme.putLevel x ((s.rme.level x).setTarget g m s.rme.rampLength) :=
    (reaches_feedbackAll x _ _ none _).frame .rme (by decide)
  exact ⟨Eq.trans (sent.frame .rme (by decide)) rme, rme, reach.andThen sent⟩

section
variable {s t : State} {n : Nat} {l : GainRec}

theorem rme_putLevel_route (inside : n < s.rme.routes.length) (rme : t.rme = s.rme.putLevel (.route n) l) :
    (t.rme.route n).level = l ∧ t.rme = s.rme.putRoute n { s.rme.route n with level := (t.rme.route n).level } := by
  have level : (t.rme.route n).level = l := by
    rw [rme, Rme.putLevel, putRoute_route_self inside]
  exact ⟨level, by rw [level, rme]; rfl⟩

theorem rme_putLevel_bus (inside : n < s.rme.buses.length) (rme : t.rme = s.rme.putLevel (.bus n) l) :
    t.rme.bus n = l ∧ t.rme = s.rme.putBus n (t.rme.bus n) := by
  have level : t.rme.bus n = l := by
    rw [rme, Rme.putLevel, putBus_bus_self inside]
  exact ⟨level, by rw [level, rme]; rfl⟩

end

/-! ## The commands (R103, R104, R106) -/

section
variable {s : State} {id mute : Byte} {gain : Half} {g : Gain} {b : Bool} (inside : id.toNat < 128)
include inside

theorem handleRouteSetGain_refused (hg : gainOf gain = some g) :
    ((s.rme.route id.toNat).state = .free → handleRouteSetGain id gain s = refuse s .notFound) ∧
    ((s.rme.route id.toNat).state = .releasing → handleRouteSetGain id gain s = refuse s .wrongState) ∧
    ((s.rme.route id.toNat).state = .active → (s.rme.route id.toNat).level.holder ≠ none →
      handleRouteSetGain id gain s = refuse s .heldBySurface) := by
  refine ⟨fun state => ?_, fun state => ?_, fun state held => ?_⟩ <;> simp only [handleRouteSetGain, indexBelow, if_pos inside, hg, state]
  rw [if_pos (Option.isSome_iff_ne_none.mpr held)]

theorem handleRouteSetGain_accepted (hg : gainOf gain = some g) (active : (s.rme.route id.toNat).state = .active)
    (unheld : (s.rme.route id.toNat).level.holder = none) : handleRouteSetGain id gain s =
      ⟨schedule (setTarget (.route id.toNat) (some g.clamped) none none s), if g.clamped = g then .ok else .adjusted,
        some (.routeGain id.toNat g.clamped
          ((setTarget (.route id.toNat) (some g.clamped) none none s).rme.route id.toNat).level.targetCoeff)⟩ := by
  simp [handleRouteSetGain, indexBelow, inside, hg, active, unheld, adjustedIf_clamped]

theorem handleRouteSetMute_refused (hb : flagOf mute = some b) :
    ((s.rme.route id.toNat).state = .free → handleRouteSetMute id mute s = refuse s .notFound) ∧
    ((s.rme.route id.toNat).state = .releasing → handleRouteSetMute id mute s = refuse s .wrongState) := by
  refine ⟨fun state => ?_, fun state => ?_⟩ <;> simp only [handleRouteSetMute, indexBelow, if_pos inside, hb, state]

theorem handleRouteSetMute_accepted (hb : flagOf mute = some b) (active : (s.rme.route id.toNat).state = .active) :
    handleRouteSetMute id mute s =
      accept (schedule (setTarget (.route id.toNat) none (some b) none s)) (some (.routeMute id.toNat b)) := by
  simp only [handleRouteSetMute, indexBelow, if_pos inside, hb, active]

end

section
variable {s : State} {bus mute : Byte} {applyGain applyMute : Bool} {gain length : Half} {g : Gain} {b : Bool}

theorem twoFlagsOf_flags (x y : Bool) : twoFlagsOf ((if x then 1 else 0) + (if y then 2 else 0)) = some (x, y) := by
  cases x <;> cases y <;> decide

theorem busValuesOf_flags (hg : gainOf gain = some g) (hb : flagOf mute = some b) :
    busValuesOf applyGain applyMute gain mute = some (if applyGain then some g else none, if applyMute then some b else none) := by
  cases applyGain <;> cases applyMute <;> simp [busValuesOf, hg, hb]

/-- R106: the gain of BUS_SET counts only where it is applied. -/
theorem adjustedIf_applied : adjustedIf ((if applyGain then some g else none : Option Gain).map Gain.clamped !=
    (if applyGain then some g else none)) = if applyGain = true ∧ g.clamped ≠ g then .adjusted else .ok := by
  cases applyGain with
  | false => rfl
  | true => by_cases same : g.clamped = g <;> simp [adjustedIf, same]

theorem handleBusSet_refused (inside : bus.toNat < 8) (hg : gainOf gain = some g) (hb : flagOf mute = some b)
    (applies : applyGain = true) (held : (s.rme.bus bus.toNat).holder ≠ none) :
    handleBusSet bus ((if applyGain then 1 else 0) + (if applyMute then 2 else 0)) gain mute s = refuse s .heldBySurface := by
  simp only [handleBusSet, indexBelow, if_pos inside, twoFlagsOf_flags, busValuesOf_flags hg hb]
  rw [if_pos ⟨applies, Option.isSome_iff_ne_none.mpr held⟩]

theorem handleBusSet_accepted (inside : bus.toNat < 8) (hg : gainOf gain = some g) (hb : flagOf mute = some b)
    (free : applyGain = false ∨ (s.rme.bus bus.toNat).holder = none) (t : State)
    (ht : t = setTarget (.bus bus.toNat) ((if applyGain then some g else none : Option Gain).map Gain.clamped)
      (if applyMute then some b else none) none s) :
    handleBusSet bus ((if applyGain then 1 else 0) + (if applyMute then 2 else 0)) gain mute s =
      ⟨schedule t, if applyGain = true ∧ g.clamped ≠ g then .adjusted else .ok,
        some (.bus bus.toNat (t.rme.bus bus.toNat).gain (t.rme.bus bus.toNat).mute (t.rme.bus bus.toNat).targetCoeff)⟩ := by
  simp only [handleBusSet, indexBelow, if_pos inside, twoFlagsOf_flags, busValuesOf_flags hg hb]
  rw [if_neg, adjustedIf_applied, ht]
  rintro ⟨applies, held⟩
  obtain h | h := free
  · simp [h] at applies
  · simp [h] at held

theorem rampLengthOf_value {l : Nat} (h : rampLengthOf length = some l) : l = length.toNat := by
  unfold rampLengthOf at h
  split at h <;> simp_all

end

end Sys2Proof.Machine

open Sys2Proof.Machine Sys2Proof.Safety in
/-- Settles O36, by the set-target rule of a record and the fold of its feedback. -/
theorem routeGainAndMute : Obligations.RouteGainAndMute := by
  refine ⟨fun x gain mute cause s => ?_, feedbackSent_sendFeedback, fun tag id mute gain g b s takes inside hg hb length left => ?_⟩
  · refine ⟨_, retargeted_setTarget (s.rme.level x) gain mute s.rme.rampLength, ?_⟩
    simp only [setTarget, feedbackAll_fold, setTarget_gain, setTarget_mute, Bool.and_eq_true, hears_iff, bne_iff_ne, and_assoc]
    rfl
  · rw [← length] at inside
    have small : id.toNat < 128 := length ▸ inside
    obtain ⟨gainFree, gainReleasing, gainHeld⟩ := handleRouteSetGain_refused (s := s) small hg
    obtain ⟨muteFree, muteReleasing⟩ := handleRouteSetMute_refused (s := s) small hb
    refine ⟨fun state => ⟨exec_refused rfl rfl takes (gainFree state), exec_refused rfl rfl takes (muteFree state)⟩,
      fun state => ⟨exec_refused rfl rfl takes (gainReleasing state), exec_refused rfl rfl takes (muteReleasing state)⟩,
      fun active held => exec_refused rfl rfl takes (gainHeld active held), fun active unheld => ?_, fun active => ?_⟩
    · obtain ⟨rme, before, reach⟩ := setTarget_scheduled left (.route id.toNat) (some g.clamped) none
      obtain ⟨level, whole⟩ := rme_putLevel_route inside rme
      have target := (retargeted_setTarget (s.rme.route id.toNat).level (some g.clamped) none s.rme.rampLength)
      have value : ((setTarget (.route id.toNat) (some g.clamped) none none s).rme.route id.toNat).level.targetCoeff =
          if (s.rme.route id.toNat).level.mute then 0 else g.clamped.coeff := by
        rw [(rme_putLevel_route inside before).1, GainRec.targetCoeff]
        rw [setTarget_gain, setTarget_mute]
        rfl
      have runs := (exec_taken (c := .routeSetGain tag id gain) rfl rfl takes).trans
        (congrArg (fun h => Host.Outcome.next (h.answered 0x2A tag)) (handleRouteSetGain_accepted small hg active unheld))
      rw [value] at runs
      refine ⟨_, runs, answered_of_reaches reach, ?_, whole, keepsBut_queueReply (keepsBut_of_reaches reach (by decide)) _⟩
      exact Eq.mpr (congrArg (retargeted _ _ _ _) level) target
    · obtain ⟨rme, -, reach⟩ := setTarget_scheduled left (.route id.toNat) none (some b)
      obtain ⟨level, whole⟩ := rme_putLevel_route inside rme
      have target := (retargeted_setTarget (s.rme.route id.toNat).level none (some b) s.rme.rampLength)
      refine ⟨_, exec_accepted rfl rfl takes (handleRouteSetMute_accepted small hb active), answered_of_reaches reach, ?_, whole,
        keepsBut_queueReply (keepsBut_of_reaches reach (by decide)) _⟩
      exact Eq.mpr (congrArg (retargeted _ _ _ _) level) target

open Sys2Proof.Machine Sys2Proof.Safety in
/-- Settles O37, by the set-target rule of a bus. -/
theorem busSetAndRampSet : Obligations.BusSetAndRampSet := by
  intro tag bus mute applyGain applyMute gain length g b s takes inside hg hb eight left n old flags
  refine ⟨fun applies held => ?_, fun free => ?_, fun out => exec_refused rfl rfl takes ?_, fun l hl => ⟨rampLengthOf_value hl, ?_⟩⟩
  · exact exec_refused rfl rfl takes (handleBusSet_refused inside hg hb applies held)
  · obtain ⟨rme, before, reach⟩ := setTarget_scheduled left (.bus n)
      ((if applyGain then some g else none : Option Gain).map Gain.clamped) (if applyMute then some b else none)
    obtain ⟨level, whole⟩ := rme_putLevel_bus (eight ▸ inside) rme
    have same := level.trans (rme_putLevel_bus (eight ▸ inside) before).1.symm
    have target := retargeted_setTarget old ((if applyGain then some g else none : Option Gain).map Gain.clamped)
      (if applyMute then some b else none) s.rme.rampLength
    have runs := (exec_taken (c := .busSet tag bus flags gain mute) rfl rfl takes).trans
      (congrArg (fun h => Host.Outcome.next (h.answered 0x2D tag)) (handleBusSet_accepted inside hg hb free _ rfl))
    rw [← same] at runs
    refine ⟨_, runs, answered_of_reaches reach, ?_, whole, keepsBut_queueReply (keepsBut_of_reaches reach (by decide)) _⟩
    refine Eq.mpr (congrArg (retargeted _ _ _ _) level) ?_
    cases applyGain <;> cases applyMute <;> exact target
  · simp only [handleRampSet, out]
  · exact exec_accepted rfl rfl takes (by simp only [handleRampSet, hl]; rfl)

end

section
/-! PROOFS. Ramps (O41) and meter periods (O43). -/

namespace Sys2Proof.Machine

open Safety

/-! ## Ramps (R111, R118) -/

section
variable {l : GainRec} {m : Ramp}

theorem stepRamp_within (ramp : l.ramp = some m) (within : m.step + 1 < m.length) :
    l.stepRamp = ({ l with coeff := m.value (m.step + 1), ramp := some { m with step := m.step + 1 } }, false) := by
  simp only [GainRec.stepRamp, ramp, if_neg (Nat.not_le.mpr within)]

theorem stepRamp_last (ramp : l.ramp = some m) (last : m.length ≤ m.step + 1) :
    l.stepRamp = ({ l with coeff := m.target, ramp := none }, true) := by
  simp only [GainRec.stepRamp, ramp, if_pos last]

theorem stepRamp_none (ramp : l.ramp = none) : l.stepRamp = (l, false) := by
  simp only [GainRec.stepRamp, ramp]

/-- R111: the value of a step, which is a natural number between the ends of the ramp. -/
theorem ramp_value (m : Ramp) {n : Nat} (short : n ≤ m.length) :
    (m.value n : Int) = m.start + Int.tdiv ((m.target - m.start : Int) * n) m.length := by
  refine Int.toNat_of_nonneg ?_
  obtain up | down := Nat.le_total m.start m.target
  · exact Int.add_nonneg (Int.natCast_nonneg _) (Int.tdiv_nonneg (Int.mul_nonneg (by omega) (Int.natCast_nonneg _)) (Int.natCast_nonneg _))
  · obtain ⟨d, hd⟩ := Nat.exists_eq_add_of_le down
    have part : Int.tdiv (((m.target : Int) - m.start) * n) m.length = -((d * n / m.length : Nat) : Int) := by
      rw [show ((m.target : Int) - m.start) = -(d : Int) by omega, Int.neg_mul, Int.neg_tdiv]
      exact_mod_cast congrArg Neg.neg (Int.ofNat_tdiv (d * n) m.length)
    have most : d * n / m.length ≤ d := Nat.div_le_of_le_mul (by rw [Nat.mul_comm]; exact Nat.mul_le_mul_right d short)
    rw [part]
    omega

end

/-! ## The queues and a frame for which there is room (R174, R175) -/

theorem dropUntil_fits {need free : Nat} (fits : need ≤ free) (fs : List QFrame) : dropUntil need free fs = (fs, [], free) := by
  cases fs with
  | nil => rfl
  | cons f rest => rw [dropUntil, if_pos fits]

/-- A frame that the free blocks hold makes no other leave. -/
theorem take_fits {o : Sou} {q : QueueId} {f : QFrame} (place : (o.queue q).length < queueCapacity q) (fits : f.blocks ≤ o.freeBlocks) :
    o.take q f = .appended (o.putQueue q (o.queue q ++ [f])) [] := by
  unfold Sou.take
  rw [if_neg (Nat.not_le.mpr place), dropUntil_fits fits]
  simp only [dropUntil_fits fits]
  rw [if_neg (by omega)]
  split <;> rfl

theorem handFrame_fits {s : State} {q : QueueId} {f : QFrame} (apart : (s.sou.queue q).any (f.coalesces ·) = false)
    (place : (s.sou.queue q).length < queueCapacity q) (fits : f.blocks ≤ s.sou.freeBlocks) :
    handFrame q f s = s.withSou (s.sou.putQueue q (s.sou.queue q ++ [f])) := by
  rw [handFrame, if_neg (by simp [apart]), take_fits place fits]
  rfl

theorem handFrame_merges {s : State} {q : QueueId} {f : QFrame} (merges : (s.sou.queue q).any (f.coalesces ·) = true) :
    handFrame q f s = s.withSou (s.sou.putQueue q (replaceFirst (f.coalesces ·) (·.renew f) (s.sou.queue q))) := by
  rw [handFrame, if_pos merges]

/-- A pick marks the head frame, and leaves every frame as it is to be sent. -/
theorem pickHead_frames (fs : List QFrame) : (pickHead fs).map (fun f => f.frame) = fs.map (fun f => f.frame) := by
  cases fs <;> rfl

theorem sendQueued_frames (q : QueueId) (f : QFrame) (s : State) (p : QueueId) :
    ((sendQueued q f s).sou.queue p).map (fun f => f.frame) = (s.sou.queue p).map (fun f => f.frame) := by
  change ((s.sou.putQueue q (pickHead (s.sou.queue q))).queue p).map _ = _
  by_cases same : p = q
  · rw [same, putQueue_queue_self, pickHead_frames]
  · rw [putQueue_queue_ne _ same]

/-! ## METER frames (R125) -/

/-- The METER frame that is handed over for an address. -/
def meterQueued (m : Rme) (a : Nat) : QFrame := newFrame .meter (meterFrame m.slots a) 0 false none

theorem meterFrame_eq (m : Rme) (a : Nat) : meterFrame m.slots a = meterFrameOf m a := by
  unfold meterFrame meterFrameOf displayCode
  congr 1
  refine List.map_congr_left fun p _ => ?_
  split <;> rename_i found <;> rw [found] <;> rfl

section
variable {s : State} {m : Rme} {a : Nat} {o : Option Owner}

theorem meterQueued_sound (small : a ≤ 30) : FrameSound .meter (meterQueued m a) :=
  ⟨Nat.zero_le _, Nat.zero_lt_succ _, small, nofun, nofun, fun _ => ⟨rfl, by simp [meterQueued, newFrame, meterFrame], rfl⟩, nofun,
    fun _ => ⟨rfl, rfl⟩, fun _ => ⟨rfl, rfl⟩⟩

/-- Every frame of the METER queue is a METER frame (R172). -/
theorem meter_of_sound {f : QFrame} (sound : FrameSound .meter f) : f.origin = .meter ∧ f.frame.kind = .meter := by
  obtain ⟨-, -, -, host, feedback, meter, removal, -⟩ := sound
  cases origin : f.origin with
  | host => exact absurd rfl (host origin).1
  | feedback => cases (feedback origin).1
  | removal => cases (removal origin).1
  | meter => exact ⟨rfl, (meter origin).2.2⟩

theorem meterQueued_coalesces {f : QFrame} (sound : FrameSound .meter f) :
    (meterQueued m a).coalesces f = true ↔ f.frame.address = a := by
  have origin := (meter_of_sound sound).1
  simp only [QFrame.coalesces, meterQueued, newFrame, origin, beq_iff_eq]
  exact eq_comm

/-- The one frame of an address takes the new codes (R174). -/
theorem replaceFirst_frames {fs : List QFrame} (sound : ∀ f ∈ fs, FrameSound .meter f) (nodup : (fs.map (fun f => f.frame.address)).Nodup) :
    (replaceFirst ((meterQueued m a).coalesces ·) (·.renew (meterQueued m a)) fs).map (fun f => f.frame) =
      fs.map (fun f => if f.frame.address = a then meterFrameOf m a else f.frame) := by
  induction fs with
  | nil => rfl
  | cons f rest ih =>
    obtain ⟨first, others⟩ := List.nodup_cons.mp nodup
    have hf := sound f List.mem_cons_self
    rw [replaceFirst]
    by_cases here : f.frame.address = a
    · have rests : rest.map (fun f => if f.frame.address = a then meterFrameOf m a else f.frame) = rest.map (fun f => f.frame) :=
        List.map_congr_left fun g hg => if_neg fun same => first (List.mem_map.mpr ⟨g, hg, same.trans here.symm⟩)
      have frame : (f.renew (meterQueued m a)).frame = meterFrameOf m a := by
        have kind := (meter_of_sound hf).2
        rw [← meterFrame_eq]
        show BusFrame.mk f.frame.address f.frame.kind _ = _
        rw [here, kind]
        rfl
      rw [if_pos ((meterQueued_coalesces hf).mpr here), List.map_cons, List.map_cons, rests, if_pos here, frame]
    · rw [if_neg (mt (meterQueued_coalesces hf).mp here), List.map_cons, List.map_cons,
        ih (fun g hg => sound g (List.mem_cons_of_mem _ hg)) others, if_neg here]

/-- One METER frame handed over to a queue that has room for it. -/
theorem handFrame_meter (law : QueuesLaw o s.sou) (small : a ≤ 30)
    (place : s.sou.meter.length + 1 ≤ 16) (fits : s.sou.used + 2 ≤ 64) :
    ∃ u, handFrame .meter (meterQueued m a) s = s.withSou u ∧ QueuesLaw o u ∧ u.meter.length ≤ s.sou.meter.length + 1 ∧
      u.used ≤ s.sou.used + 2 ∧ u.urgent = s.sou.urgent ∧ u.normal = s.sou.normal ∧
      u.meter.map (fun f => f.frame) = if a ∈ s.sou.meter.map (fun f => f.frame.address) then
        s.sou.meter.map (fun f => if f.frame.address = a then meterFrameOf m a else f.frame)
      else s.sou.meter.map (fun f => f.frame) ++ [meterFrameOf m a] := by
  have sound := (law.queue .meter).frames
  have merges : (s.sou.queue .meter).any ((meterQueued m a).coalesces ·) = true ↔ a ∈ s.sou.meter.map (fun f => f.frame.address) := by
    rw [List.any_eq_true, List.mem_map]
    exact exists_congr fun f => and_congr_right fun hf => meterQueued_coalesces (sound f hf)
  have blocks : (meterQueued m a).blocks = 2 := by simp [QFrame.blocks, meterQueued, newFrame, meterFrame]
  have lawful := queuesLaw_handFrame law (meterQueued_sound (m := m) small) rfl fun _ => rfl
  by_cases there : a ∈ s.sou.meter.map (fun f => f.frame.address)
  · have is := handFrame_merges (merges.mpr there)
    have same := replaceFirst_frames (m := m) (a := a) sound law.meters
    rw [is] at lawful
    have poolUsed := used_putQueue s.sou .meter (replaceFirst ((meterQueued m a).coalesces ·) (·.renew (meterQueued m a)) (s.sou.queue .meter))
    have blocksSame : blocksOf (replaceFirst ((meterQueued m a).coalesces ·) (·.renew (meterQueued m a)) (s.sou.queue .meter)) =
        blocksOf (s.sou.queue .meter) := by
      have all := congrArg (List.map (fun g : BusFrame => (g.payload.length + 19) / 16)) same
      rw [List.map_map, List.map_map] at all
      refine congrArg List.sum (all.trans (List.map_congr_left fun f hf => ?_))
      obtain ⟨-, -, -, -, -, meter, -⟩ := sound f hf
      have length := (meter (meter_of_sound (sound f hf)).1).2.1
      by_cases here : f.frame.address = a <;> simp [here, length, meterFrameOf, QFrame.blocks]
    refine ⟨_, is, lawful, ?_, by omega, rfl, rfl, ?_⟩
    · have lengths := congrArg List.length same
      simp only [List.length_map] at lengths
      exact Nat.le_succ_of_le (Nat.le_of_eq lengths)
    · rw [if_pos there]
      exact same
  · have is := handFrame_fits (s := s) (q := .meter) (f := meterQueued m a) (Bool.eq_false_iff.mpr (mt merges.mp there)) place
      (by rw [blocks, Sou.freeBlocks]; omega)
    rw [is] at lawful
    have poolUsed := used_putQueue s.sou .meter (s.sou.queue .meter ++ [meterQueued m a])
    have blocksMore : blocksOf (s.sou.queue .meter ++ [meterQueued m a]) = blocksOf (s.sou.queue .meter) + 2 := by
      simp [blocksOf, blocks]
    refine ⟨_, is, lawful, by simp [Sou.putQueue, Sou.queue], by omega, rfl, rfl, ?_⟩
    rw [if_neg there]
    simp [Sou.putQueue, Sou.queue, meterQueued, newFrame, meterFrame_eq]

/-- R125, R174: the frames of several addresses, in ascending order. -/
theorem handFrames_meter {as : List Nat} (law : QueuesLaw o s.sou) (small : ∀ a ∈ as, a ≤ 30) (nodup : as.Nodup)
    (place : s.sou.meter.length + as.length ≤ 16) (fits : s.sou.used + 2 * as.length ≤ 64) (t : State)
    (ht : t = as.foldl (fun t a => handFrame .meter (meterQueued m a) t) s) :
    t.sou.meter.map (fun f => f.frame) =
        (s.sou.meter.map (fun f => f.frame)).map (fun f => if f.address ∈ as then meterFrameOf m f.address else f) ++
        (as.filter (fun a => a ∉ (s.sou.meter.map (fun f => f.frame)).map (fun f => f.address))).map (meterFrameOf m) ∧
      t.sou.urgent = s.sou.urgent ∧ t.sou.normal = s.sou.normal := by
  induction as generalizing s with
  | nil =>
    subst ht
    simp
  | cons a rest ih =>
    obtain ⟨first, others⟩ := List.nodup_cons.mp nodup
    simp only [List.length_cons] at place fits
    obtain ⟨u, is, lawful, longer, used, urgent, normal, frames⟩ :=
      handFrame_meter (m := m) law (small a List.mem_cons_self) (by omega) (by omega)
    rw [List.foldl_cons, is] at ht
    obtain ⟨meters, urgent', normal'⟩ := ih (s := s.withSou u) lawful (fun b hb => small b (List.mem_cons_of_mem _ hb)) others
      (by simp only [State.withSou_sou]; omega) (by simp only [State.withSou_sou]; omega) ht
    refine ⟨?_, urgent'.trans urgent, normal'.trans normal⟩
    rw [meters]
    simp only [State.withSou_sou, frames]
    have away (f : BusFrame) (b : Nat) (hb : b ∈ rest) : f.address = a → f.address ≠ b := fun is same => first (is ▸ same ▸ hb)
    by_cases there : a ∈ s.sou.meter.map (fun f => f.frame.address)
    · rw [if_pos there]
      have addresses : (s.sou.meter.map (fun f => if f.frame.address = a then meterFrameOf m a else f.frame)).map (fun f => f.address) =
          (s.sou.meter.map (fun f => f.frame)).map (fun f => f.address) := by
        rw [List.map_map, List.map_map]
        refine List.map_congr_left fun f _ => ?_
        by_cases here : f.frame.address = a <;> simp [here, meterFrameOf]
      rw [addresses, List.filter_cons_of_neg (by simpa using there)]
      congr 1
      rw [List.map_map, List.map_map]
      refine List.map_congr_left fun f _ => ?_
      by_cases here : f.frame.address = a
      · simp [here, first, meterFrameOf]
      · simp [here]
    · rw [if_neg there]
      have none_ : (fun f : BusFrame => f.address) <$> s.sou.meter.map (fun f => f.frame) = s.sou.meter.map (fun f => f.frame.address) := by
        simp
      have keep : rest.filter (fun b => b ∉ (s.sou.meter.map (fun f => f.frame) ++ [meterFrameOf m a]).map (fun f => f.address)) =
          rest.filter (fun b => b ∉ (s.sou.meter.map (fun f => f.frame)).map (fun f => f.address)) := by
        refine List.filter_congr fun b hb => ?_
        have differ : b ≠ a := fun same => first (same ▸ hb)
        simp [meterFrameOf, differ]
      have self : (meterFrameOf m a).address = a := rfl
      rw [keep, List.filter_cons_of_pos (by simpa using there), List.map_append, List.append_assoc, List.map_cons]
      congr 1
      · refine List.map_congr_left fun f hf => ?_
        obtain ⟨g, hg, rfl⟩ := List.mem_map.mp hf
        have differ : g.frame.address ≠ a := fun same => there (List.mem_map.mpr ⟨g, hg, same⟩)
        simp [differ]
      · simp [self, first]

/-- R125, R139: the METER frames of a period end are handed over, and the scheduler may pick one at once. -/
theorem metersSent_handed {u : State} (output : OutputSound s) (modules : ModulesSound s) (left : NothingLeft s) (sou : u.sou = s.sou)
    (mtb : u.mtb = s.mtb) (sbc : u.sbc = s.sbc) (phase : u.phase = s.phase) : metersSent s (schedule (handMeterFrames u)) := by
  have reach := reaches_handMeterFrames u
  have picked := schedule_queued (t := handMeterFrames u) left ((reach.frame .phase (by decide)).trans phase) ((reach.frame .sbc (by decide)).trans sbc)
  have rme : (schedule (handMeterFrames u)).rme = u.rme := by
    have queued := reaches_schedule_queued (t := handMeterFrames u) left ((reach.frame .phase (by decide)).trans phase)
      ((reach.frame .sbc (by decide)).trans sbc)
    exact Eq.trans (queued.frame .rme (by decide)) (reach.frame .rme (by decide))
  have frames (q : QueueId) : ((schedule (handMeterFrames u)).sou.queue q).map (fun f => f.frame) =
      ((handMeterFrames u).sou.queue q).map (fun f => f.frame) := by
    obtain stays | ⟨p, f, picks⟩ := picked
    · rw [stays]
    · rw [picks, sendQueued_frames]
  have addresses : u.meterAddresses = (s.mtb.entries.filter (fun e => decide (e.state = .online ∨ e.state = .suspect) &&
      (schedule (handMeterFrames u)).rme.slots.any (fun x => x.point.isSome && (x.display.map Prod.fst) == some e.address))).map
        (fun e => e.address) := by
    rw [State.meterAddresses, mtb, rme]
    congr 1
    refine List.filter_congr fun e _ => ?_
    simp [displaysAt, Bool.decide_or]
    rfl
  obtain ⟨-, ascending, -, entries, -⟩ := modules
  obtain ⟨as, has⟩ : ∃ as, as = u.meterAddresses := ⟨_, rfl⟩
  unfold metersSent
  dsimp only
  rw [← addresses, ← has]
  intro place fits
  have handed : handMeterFrames u = as.foldl (fun t a => handFrame .meter (meterQueued u.rme a) t) u := by
    rw [has]
    rfl
  have sub : as.Sublist (s.mtb.entries.map (fun e => e.address)) := by
    rw [has, addresses]
    exact List.Sublist.map _ List.filter_sublist
  obtain ⟨meters, urgent, normal⟩ := handFrames_meter (s := u) (m := u.rme) (as := as) (sou ▸ queuesLaw_iff.mpr output)
    (fun a ha => by
      obtain ⟨e, he, rfl⟩ := List.mem_map.mp (sub.subset ha)
      exact (entries e he).2.1)
    ((ascending.imp fun h => Nat.ne_of_lt h).sublist sub) (sou ▸ place) (sou ▸ fits) _ handed
  rw [sou] at meters urgent normal
  rw [rme]
  exact ⟨(frames .meter).trans meters, (frames .urgent).trans (congrArg _ urgent), (frames .normal).trans (congrArg _ normal)⟩

end

/-! ## The end of a meter period (R123, R124) -/

theorem periodEnd_eq (holdTime : Nat) (x : MeterSlot) : x.periodEnd holdTime = slotEnded holdTime x := by
  unfold MeterSlot.periodEnd slotEnded
  by_cases unassigned : x.point = none
  · simp [unassigned]
  · rw [if_neg (by simpa using unassigned), if_neg unassigned]
    by_cases higher : x.hold < x.peak
    · simp [higher]
    · simp only [higher, if_false, false_or]
      split <;> rfl

section
variable {m : Rme}

theorem reportEntries_eq (slots : List MeterSlot) : reportEntries slots =
    ((List.range slots.length).filter (fun n => (slots.getD n MeterSlot.powerOn).point.isSome && (slots.getD n MeterSlot.powerOn).subscribed)).map
      (fun n => ⟨n, (slots.getD n MeterSlot.powerOn).code, meterCode (slots.getD n MeterSlot.powerOn).hold, (slots.getD n MeterSlot.powerOn).clip⟩) := by
  rw [reportEntries, numbered_eq_map_range slots MeterSlot.powerOn, List.filterMap_map]
  exact filterMap_ite (fun n => (slots.getD n MeterSlot.powerOn).point.isSome && (slots.getD n MeterSlot.powerOn).subscribed) _ _

theorem slotEnded_fields (holdTime : Nat) (x : MeterSlot) :
    (slotEnded holdTime x).point = x.point ∧ (slotEnded holdTime x).subscribed = x.subscribed := by
  unfold slotEnded
  dsimp only
  split <;> exact ⟨rfl, rfl⟩

/-- R124: the report names the slots that were assigned and subscribed. -/
theorem reportEntries_periodEnd : reportEntries m.periodEnd.slots =
    ((List.range m.slots.length).filter (fun n => (m.slot n).point.isSome && (m.slot n).subscribed)).map
      (fun n => ⟨n, (m.periodEnd.slot n).code, meterCode (m.periodEnd.slot n).hold, (m.periodEnd.slot n).clip⟩) := by
  rw [reportEntries_eq]
  have length : m.periodEnd.slots.length = m.slots.length := List.length_map ..
  rw [length]
  congr 1
  refine List.filter_congr fun n hn => ?_
  have inside : n < m.slots.length := List.mem_range.mp hn
  have slot : m.periodEnd.slots.getD n MeterSlot.powerOn = slotEnded m.holdTime (m.slot n) := by
    simp [Rme.periodEnd, Rme.slot, inside, periodEnd_eq]
  obtain ⟨point, subscribed⟩ := slotEnded_fields m.holdTime (m.slot n)
  rw [slot, point, subscribed]

theorem reportNotices_reports (counter : Stamp) (some_ : reportEntries m.slots ≠ []) :
    m.reportNotices counter = [.meterReport (lowStamp counter) (reportEntries m.slots)] := by
  unfold Rme.reportNotices
  split
  · rename_i none_
    exact absurd none_ some_
  · rfl

end

theorem heard_other {b c : NoticeBody} {s : State} (heard : Heard b s) (apart : c.coalesces b = false) : Heard b (notify c s) := by
  obtain ⟨n, hn, is⟩ := heard
  rw [Heard, notify_eq]
  split
  · exact ⟨n, hn, is⟩
  · exact ⟨n, enqueue_stays hn (is ▸ apart), is⟩

/-- What is heard stays heard through what the Surface Output tells (R182). -/
theorem heard_endFrame {b : NoticeBody} {s : State} (heard : Heard b s) (f : QFrame) (r : FrameResult) : Heard b (endFrame f r s) := by
  have apart (x : HistoryRecord) : (NoticeBody.surfaceDone x).coalesces b = false := by
    rw [Bool.eq_false_iff]
    intro merge
    exact absurd (code_of_coalesces merge).2 (by simp [NoticeBody.code])
  unfold endFrame
  by_cases host : f.origin = .host
  · by_cases asks : f.notify = true <;> simp only [host, asks, if_true]
    · exact heard_other (s := s.withSou _) heard (apart _)
    · exact heard
  · rwa [if_neg host]

theorem heard_endFrames {b : NoticeBody} {s : State} (heard : Heard b s) (r : FrameResult) (fs : List QFrame) : Heard b (endFrames r fs s) := by
  induction fs generalizing s with
  | nil => exact heard
  | cons f rest ih => exact ih (heard_endFrame heard f r)

theorem heard_handFrame {b : NoticeBody} {s : State} (heard : Heard b s) (q : QueueId) (f : QFrame) : Heard b (handFrame q f s) := by
  unfold handFrame
  split
  · exact heard
  · split
    · rename_i after _ _
      exact heard_endFrames (s := s.withSou after) heard _ _
    · exact heard
    · exact heard

end Sys2Proof.Machine

open Sys2Proof.Machine Sys2Proof.Safety in
/-- Settles O41, by the steps of a ramp. -/
theorem rampSteps : Obligations.RampSteps := by
  refine ⟨fun l m ramp sound => ⟨fun within => ?_, fun last => stepRamp_last ramp (Nat.le_of_eq last.symm)⟩,
    fun l ramp => stepRamp_none ramp, fun id b s => ⟨fun m ramp => ⟨fun stays => ?_, fun fades => ?_⟩, fun ramp => ?_, fun m ramp => ?_⟩⟩
  · have short : m.step + 1 ≤ m.length := Nat.le_of_lt within
    exact ⟨_, stepRamp_within ramp within, ramp_value m short, m.value_between short⟩
  · show Host.Outcome.next (finishRoute id.val s) = _
    simp only [finishRoute, ramp, Option.isNone_some, if_neg stays, GainRec.finishRamp]
    rfl
  · show Host.Outcome.next (finishRoute id.val s) = _
    simp only [finishRoute, ramp, Option.isNone_some, if_pos fades]
    rfl
  · show Host.Outcome.next (finishRoute id.val s) = _
    simp only [finishRoute, ramp, Option.isNone_none, if_true]
  · show Host.Outcome.next (s.withRme (s.rme.putBus b.val (s.rme.bus b.val).finishRamp)) = _
    simp only [GainRec.finishRamp, ramp]
    rfl

open Sys2Proof.Machine Sys2Proof.Safety in
/-- Settles O43, by the METER frames of one address after the other and the report that comes before them. -/
theorem meterPeriods : Obligations.MeterPeriods := by
  refine ⟨fun x value marked => ?_, fun s left => ⟨fun zero => ?_, fun counted => ?_⟩⟩
  · have most : max x.peak value.natAbs = if x.peak < value.natAbs then value.natAbs else x.peak := by
      split <;> omega
    rw [MeterSlot.measure, most]
  · exact congrArg Host.Outcome.next (if_pos zero)
  · have told := (reaches_withRme s s.rme.periodEnd).andThen (reaches_notifyAll (s.rme.periodEnd.reportNotices s.cku.counter) _)
      (rs := [.rme, .records])
    obtain ⟨u, hu⟩ : ∃ u, u = notifyAll (s.rme.periodEnd.reportNotices s.cku.counter) (s.withRme s.rme.periodEnd) := ⟨_, rfl⟩
    rw [← hu] at told
    have rme : u.rme = s.rme.periodEnd := by rw [hu, notifyAll_eq]; rfl
    have reach := reaches_handMeterFrames u
    have queued := reaches_schedule_queued (t := handMeterFrames u) left
      (Eq.trans (reach.frame .phase (by decide)) (told.frame .phase (by decide)))
      (Eq.trans (reach.frame .sbc (by decide)) (told.frame .sbc (by decide)))
    have all := (told.andThen reach (rs := [.rme, .records, .sou])).andThen queued (rs := [.rme, .records, .sou, .sbc])
    have rmeEnd : (schedule (handMeterFrames u)).rme = s.rme.periodEnd :=
      (Eq.trans (queued.frame .rme (by decide)) (reach.frame .rme (by decide))).trans rme
    refine ⟨schedule (handMeterFrames u), ?_, keepsBut_of_reaches all (by decide), ?_, fun output modules => ?_, fun room some_ => ?_⟩
    · rw [hu]
      exact congrArg Host.Outcome.next (if_neg counted)
    · rw [rmeEnd, Rme.periodEnd]
      simp only [funext (periodEnd_eq s.rme.holdTime)]
    · exact metersSent_handed output modules left (told.frame .sou (by decide)) (told.frame .mtb (by decide))
        (told.frame .sbc (by decide)) (told.frame .phase (by decide))
    · have entries := reportEntries_periodEnd (m := s.rme)
      have notEmpty : reportEntries s.rme.periodEnd.slots ≠ [] := by
        obtain ⟨x, hx, assigned, subscribed⟩ := some_
        obtain ⟨n, hn, rfl⟩ := List.getElem_of_mem hx
        rw [entries, ne_eq, List.map_eq_nil_iff, List.filter_eq_nil_iff]
        intro none_
        refine none_ n (List.mem_range.mpr hn) ?_
        simp [Rme.slot, hn, Option.isSome_iff_ne_none, assigned, subscribed]
      have first : Heard (.meterReport (lowStamp s.cku.counter) (reportEntries s.rme.periodEnd.slots)) u := by
        rw [hu, reportNotices_reports _ notEmpty]
        exact heard_notify room
      have handed : Heard (.meterReport (lowStamp s.cku.counter) (reportEntries s.rme.periodEnd.slots)) (handMeterFrames u) :=
        foldl_keeps (P := Heard _) (fun t a _ heard => heard_handFrame heard _ _) first
      have records : (schedule (handMeterFrames u)).msu.notices = (handMeterFrames u).msu.notices :=
        (queued.frame .records (by decide)).1
      rw [Heard, records, rmeEnd, ← entries]
      exact handed

end

section
/-! PROOFS. The studio frame (O42). -/

namespace Sys2Proof.Machine

open Safety

/-! ## A port at a studio frame (R86, R87, R88) -/

section
variable {p : Port} {i : Nat} {counter : Stamp}

theorem readFrame_retimes (retimes : p.retimes = true) : (p.readFrame i counter).1 = { p with
    inBuf := p.inBuf.drop 1, lastIn := p.inBuf.head?.getD p.lastIn
    underSlips := if p.inBuf = [] then min 65535 (p.underSlips + 1) else p.underSlips } := by
  unfold Port.readFrame
  rw [if_pos retimes]
  cases p.inBuf <;> simp [saturate16]

theorem readFrame_still (still : p.retimes = false) : (p.readFrame i counter).1 = p := by
  unfold Port.readFrame
  rw [if_neg (by simp [still])]

/-- R88: what the route engine reads. -/
theorem readFrame_read : (p.readFrame i counter).2 = portRead p i counter := by
  unfold Port.readFrame portRead Port.handedFrame
  by_cases running : p.state = .running
  · by_cases follow : p.mode = .follow
    · rw [if_pos (show p.retimes = true by simp [Port.retimes, follow, running]), if_neg (not_not.mpr running), if_pos follow]
      cases p.inBuf <;> simp [running]
    · rw [if_neg (show ¬ p.retimes = true by simp [Port.retimes, follow]), if_neg (not_not.mpr running), if_neg follow]
      simp [running]
  · rw [if_pos running]
    split
    · split <;> simp
    · simp

/-- R74: what a port writes of the route engine's values. -/
def Port.written (p : Port) (values : Frame) : Frame := if p.state = .running then p.frameOfValues values else p.zero

theorem writeFrame_retimes (retimes : p.retimes = true) (values : Frame) : p.writeFrame values = { p with
    outBuf := (p.outBuf ++ [p.written values]).drop (if 8 ≤ p.outBuf.length then 1 else 0)
    overSlips := if 8 ≤ p.outBuf.length then min 65535 (p.overSlips + 1) else p.overSlips } := by
  have follow : p.mode = .follow := by
    simp only [Port.retimes, Bool.and_eq_true, beq_iff_eq] at retimes
    exact retimes.1
  unfold Port.writeFrame
  simp only [follow, if_pos retimes]
  unfold retimePush Port.addOver
  by_cases full : 8 ≤ p.outBuf.length
  · simp only [if_pos full, if_true]
    rw [List.drop_append_of_le_length (by omega)]
    rfl
  · simp only [if_neg full, Bool.false_eq_true, if_false, List.drop_zero]
    rfl

theorem writeFrame_follow_still (follow : p.mode = .follow) (still : p.retimes = false) (values : Frame) : p.writeFrame values = p := by
  unfold Port.writeFrame
  simp only [follow, still, Bool.false_eq_true, if_false]

/-- R75, R88: a DRIVE link first begins the frame written at the studio frame before. -/
theorem writeFrame_drive (drive : p.mode = .drive) (on : p.state ≠ .off) (free : p.state ≠ .conflict) (values : Frame) :
    p.writeFrame values = { p with
      line := some (if p.state = .running ∧ p.mute = false then (p.frameOfValues p.driveOut).map slotOfSample else List.replicate p.slots 0)
      driveOut := p.written values } := by
  unfold Port.writeFrame Port.written
  cases state : p.state <;> simp [drive, state, zero_slots, sentSlots_eq] at *
  cases p.mute <;> rfl

theorem writeFrame_off (drive : p.mode = .drive) (stopped : p.state = .off ∨ p.state = .conflict) (values : Frame) :
    p.writeFrame values = { p with line := none } := by
  unfold Port.writeFrame
  obtain state | state := stopped <;> simp only [drive, state]

/-- R78: the settle count counts down, and its end is RUNNING. -/
theorem settleFrame_counts (counts : 0 < p.settle ↔ p.state = .settling) : p.settleFrame.1 = { p with
    state := if p.state = .settling ∧ p.settle = 1 then .running else p.state
    settle := p.settle - 1
    driveIn := if p.state = .settling ∧ p.settle = 1 then none else p.driveIn } := by
  unfold Port.settleFrame
  by_cases settling : p.state = .settling
  · have some_ := counts.mpr settling
    by_cases last : p.settle = 1
    · rw [if_pos settling, if_pos (Nat.le_of_eq last), Port.settleEnd, if_pos settling, if_pos ⟨settling, last⟩, if_pos ⟨settling, last⟩, last]
      rfl
    · rw [if_pos settling, if_neg (by omega), if_neg fun h => last h.2, if_neg fun h => last h.2]
  · have zero : p.settle = 0 := Nat.eq_zero_of_not_pos (mt counts.mp settling)
    rw [if_neg settling, if_neg fun h => settling h.1, if_neg fun h => settling h.1, show p.settle - 1 = p.settle by omega]

theorem frameOfValues_poutFrame (small : p.slots ≤ 16) (m : Rme) (v : FrameValues) : p.frameOfValues (m.poutFrame v i) =
    (List.range p.slots).map (fun k => saturateSample (m.directSum v (.pout i k))) := by
  unfold Port.frameOfValues Rme.poutFrame
  refine List.map_congr_left fun k hk => ?_
  have inside : k < 16 := Nat.lt_of_lt_of_le (List.mem_range.mp hk) small
  simp [inside]

/-- R74, R75, R78, R84, R86, R87, R88: the whole of it. -/
theorem port_studioFrame (counts : 0 < p.settle ↔ p.state = .settling) (values : Frame) {written : Frame}
    (hw : p.frameOfValues values = written) : (((p.readFrame i counter).1.writeFrame values).settleFrame).1 = portAfterFrame p written := by
  subst hw
  cases mode : p.mode with
  | follow =>
    cases retimes : p.retimes with
    | true =>
      rw [readFrame_retimes retimes, writeFrame_retimes (by exact retimes), settleFrame_counts (by exact counts)]
      unfold Port.retimes at retimes
      unfold portAfterFrame
      cases state : p.state <;> simp [mode, state, Port.written, Port.frameOfValues, Port.zero] at retimes ⊢
    | false =>
      rw [readFrame_still retimes, writeFrame_follow_still mode retimes, settleFrame_counts counts]
      unfold Port.retimes at retimes
      unfold portAfterFrame
      cases state : p.state <;> simp [mode, state] at retimes ⊢
  | drive =>
    have still : p.retimes = false := by simp [Port.retimes, mode]
    rw [readFrame_still still]
    by_cases stopped : p.state = .off ∨ p.state = .conflict
    · rw [writeFrame_off mode stopped, settleFrame_counts (by exact counts)]
      unfold portAfterFrame
      obtain state | state := stopped <;> simp [mode, state]
    · obtain ⟨on, free⟩ := not_or.mp stopped
      rw [writeFrame_drive mode on free, settleFrame_counts (by exact counts)]
      unfold portAfterFrame
      cases state : p.state <;> simp [mode, state, Port.written, Port.frameOfValues, Port.zero] at on free ⊢
      cases p.mute <;> simp

end

/-! ## The capture stream at a studio frame (R60) -/

theorem frame_captureAfterFrame {rate : Rate} {c : Capture} {counter before : Stamp} (sound : CaptureSound rate before c) (m : Rme) (v : FrameValues) :
    (c.frame counter (m.recFrame v)).1 = captureAfterFrame c counter
      ((List.range c.effective).map (fun k => saturateSample (m.directSum v (.recCh k)))) := by
  obtain ⟨-, -, depth, -, -, most, effective, -⟩ := sound
  have values : (m.recFrame v).take c.effective = (List.range c.effective).map (fun k => saturateSample (m.directSum v (.recCh k))) := by
    rw [Rme.recFrame, ← List.map_take, List.take_range, Nat.min_eq_left (by omega)]
  unfold Capture.frame captureAfterFrame
  rw [values]
  by_cases running : c.state = .running
  · rw [if_neg (not_not.mpr running), if_pos running]
    by_cases full : c.depth ≤ c.buffer.length
    · have some_ : 1 ≤ c.buffer.length := by
        refine Nat.le_trans ?_ full
        simp only [List.mem_cons, List.not_mem_nil, or_false] at depth
        omega
      simp only [full, decide_true, if_true, Bool.or_true, List.drop_append_of_le_length some_]
      rfl
    · simp only [full, decide_false, Bool.false_eq_true, if_false, Bool.or_false, List.drop_zero]
  · rw [if_pos running, if_neg running]

/-! ## The buses in order (R113, R116) -/

/-- R94: a route from a bus leads only to a later one. -/
def Ordered (routes : List Route) : Prop :=
  ∀ r ∈ routes, ∀ b c, r.state ≠ .free → r.dest = .busIn b → r.source = .bus c → c < b

theorem ordered_of_sound {m : Rme} (sound : RoutesSound m) : Ordered m.routes := by
  obtain ⟨-, -, -, each, -⟩ := sound
  intro r hr b c used dest source
  obtain ⟨-, inUse, -⟩ := each r hr
  obtain ⟨-, -, order, -⟩ := inUse used
  rw [source, dest, badOrder] at order
  simpa using order

/-- The sum into a bus depends on the buses before it alone. -/
theorem sumInto_congr {routes : List Route} (ordered : Ordered routes) (i : Inputs) {outs more : List Int} {b : Nat}
    (same : ∀ c < b, outs.getD c 0 = more.getD c 0) : sumInto routes i outs (.busIn b) = sumInto routes i more (.busIn b) := by
  unfold sumInto
  refine List.foldl_ext _ _ _ fun acc r hr => ?_
  simp only [List.mem_filter, Bool.and_eq_true, bne_iff_ne, beq_iff_eq] at hr
  obtain ⟨mem, used, dest⟩ := hr
  have value : i.value outs r.source = i.value more r.source := by
    cases source : r.source with
    | bus c => exact same c (ordered r mem b c used dest source)
    | _ => rfl
  rw [value]

/-- Each bus so far has its sum, its value and its output of those outputs. -/
structure Evaluated (m : Rme) (i : Inputs) (k : Nat) (v : FrameValues) : Prop where
  inputs : v.inputs = i
  ins : v.busIns.length = k
  raws : v.busRaw.length = k
  outs : v.busOuts.length = k
  bus : ∀ b < k, v.busIns.getD b 0 = sumInto m.routes i v.busOuts (.busIn b) ∧
    v.busRaw.getD b 0 = scaled (v.busIns.getD b 0 * (m.bus b).coeff) ∧ v.busOuts.getD b 0 = saturateSample (v.busRaw.getD b 0)

theorem evaluated_evalBus {m : Rme} {i : Inputs} {k : Nat} {v : FrameValues} (ordered : Ordered m.routes) (h : Evaluated m i k v) :
    Evaluated m i (k + 1) (evalBus m v k) := by
  have sums {b : Nat} (hb : b ≤ k) (x : Int) : sumInto m.routes i v.busOuts (.busIn b) = sumInto m.routes i (v.busOuts ++ [x]) (.busIn b) :=
    sumInto_congr ordered i fun c hc => (List.getD_append _ _ _ _ (by rw [h.outs]; omega)).symm
  have last (xs : List Int) (length : xs.length = k) (x : Int) : (xs ++ [x]).getD k 0 = x := by simp [← length]
  refine ⟨h.inputs, by simp [evalBus, h.ins], by simp [evalBus, h.raws], by simp [evalBus, h.outs], fun b hb => ?_⟩
  unfold evalBus
  dsimp only
  by_cases here : b = k
  · subst here
    rw [last _ h.ins, last _ h.raws, last _ h.outs, ← sums (Nat.le_refl b), h.inputs]
    exact ⟨rfl, rfl, rfl⟩
  · have before : b < k := by omega
    rw [List.getD_append _ _ _ _ (by rw [h.ins]; exact before), List.getD_append _ _ _ _ (by rw [h.raws]; exact before),
      List.getD_append _ _ _ _ (by rw [h.outs]; exact before), ← sums (Nat.le_of_lt before)]
    exact h.bus b before

theorem evaluated_evaluate {m : Rme} (ordered : Ordered m.routes) (i : Inputs) : Evaluated m i 8 (m.evaluate i) := by
  have all (k : Nat) : Evaluated m i k ((List.range k).foldl (evalBus m) ⟨i, [], [], []⟩) := by
    induction k with
    | zero => exact ⟨rfl, rfl, rfl, rfl, nofun⟩
    | succ k ih =>
      rw [List.range_succ, List.foldl_append]
      exact evaluated_evalBus ordered ih
  exact all 8

theorem scaled_eq (v : Int) : scaled v = (v + 2 ^ 19) / 2 ^ 20 := by norm_num [scaled]

/-- R121: the value and the mark of a point. -/
theorem measured_watched {m : Rme} {i : Inputs} {v : FrameValues} (h : Evaluated m i 8 v) {p : Point}
    (inside : ∀ b, p = .bus b ∨ p = .busIn b → b < 8) : m.measured v p = watched m i v.busOuts p := by
  have outside (x : Int) : outsideSample x = decide (x < -8388608 ∨ 8388607 < x) := by simp [outsideSample, Bool.decide_or]
  cases p with
  | play c => simp only [Rme.measured, watched, Inputs.value, h.inputs]
  | pin p k => simp only [Rme.measured, watched, Inputs.value, h.inputs]
  | bus b =>
    obtain ⟨ins, raw, out⟩ := h.bus b (inside b (.inl rfl))
    simp only [Rme.measured, watched, out, raw, ins, outside, scaled_eq]
    rfl
  | busIn b =>
    obtain ⟨ins, -, -⟩ := h.bus b (inside b (.inr rfl))
    simp only [Rme.measured, watched, ins, outside]
    rfl
  | recCh c =>
    simp only [Rme.measured, watched, outside, Rme.directSum, h.inputs]
    rfl
  | pout p k =>
    simp only [Rme.measured, watched, outside, Rme.directSum, h.inputs]
    rfl

theorem measureSlots_eq {m : Rme} {i : Inputs} {v : FrameValues} (h : Evaluated m i 8 v)
    (inside : ∀ x ∈ m.slots, ∀ b, x.point = some (.bus b) ∨ x.point = some (.busIn b) → b < 8) :
    m.measureSlots v = slotsMeasured m i v.busOuts := by
  refine List.map_congr_left fun x hx => ?_
  cases point : x.point with
  | none => rfl
  | some p =>
    dsimp only
    rw [measured_watched h fun b is => inside x hx b (by rw [point]; exact is.imp (congrArg some) (congrArg some))]

/-! ## The whole frame (R113) -/

/-- What a studio frame may change before the METER frames of a period's end. -/
abbrev frameParts : List Part := [.cku, .stu, .ptu, .rme, .records, .fresh]

/-- The engine after a studio frame, but for the overload lines. -/
def engineAfter (s : State) : Rme :=
  if 1023 ≤ s.rme.frameCount then (s.rme.afterFrame (frameValues s)).periodEnd else s.rme.afterFrame (frameValues s)

theorem engineAfter_records (s : State) : (engineAfter s).routes = s.rme.routes.map Route.stepped ∧
    (engineAfter s).buses = s.rme.buses.map (fun b => b.stepRamp.1) ∧ (engineAfter s).holdTime = s.rme.holdTime ∧
    (engineAfter s).rampLength = s.rme.rampLength ∧
    (engineAfter s).frameCount = if 1023 ≤ s.rme.frameCount then 0 else s.rme.frameCount + 1 := by
  rw [engineAfter]
  by_cases last : 1023 ≤ s.rme.frameCount
  · rw [if_pos last, if_pos last]
    exact ⟨rfl, rfl, rfl, rfl, rfl⟩
  · rw [if_neg last, if_neg last]
    exact ⟨rfl, rfl, rfl, rfl, rfl⟩

/-- R121, R123: the slots are measured before the period that ends reads them. -/
theorem engineAfter_slots (s : State) : (engineAfter s).slots =
    (s.rme.measureSlots (frameValues s)).map (fun x => if 1023 ≤ s.rme.frameCount then slotEnded s.rme.holdTime x else x) := by
  rw [engineAfter]
  by_cases last : 1023 ≤ s.rme.frameCount
  · simp only [if_pos last, Rme.periodEnd, funext (periodEnd_eq _)]
    rfl
  · simp only [if_neg last, List.map_id']
    rfl

/-- The state before the METER frames. -/
def framed (s : State) : State :=
  let counter := s.cku.counter + 1
  let ports := portsBy (fun _ p => p.settleFrame) ((numbered 0 ((portReads counter s.ptu).map Prod.fst)).map
    (fun (i, p) => p.writeFrame (s.rme.poutFrame (frameValues s) i)))
  notifyMerged [] ((s.stu.playback.draw counter).2.2 ++ (s.stu.capture.frame counter (s.rme.recFrame (frameValues s))).2) ports.2
    (s.rme.stepRamps.2 ++ if 1023 ≤ s.rme.frameCount then (engineAfter s).reportNotices counter else [])
    (withPorts ports.1 (((s.withCku { s.cku with counter := counter }).withStu
      { s.stu with playback := (s.stu.playback.draw counter).1
                   capture := (s.stu.capture.frame counter (s.rme.recFrame (frameValues s))).1 }).withRme (engineAfter s)))

/-- R113, R125: the METER frames come last. -/
theorem studioFrame_ends (s : State) : Machine.studioFrame s = if 1023 ≤ s.rme.frameCount then handMeterFrames (framed s) else framed s := by
  have ends (v : FrameValues) : 1024 ≤ (s.rme.afterFrame v).frameCount ↔ 1023 ≤ s.rme.frameCount := Nat.succ_le_succ_iff
  unfold Machine.studioFrame framed engineAfter
  simp only [ends, decide_eq_true_eq]
  rfl

/-- The rest reaches neither the bus nor the queues. -/
theorem reaches_framed (s : State) : Reaches frameParts s (framed s) :=
  ((((reaches_withCku s _).andThen (reaches_withStu _ _) (rs := [.cku, .stu])).andThen (reaches_withRme _ _)
    (rs := [.cku, .stu, .rme])).andThen (reaches_withPorts _ _) (rs := [.cku, .stu, .rme, .ptu])).andThen
    (reaches_notifyMerged ..)

theorem framed_rme (s : State) : (framed s).rme = { engineAfter s with overload := (framed s).ptu.map Port.handsOverload } := by
  unfold framed
  rw [notifyMerged_eq]
  rfl

/-- R139: with nothing left the scheduler does nothing. -/
theorem schedule_nothing {s : State} (left : NothingLeft s) : schedule s = s := by
  obtain ⟨-, stays⟩ | ⟨-, -, stays⟩ | ⟨o, picks, offers, -⟩ := schedule_cases s
  · exact stays
  · exact stays
  · rw [left picks] at offers
    cases offers

theorem stepped_eq (r : Route) : r.stepped = if r.state = .releasing ∧ r.level.stepRamp.2 = true then Route.freeEntry
    else { r with level := r.level.stepRamp.1 } := rfl

/-- R78, R87, R88: the ports after a studio frame. -/
theorem studioFrame_ports {s : State} (ports : PortsSound s) : (Machine.studioFrame s).ptu = (List.range 4).map (fun p => portAfterFrame (s.port p)
    ((List.range (s.port p).slots).map (fun k => saturateSample (s.rme.directSum (frameValues s) (.pout p k))))) := by
  obtain ⟨four, sound, -⟩ := ports
  rw [studioFrame_ptu]
  refine List.ext_getElem? fun p => ?_
  have written (ps : List Port) : ((numbered 0 ps).map (fun (i, p) => p.writeFrame (s.rme.poutFrame (frameValues s) i)))[p]? =
      ps[p]?.map (fun q => q.writeFrame (s.rme.poutFrame (frameValues s) p)) :=
    map_numbered_getElem? (fun i p => p.writeFrame (s.rme.poutFrame (frameValues s) i)) ps p
  have read : ((portReads (s.cku.counter + 1) s.ptu).map Prod.fst)[p]? =
      s.ptu[p]?.map (fun q => (q.readFrame p (s.cku.counter + 1)).1) := by
    rw [portReads, List.map_map]
    exact map_numbered_getElem? (fun i p => (p.readFrame i (s.cku.counter + 1)).1) s.ptu p
  rw [portsBy_getElem?, written, read, List.getElem?_map]
  by_cases inside : p < 4
  · have there : s.ptu[p]? = some (s.port p) := by
      rw [State.port, List.getD_eq_getElem?_getD, List.getElem?_eq_getElem (by omega)]
      rfl
    obtain ⟨slots, -, -, -, -, -, counts, -⟩ := sound p inside
    have small : (s.port p).slots ≤ 16 := by
      simp only [List.mem_cons, List.not_mem_nil, or_false] at slots
      omega
    rw [there, List.getElem?_range inside]
    exact congrArg some (port_studioFrame counts _ (frameOfValues_poutFrame small s.rme _))
  · rw [List.getElem?_eq_none (by omega), List.getElem?_eq_none (by simpa using inside)]
    rfl

theorem frameValues_ports {s : State} (four : s.ptu.length = 4) : (portReads (s.cku.counter + 1) s.ptu).map Prod.snd =
    (List.range 4).map (fun p => portRead (s.port p) p (s.cku.counter + 1)) := by
  rw [portReads, numbered_eq_map_range s.ptu (Port.powerOn false), four, List.map_map, List.map_map]
  exact List.map_congr_left fun p _ => readFrame_read

end Sys2Proof.Machine

open Sys2Proof.Machine Sys2Proof.Safety in
/-- Settles O42, from what each part of the frame leaves. -/
theorem studioFrame : Obligations.StudioFrame := by
  intro s sound left held counter last
  have evaluated := evaluated_evaluate (ordered_of_sound sound.routes)
    ⟨(s.stu.playback.draw counter).2.1.getD [], (portReads counter s.ptu).map Prod.snd⟩
  change Evaluated s.rme _ 8 (frameValues s) at evaluated
  have ends := studioFrame_ends s
  have reach := reaches_framed s
  have rme := framed_rme s
  generalize framed s = u at ends reach rme
  have handed : Reaches (frameParts ++ if last then [.sbc, .sou] else []) s (schedule (Sys2Proof.Machine.studioFrame s)) ∧
      Reaches [.records, .sbc, .sou] u (schedule (Sys2Proof.Machine.studioFrame s)) ∧ (last → metersSent s (schedule (Sys2Proof.Machine.studioFrame s))) := by
    by_cases h : last
    · have more := reaches_handMeterFrames u
      have queued := reaches_schedule_queued (t := handMeterFrames u) left
        (Eq.trans (more.frame .phase (by decide)) (reach.frame .phase (by decide)))
        (Eq.trans (more.frame .sbc (by decide)) (reach.frame .sbc (by decide)))
      rw [ends, if_pos h, if_pos h]
      exact ⟨(reach.andThen more (rs := frameParts ++ [.sou])).andThen queued, more.andThen queued,
        fun _ => metersSent_handed sound.output sound.modules left (reach.frame .sou (by decide)) (reach.frame .mtb (by decide))
          (reach.frame .sbc (by decide)) (reach.frame .phase (by decide))⟩
    · have still : schedule u = u := schedule_nothing ((SameOffer.of_keeps (keepsBut_of_reaches reach fun _ => id)).nothingLeft left)
      rw [ends, if_neg h, if_neg h, still, List.append_nil]
      exact ⟨reach, .refl u, fun hl => absurd hl h⟩
  obtain ⟨all, tail, sent⟩ := handed
  have settled := reaches_schedule (Sys2Proof.Machine.studioFrame s)
  have cku : (schedule (Sys2Proof.Machine.studioFrame s)).cku = (Sys2Proof.Machine.studioFrame s).cku := settled.frame .cku (by decide)
  have stu : (schedule (Sys2Proof.Machine.studioFrame s)).stu = (Sys2Proof.Machine.studioFrame s).stu := settled.frame .stu (by decide)
  have ptu : (schedule (Sys2Proof.Machine.studioFrame s)).ptu = (Sys2Proof.Machine.studioFrame s).ptu := settled.frame .ptu (by decide)
  have uptu : (schedule (Sys2Proof.Machine.studioFrame s)).ptu = u.ptu := tail.frame .ptu (by decide)
  have urme : (schedule (Sys2Proof.Machine.studioFrame s)).rme = u.rme := tail.frame .rme (by decide)
  rw [rme, ← uptu] at urme
  have stu' := stu.trans (studioFrame_stu s)
  have ports := ptu.trans (studioFrame_ports sound.ports)
  have capture := frame_captureAfterFrame (counter := counter) (streamsSound_iff.mp sound.streams).1.capture s.rme (frameValues s)
  have inputs := frameValues_ports sound.ports.1
  have slots : (∀ x ∈ s.rme.slots, ∀ b, x.point = some (.bus b) ∨ x.point = some (.busIn b) → b < 8) →
      (engineAfter s).slots = (slotsMeasured s.rme (frameValues s).inputs (frameValues s).busOuts).map (fun x =>
        if last then slotEnded s.rme.holdTime x else x) := fun inside => by
    have measured := measureSlots_eq evaluated inside
    rw [evaluated.inputs, ← measured]
    exact engineAfter_slots s
  obtain ⟨routes, buses, holdTime, rampLength, frameCount⟩ := engineAfter_records s
  refine ⟨_, (frameValues s).inputs, (frameValues s).busOuts, rfl, keepsBut_of_reaches all fun _ => id, cku.trans (studioFrame_cku s),
    congrArg Stu.playback stu', congrArg Inputs.play evaluated.inputs, (congrArg Inputs.ports evaluated.inputs).trans inputs,
    evaluated.outs, fun b hb => ?_, (congrArg Stu.capture stu').trans capture, (congrArg Stu.ring stu').trans rfl, (congrArg Stu.lastReport stu').trans rfl,
    ports, congrArg Rme.overload urme, (congrArg Rme.routes urme).trans routes, (congrArg Rme.buses urme).trans buses,
    (congrArg Rme.holdTime urme).trans holdTime, (congrArg Rme.rampLength urme).trans rampLength,
    fun inside => (congrArg Rme.slots urme).trans (slots inside), (congrArg Rme.frameCount urme).trans frameCount, sent⟩
  obtain ⟨ins, raw, out⟩ := evaluated.bus b hb
  rw [out, raw, ins, scaled_eq, evaluated.inputs]
  rfl

end

section
/-! PROOFS. Removal, the scheduler's pick, and the settings, rounds and searches of the surface bus (O46, O47, O48). -/

namespace Sys2Proof.Machine

open Safety

/-! ## Notices that stay -/

/-- What has been told stays told, but for the notices that another may replace (R11). -/
structure Stays (s t : State) : Prop where
  heard : ∀ b : NoticeBody, b.Alone → Heard b s → Heard b t

section
variable {s t u : State}

theorem Stays.refl (s : State) : Stays s s := ⟨fun _ _ => id⟩

theorem Stays.trans (h : Stays s t) (h' : Stays t u) : Stays s u := ⟨fun b alone heard => h'.heard b alone (h.heard b alone heard)⟩

theorem stays_of_reaches {ps : List Part} (r : Reaches ps s t) (records : Part.records ∉ ps := by decide) : Stays s t := by
  refine ⟨fun b _ heard => ?_⟩
  have same : t.msu.notices = s.msu.notices := (r.frame .records records).1
  rwa [Heard, same]

theorem stays_notify (b : NoticeBody) (s : State) : Stays s (notify b s) :=
  ⟨fun _ alone heard => heard_other heard (alone.not_coalesces b).1⟩

theorem stays_notifyAll (bs : List NoticeBody) (s : State) : Stays s (notifyAll bs s) := ⟨fun _ alone heard => heard_stays heard alone bs⟩

theorem stays_endFrames (r : FrameResult) (fs : List QFrame) (s : State) : Stays s (endFrames r fs s) :=
  ⟨fun _ _ heard => heard_endFrames heard r fs⟩

theorem stays_handFrame (q : QueueId) (f : QFrame) (s : State) : Stays s (handFrame q f s) := ⟨fun _ _ heard => heard_handFrame heard q f⟩

theorem stays_purge (a : Nat) (s : State) : Stays s (purge a s) :=
  (stays_of_reaches (reaches_withSou s _)).trans (stays_endFrames ..)

end

/-! ## A module removed (R153) -/

section
variable {s : State} (a : Nat) (d : ModuleDetail)

/-- R153: the entry leaves, whether or not it was there. -/
theorem removeModule_mtb : (removeModule a d s).mtb = { s.mtb with entries := s.mtb.entries.filter (fun e => e.address != a) } := by
  cases he : s.mtb.entry a with
  | none =>
    have all : s.mtb.entries.filter (fun e => e.address != a) = s.mtb.entries :=
      List.filter_eq_self.mpr fun e mem => bne_iff_ne.mpr (entry_none.mp he e mem)
    rw [removeModule_of_none d he, all]
  | some e =>
    have listed : (unlist a e d s).mtb = { s.mtb with entries := s.mtb.entries.filter (fun e => e.address != a) } := by
      simp only [unlist, notify_eq]
      rfl
    have gone := (reaches_purge a (unlist a e d s)).andThen (reaches_orphanModule a _) (rs := [.records, .sou, .rme, .bdt])
    have same : (orphanModule a (purge a (unlist a e d s))).mtb = (unlist a e d s).mtb := gone.frame .mtb (by decide)
    rw [removeModule_of_some d he, ← listed, ← same]
    split
    · rfl
    · exact (reaches_handFrame ..).frame .mtb (by decide)

/-- R153 step 3: of the bus only the round list differs. -/
theorem removeModule_sbc : (removeModule a d s).sbc = { s.sbc with roundList := (removeModule a d s).sbc.roundList } := by
  cases he : s.mtb.entry a with
  | none => rw [removeModule_of_none d he]
  | some e =>
    have listed : (unlist a e d s).sbc = { s.sbc with roundList := s.sbc.roundList.filter (fun b => b != a) } := by
      simp only [unlist, notify_eq]
      rfl
    have gone := (reaches_purge a (unlist a e d s)).andThen (reaches_orphanModule a _) (rs := [.records, .sou, .rme, .bdt])
    have same : (orphanModule a (purge a (unlist a e d s))).sbc = (unlist a e d s).sbc := gone.frame .sbc (by decide)
    have whole : (removeModule a d s).sbc = (unlist a e d s).sbc := by
      rw [removeModule_of_some d he, ← same]
      split
      · rfl
      · exact (reaches_handFrame ..).frame .sbc (by decide)
    rw [whole, listed]

theorem stays_removeModule (s : State) : Stays s (removeModule a d s) := by
  cases he : s.mtb.entry a with
  | none =>
    rw [removeModule_of_none d he]
    exact .refl s
  | some e =>
    have listed : Stays s (unlist a e d s) :=
      ((stays_of_reaches (reaches_withMtb s _)).trans (stays_notify _ _)).trans (stays_of_reaches (reaches_withSbc _ _))
    have gone := (listed.trans (stays_purge a _)).trans (stays_of_reaches (reaches_orphanModule a _))
    rw [removeModule_of_some d he]
    split
    · exact gone
    · exact gone.trans (stays_handFrame ..)

/-- R154: several entries leave. -/
theorem removeModules_mtb (as : List Nat) (s : State) : (removeModules d as s).mtb =
    { s.mtb with entries := s.mtb.entries.filter (fun e => !as.contains e.address) } := by
  induction as generalizing s with
  | nil =>
    have all : s.mtb.entries.filter (fun e => !([] : List Nat).contains e.address) = s.mtb.entries := List.filter_eq_self.mpr fun _ _ => rfl
    rw [all]
    rfl
  | cons b rest ih =>
    rw [removeModules, ih, removeModule_mtb]
    simp only [List.filter_filter]
    congr 2
    funext e
    by_cases here : e.address = b <;> simp [here, Bool.and_comm]

theorem removeModules_sbc (as : List Nat) (s : State) : (removeModules d as s).sbc =
    { s.sbc with roundList := (removeModules d as s).sbc.roundList } := by
  induction as generalizing s with
  | nil => rfl
  | cons b rest ih =>
    have first := removeModule_sbc (s := s) b d
    have others := ih (removeModule b d s)
    rw [removeModules, others, first]

end

/-! ## The assign step (R158) -/

section
variable {s : State} {a : Answer}

/-- What an assign step leaves: of the bus all but the round list and the search, every entry but JOINING ones, what was told;
and the step that it takes. -/
structure Assigned (s t : State) : Prop where
  bus : SameBus s.sbc t.sbc
  entries : ∀ e ∈ t.mtb.entries, e.state ≠ .joining → e ∈ s.mtb.entries
  told : Stays s t
  step : t.sbc.search.answer = none ∧ t.sbc.search.step.isSome = true

theorem assigned_refuse (a : Answer) (s : State) : Assigned s (refuseModule a s).1 := by
  simp only [refuseModule]
  have after := reaches_notify (refusedNotice a.serial .tableFull) (holdStep (.refuse a.serial) s)
  have sbc : (notify (refusedNotice a.serial .tableFull) (holdStep (.refuse a.serial) s)).sbc = (holdStep (.refuse a.serial) s).sbc :=
    after.frame .sbc (by decide)
  have mtb : (notify (refusedNotice a.serial .tableFull) (holdStep (.refuse a.serial) s)).mtb = s.mtb := after.frame .mtb (by decide)
  refine ⟨by rw [sbc]; rfl, fun e he _ => mtb ▸ he, (stays_of_reaches (reaches_withSbc s _)).trans (stays_notify _ _), ?_⟩
  rw [sbc]
  exact ⟨rfl, rfl⟩

theorem assigned_rejoin (a : Answer) (e : Entry) (s : State) : Assigned s (rejoin a e s).1 := by
  have only {x : Entry} {f : Entry} (joins : f.state = .joining) (hx : x ∈ insertEntry f s.mtb.entries) (state : x.state ≠ .joining) :
      x ∈ s.mtb.entries := by
    obtain rfl | there := mem_insertEntry hx
    · exact absurd joins state
    · exact there
  simp only [rejoin]
  split
  · exact ⟨rfl, fun x hx state => only rfl hx state, stays_of_reaches ((reaches_putEntry _ s).andThen (reaches_withSbc _ _) (rs := [.mtb, .sbc])), rfl, rfl⟩
  · exact ⟨rfl, fun x hx state => only rfl hx state,
      stays_of_reaches (((reaches_putEntry _ s).andThen (reaches_withRme _ _) (rs := [.mtb, .rme])).andThen (reaches_withSbc _ _) (rs := [.mtb, .rme, .sbc])), rfl, rfl⟩

theorem assigned_joinNew (a : Answer) (s : State) : Assigned s (joinNew a s).1 := by
  unfold joinNew
  split
  · exact assigned_refuse a s
  · refine ⟨rfl, fun x hx state => ?_, ⟨fun _ _ heard => heard⟩, rfl, rfl⟩
    obtain rfl | there := mem_insertEntry hx
    · exact absurd rfl state
    · exact there

/-- R158: whichever of the four cases it is. -/
theorem assigned_assignStep (a : Answer) (s : State) : Assigned s (assignStep a s).1 := by
  unfold assignStep
  split
  · exact assigned_rejoin ..
  · split
    · exact assigned_joinNew ..
    · split
      · rename_i e _
        obtain ⟨bus, entries, told, step⟩ := assigned_joinNew a (removeModule e.address .evicted s)
        refine ⟨(sameBus_removeModule ..).trans bus, fun x hx state => ?_, (stays_removeModule ..).trans told, step⟩
        have there := entries x hx state
        rw [removeModule_mtb] at there
        exact List.mem_of_mem_filter there
      · exact assigned_refuse ..

end

/-! ## The scheduler (R139) -/

section
variable {s t : State}

theorem schedule_stays (idle : s.mayPick = false) : schedule s = s := by
  rw [schedule, if_neg (by simp [idle])]

theorem mayPick_busy (busy : s.sbc.free = false ∨ s.sbc.txn ≠ none) : s.mayPick = false := by
  rw [State.mayPick, Bool.and_eq_false_iff, Bool.and_eq_false_iff]
  obtain h | h := busy
  · exact .inl (.inr h)
  · exact .inr (Bool.eq_false_iff.mpr fun none_ => h (Option.isNone_iff_eq_none.mp none_))

theorem schedule_takes {o : Offer} (picks : s.mayPick = true) (offers : s.offer = some o) : schedule s = takeOffer o s := by
  simp only [schedule, if_pos picks, offers]

theorem schedule_unoffered (none_ : s.offer = none) : schedule s = s := by
  unfold schedule
  split
  · simp only [none_]
  · rfl

/-- Only an assign step reaches beyond the bus and the queues. -/
theorem reaches_takeOffer_plain {o : Offer} (plain : ∀ a, o ≠ .assignStep a) (s : State) : Reaches [.sbc, .sou] s (takeOffer o s) := by
  cases o with
  | startUp => exact ((reaches_withSbc s _).andThen (reaches_withSbc _ _) (rs := [.sbc])).to
  | queued q f => exact (reaches_withSou s _).andThen (reaches_withSbc _ _)
  | poll a => exact ((reaches_withSbc s _).andThen (reaches_withSbc _ _) (rs := [.sbc])).to
  | assignStep a => exact absurd rfl (plain a)
  | callStep p => exact ((reaches_withSbc s _).andThen (reaches_withSbc _ _) (rs := [.sbc])).to

theorem offer_unanswered (none_ : s.sbc.search.answer = none) {o : Offer} (offers : s.offer = some o) (a : Answer) : o ≠ .assignStep a := by
  rintro rfl
  unfold State.offer at offers
  split at offers
  · cases offers
  · simp only [Option.or_eq_some_iff, Option.map_eq_some_iff] at offers
    obtain ⟨f, -, is⟩ | ⟨-, ⟨f, -, is⟩ | ⟨-, search | ⟨-, ⟨f, -, is⟩ | ⟨-, f, -, is⟩⟩⟩⟩ := offers
    · cases is
    · cases is
    · unfold Search.offer at search
      split at search
      · simp [none_] at search
      · cases search
    · cases is
    · cases is

theorem reaches_schedule_unanswered (none_ : s.sbc.search.answer = none) : Reaches [.sbc, .sou] s (schedule s) := by
  obtain ⟨-, stays⟩ | ⟨-, -, stays⟩ | ⟨o, -, offers, takes⟩ := schedule_cases s
  · rw [stays]
    exact .refl s
  · rw [stays]
    exact .refl s
  · rw [takes]
    exact reaches_takeOffer_plain (offer_unanswered none_ offers) s

/-- What a pick leaves of the bus. -/
theorem schedule_sbc (s : State) : (schedule s).sbc = { s.sbc with
    txn := (schedule s).sbc.txn, free := (schedule s).sbc.free, startUp := (schedule s).sbc.startUp
    roundList := (schedule s).sbc.roundList, search := (schedule s).sbc.search, cutShort := (schedule s).sbc.cutShort } := by
  obtain ⟨-, stays⟩ | ⟨-, -, stays⟩ | ⟨o, -, -, takes⟩ := schedule_cases s
  · rw [stays]
  · rw [stays]
  · rw [takes]
    cases o with
    | assignStep a =>
      have same := (assigned_assignStep a s).bus
      simp only [takeOffer, startTxn, State.withSbc_sbc]
      rw [SameBus] at same
      rw [same]
    | _ => rfl

/-- A pick brings no entry but a JOINING one. -/
theorem schedule_entries {e : Entry} (he : e ∈ (schedule s).mtb.entries) (state : e.state ≠ .joining) : e ∈ s.mtb.entries := by
  obtain ⟨-, stays⟩ | ⟨-, -, stays⟩ | ⟨o, -, -, takes⟩ := schedule_cases s
  · rwa [stays] at he
  · rwa [stays] at he
  · rw [takes] at he
    cases o with
    | assignStep a => exact (assigned_assignStep a s).entries e he state
    | _ => exact he

theorem stays_schedule (s : State) : Stays s (schedule s) := by
  obtain ⟨-, stays⟩ | ⟨-, -, stays⟩ | ⟨o, -, -, takes⟩ := schedule_cases s
  · rw [stays]
    exact .refl s
  · rw [stays]
    exact .refl s
  · rw [takes]
    cases o with
    | assignStep a => exact (assigned_assignStep a s).told.trans (stays_of_reaches (reaches_withSbc _ _))
    | _ => exact stays_of_reaches (reaches_takeOffer_plain (fun _ => by simp) s)

end

/-! ## Bus states -/

theorem setBus_sbc (st : BusState) (r : BusReason) (s : State) : (setBus st r s).sbc = { s.sbc with bus := st } := by
  simp only [setBus, notify_eq]
  rfl

theorem setBus_mtb (st : BusState) (r : BusReason) (s : State) : (setBus st r s).mtb = s.mtb := by
  simp only [setBus, notify_eq]
  rfl

theorem heard_setBus {st : BusState} {r : BusReason} {s : State} (room : HasRoom 1 s) :
    Heard (.busState s.sbc.bus st r s.sbc.stucks) (setBus st r s) := heard_notify (s := s.withSbc { s.sbc with bus := st }) room

theorem reaches_setBus' (st : BusState) (r : BusReason) (s : State) : Reaches [.records, .sbc] s (setBus st r s) :=
  (reaches_withSbc s _).andThen (reaches_notify _ _)

/-! ## SURFACE_SETUP (R149) -/

section
variable {s : State} {x : SurfaceSettings}

theorem surfaceSettingsOf_some {enable period lifetime auto : Byte} {e a : Bool} (he : flagOf enable = some e) (ha : flagOf auto = some a) :
    surfaceSettingsOf enable period lifetime auto = some ⟨e, min 3 period.toNat, max 1 (min 120 lifetime.toNat), a⟩ := by
  simp only [surfaceSettingsOf, he, ha, clampTo]

theorem surfaceSettingsOf_none {enable period lifetime auto : Byte} (bad : flagOf enable = none ∨ flagOf auto = none) :
    surfaceSettingsOf enable period lifetime auto = none := by
  unfold surfaceSettingsOf
  split
  · rename_i he ha
    obtain h | h := bad
    · rw [h] at he
      cases he
    · rw [h] at ha
      cases ha
  · rfl

/-- The bus switched off: what it cuts. -/
theorem busDisabled_sbc (s : State) : (busDisabled s).sbc = { s.sbc with
    bus := .off, stuckTimer := false, attempt := 0, faultTimer := none, faultAttempt := false, roundList := []
    search := s.sbc.search.cut } := by
  rw [busDisabled, setBus_sbc]
  rfl

theorem cut_search (x : Search) : x.cut.stack = [] ∧ x.cut.answer = none ∧ x.cut.step = x.step ∧ (x.step = none → x.cut.running = false) := by
  unfold Search.cut
  cases h : x.step with
  | none => exact ⟨rfl, rfl, rfl, fun _ => rfl⟩
  | some st => exact ⟨rfl, rfl, rfl, nofun⟩

/-- The bus switched on, before the scheduler picks. -/
def enabling (s : State) : State :=
  setBus .running .enabled (refreshExpiries (s.withSbc { s.sbc with stuckTimer := s.sbc.lineBreak && !s.sending }))

theorem busEnabled_eq (s : State) : busEnabled s = schedule (enabling s) := rfl

theorem enabling_sbc (s : State) : (enabling s).sbc = { s.sbc with
    bus := .running, stuckTimer := s.sbc.lineBreak && decide (s.txnPhase ≠ some .sending) } := by
  have sending : (!s.sending) = decide (s.txnPhase ≠ some .sending) := by
    simp only [State.sending]
    cases h : s.txnPhase == some .sending <;> simp_all
  rw [enabling, setBus_sbc, ← sending]
  rfl

theorem enabling_mtb (s : State) : (enabling s).mtb =
    { s.mtb with entries := s.mtb.entries.map (fun e => { e with expiry := s.sbc.newExpiry }) } := by
  rw [enabling, setBus_mtb]
  rfl

theorem reaches_enabling (s : State) : Reaches [.records, .sbc, .mtb] s (enabling s) :=
  ((reaches_withSbc s _).andThen (reaches_refreshExpiries _) (rs := [.sbc, .mtb])).andThen (reaches_setBus' ..)

end

/-! ## Rounds (R140, R154) -/

section
variable {s : State}

/-- The state in which the scheduler looks at the new round. -/
def rounded (s : State) : State :=
  let t := removeModules .expired s.expired s
  t.withSbc { t.sbc with roundList := t.snapshot, roundCounter := t.sbc.roundCounter + 1 }

theorem startRound_eq (s : State) : startRound s = schedule (rounded s) := rfl

theorem expired_iff (distinct : (s.mtb.entries.map (fun e => e.address)).Nodup) {e : Entry} (he : e ∈ s.mtb.entries) :
    s.expired.contains e.address = decide (e.state = .silent ∧ (s.sbc.millis - e.expiry).toNat < 2 ^ 31) := by
  rw [Bool.eq_iff_iff, List.contains_iff_mem, State.expired, List.mem_map, decide_eq_true_eq]
  constructor
  · rintro ⟨f, hf, same⟩
    obtain ⟨mem, gone⟩ := List.mem_filter.mp hf
    obtain rfl := List.inj_on_of_nodup_map distinct mem he same
    simpa [hasPassed] using gone
  · intro gone
    exact ⟨e, List.mem_filter.mpr ⟨he, by simpa [hasPassed] using gone⟩, rfl⟩

theorem rounded_mtb (distinct : (s.mtb.entries.map (fun e => e.address)).Nodup) : (rounded s).mtb =
    { s.mtb with entries := s.mtb.entries.filter (fun e =>
      !decide (e.state = .silent ∧ (s.sbc.millis - e.expiry).toNat < 2 ^ 31)) } := by
  have removed : (rounded s).mtb = (removeModules .expired s.expired s).mtb := rfl
  rw [removed, removeModules_mtb, List.filter_congr fun e he => congrArg (!·) (expired_iff distinct he)]

theorem rounded_sbc (s : State) : (rounded s).sbc = { s.sbc with
    roundCounter := s.sbc.roundCounter + 1
    roundList := ((rounded s).mtb.entries.filter (fun e => decide (e.state = .online ∨ e.state = .suspect ∨
      e.state = .silent ∧ s.sbc.roundCounter.toNat % 16 = 0))).map (fun e => e.address) } := by
  have kept := removeModules_sbc .expired s.expired s
  have same : (rounded s).mtb = (removeModules .expired s.expired s).mtb := rfl
  have snapshot : (removeModules .expired s.expired s).snapshot =
      ((rounded s).mtb.entries.filter (fun e => decide (e.state = .online ∨ e.state = .suspect ∨
        e.state = .silent ∧ s.sbc.roundCounter.toNat % 16 = 0))).map (fun e => e.address) := by
    rw [same, State.snapshot, kept]
    congr 1
    refine List.filter_congr fun e _ => ?_
    simp only [Bool.decide_or, Bool.decide_and, Bool.or_assoc]
    rfl
  rw [← snapshot]
  show { (removeModules .expired s.expired s).sbc with
    roundList := (removeModules .expired s.expired s).snapshot
    roundCounter := (removeModules .expired s.expired s).sbc.roundCounter + 1 } = _
  generalize (removeModules .expired s.expired s).snapshot = round
  rw [kept]

theorem reaches_rounded (s : State) : Reaches [.records, .rme, .sbc, .mtb, .sou, .bdt] s (rounded s) :=
  (reaches_removeModules .expired s.expired s).andThen (reaches_withSbc _ _)

/-- What the scheduler takes from a round list. -/
theorem schedule_round (s : State) (none_ : s.sbc.search.answer = none) : (schedule s).sbc.roundList = s.sbc.roundList ∨
    ∃ a, s.sbc.roundList = a :: (schedule s).sbc.roundList ∧ (schedule s).sbc.txn = some ⟨⟨a, .poll, []⟩, .round, .sending⟩ := by
  obtain ⟨-, stays⟩ | ⟨-, -, stays⟩ | ⟨o, picks, offers, takes⟩ := schedule_cases s
  · exact .inl (by rw [stays])
  · exact .inl (by rw [stays])
  · rw [takes]
    cases o with
    | assignStep a => exact absurd rfl (offer_unanswered none_ offers a)
    | poll a =>
      right
      unfold State.offer at offers
      split at offers
      · cases offers
      · simp only [Option.or_eq_some_iff, Option.map_eq_some_iff] at offers
        obtain ⟨f, -, is⟩ | ⟨-, ⟨b, head, is⟩ | ⟨-, search | ⟨-, ⟨f, -, is⟩ | ⟨-, f, -, is⟩⟩⟩⟩ := offers
        · cases is
        · cases is
          obtain ⟨rest, list⟩ := List.head?_eq_some_iff.mp head
          refine ⟨a, ?_, rfl⟩
          simp only [takeOffer, startTxn, State.withSbc_sbc, list, List.drop_one, List.tail_cons]
        · unfold Search.offer at search
          split at search
          · split at search
            · cases search
            · obtain ⟨p, -, is⟩ := Option.map_eq_some_iff.mp search
              cases is
          · cases search
        · cases is
        · cases is
    | _ => exact .inl rfl

end

/-! ## Searches (R155) -/

section
variable {s : State}

theorem reaches_startSearch' (s : State) : Reaches [.sbc, .sou] s (schedule (startSearch s)) :=
  (reaches_withSbc s _).andThen (reaches_schedule_unanswered (s := startSearch s) rfl)

/-- R155, R156: a search begins with every serial number, which may be called at once. -/
theorem searchBegan_startSearch (s : State) : searchBegan (schedule (startSearch s)) := by
  obtain ⟨-, stays⟩ | ⟨-, -, stays⟩ | ⟨o, picks, offers, takes⟩ := schedule_cases (startSearch s)
  · exact .inl (by rw [stays]; rfl)
  · exact .inl (by rw [stays]; rfl)
  · rw [takes]
    cases o with
    | assignStep a => exact absurd rfl (offer_unanswered (s := startSearch s) rfl offers a)
    | callStep p =>
      right
      have empty : p = ⟨0, 0⟩ := by
        unfold State.offer at offers
        split at offers
        · cases offers
        · simp only [Option.or_eq_some_iff, Option.map_eq_some_iff] at offers
          obtain ⟨f, -, is⟩ | ⟨-, ⟨b, -, is⟩ | ⟨-, search | ⟨-, ⟨f, -, is⟩ | ⟨-, f, -, is⟩⟩⟩⟩ := offers
          · cases is
          · cases is
          · cases search
            rfl
          · cases is
          · cases is
      subst empty
      exact ⟨rfl, rfl⟩
    | _ => exact .inl rfl

end

/-! ## The list of the scheduler (R139) -/

section
variable {s : State}

theorem offered_iff {q : QueueId} {f : QFrame} : offered (s.sou.queue q) = some f ↔ headOffered s q f := by
  unfold headOffered
  cases queue : s.sou.queue q with
  | nil => simp [offered]
  | cons g rest =>
    simp only [offered, List.cons.injEq, Option.ite_none_right_eq_some, Option.some.injEq, Bool.and_eq_true,
      Option.isNone_iff_eq_none, Bool.not_eq_true']
    constructor
    · rintro ⟨⟨rested, idle⟩, rfl⟩
      exact ⟨rest, ⟨rfl, rfl⟩, rested, idle⟩
    · rintro ⟨_, ⟨rfl, rfl⟩, rested, idle⟩
      exact ⟨⟨rested, idle⟩, rfl⟩

theorem offered_none {q : QueueId} (none_ : ∀ f, ¬ headOffered s q f) : offered (s.sou.queue q) = none := by
  cases h : offered (s.sou.queue q) with
  | none => rfl
  | some f => exact absurd (offered_iff.mp h) (none_ f)

/-- R139: the list of the scheduler, once the start-up RELEASE is out. -/
theorem offer_started (started : s.sbc.startUp = false) : s.offer = ((offered s.sou.urgent).map (Offer.queued .urgent)).or
    ((s.sbc.roundList.head?.map Offer.poll).or (s.sbc.search.offer.or
      (((offered s.sou.normal).map (Offer.queued .normal)).or ((offered s.sou.meter).map (Offer.queued .meter))))) := by
  rw [State.offer, if_neg (by simp [started])]

/-- A search without a step in flight, or with nothing to do. -/
theorem searchOffer_none (x : Search) (idle : ¬ (x.running = true ∧ x.step = none) ∨ x.answer = none ∧ x.stack = []) : x.offer = none := by
  unfold Search.offer
  obtain rests | ⟨answer, stack⟩ := idle
  · rw [if_neg]
    simpa using rests
  · split
    · simp [answer, stack]
    · rfl

theorem searchOffer_some {x : Search} (steps : x.running = true ∧ x.step = none) : x.offer =
    match x.answer with
    | some a => some (.assignStep a)
    | none => x.stack.head?.map .callStep := by
  unfold Search.offer
  exact if_pos (by simp [steps])

theorem assignStep_frame (a : Answer) (s : State) :
    (assignStep a s).2.address = 31 ∧ ((assignStep a s).2.kind = .assign ∨ (assignStep a s).2.kind = .refuse) := by
  have sends := assignStep_sends a s
  simp only [ownerSends, Bool.and_eq_true, Bool.or_eq_true, beq_iff_eq] at sends
  obtain ⟨address, kind⟩ := sends
  refine ⟨address, ?_⟩
  unfold assignStep
  split
  · exact .inl rfl
  · split
    · unfold joinNew
      split
      · exact .inr rfl
      · exact .inl rfl
    · split
      · unfold joinNew
        split
        · exact .inr rfl
        · exact .inl rfl
      · exact .inr rfl

end

end Sys2Proof.Machine

open Sys2Proof.Machine Sys2Proof.Safety in
/-- Settles O46, by what the bus keeps when it stops, starts or does neither. -/
theorem surfaceSettings : Obligations.SurfaceSettings := by
  intro tag enable period lifetime auto clear s takes
  refine ⟨fun bad => exec_refused rfl rfl takes ?_, fun e a he ha => ?_, fun bad => exec_refused rfl rfl takes ?_,
    fun b hb => exec_accepted rfl rfl takes ?_⟩
  · simp only [handleSurfaceSetup, surfaceSettingsOf_none bad]
  · intro p l stored
    have settings := surfaceSettingsOf_some (period := period) (lifetime := lifetime) he ha
    have status : adjustedIf (p != period.toNat || l != lifetime.toNat) =
        if 3 < period.toNat ∨ lifetime.toNat = 0 ∨ 120 < lifetime.toNat then .adjusted else .ok := by
      by_cases clamps : 3 < period.toNat ∨ lifetime.toNat = 0 ∨ 120 < lifetime.toNat
      · have differs : (p != period.toNat || l != lifetime.toNat) = true := by
          simp only [Bool.or_eq_true, bne_iff_ne]
          omega
        rw [if_pos clamps, differs]
        rfl
      · have same : (p != period.toNat || l != lifetime.toNat) = false := by
          simp only [Bool.or_eq_false_iff, bne_eq_false_iff_eq]
          omega
        rw [if_neg clamps, same]
        rfl
    obtain ⟨u, hu⟩ : ∃ u, u = storeSettings ⟨e, p, l, a⟩ s := ⟨_, rfl⟩
    have sbc : u.sbc = stored := by rw [hu]; rfl
    have reach : Reaches [.sbc] s u := hu ▸ reaches_withSbc s _
    have txnPhase : u.txnPhase = s.txnPhase := by rw [hu]; rfl
    obtain ⟨v, hv⟩ : ∃ v, v = if e = false ∧ s.sbc.bus ≠ .off then busDisabled u else if e = true ∧ s.sbc.bus = .off then busEnabled u else u :=
      ⟨_, rfl⟩
    have runs : exec (.surfaceSetup tag enable period lifetime auto) s = .next (queueReply ⟨0x38, tag,
        if 3 < period.toNat ∨ lifetime.toNat = 0 ∨ 120 < lifetime.toNat then .adjusted else .ok, some (.surfaceSettings e p l a)⟩ v) := by
      refine (exec_taken (c := .surfaceSetup tag enable period lifetime auto) rfl rfl takes).trans ?_
      simp only [handleSurfaceSetup, settings]
      rw [hv, ← status, hu]
      rfl
    have replied : ∀ ps, Reaches ps s v → Part.replies ∉ ps → Answered 0x38 tag
        (if 3 < period.toNat ∨ lifetime.toNat = 0 ∨ 120 < lifetime.toNat then .adjusted else .ok) (some (.surfaceSettings e p l a)) s
        (queueReply ⟨0x38, tag, if 3 < period.toNat ∨ lifetime.toNat = 0 ∨ 120 < lifetime.toNat then .adjusted else .ok,
          some (.surfaceSettings e p l a)⟩ v) := fun ps r away => answered_of_reaches r away
    have all : Reaches [.records, .rme, .sbc, .mtb, .sou, .bdt, .fresh] s v := by
      rw [hv]
      split
      · exact reach.andThen ((reaches_withSbc u _).andThen (reaches_setBus' ..) (rs := [.records, .sbc]))
      · split
        · exact (reach.andThen (reaches_enabling u) (rs := [.records, .sbc, .mtb])).andThen (reaches_schedule _)
        · exact reach.to
    refine ⟨_, runs, replied _ all (by decide), fun neither => ?_, fun stops was => ?_, fun starts was => ?_⟩
    · have same : v = u := by
        rw [hv, if_neg (by rintro ⟨h1, h2⟩; obtain ⟨h, -⟩ | ⟨-, h⟩ := neither <;> simp_all),
          if_neg (by rintro ⟨h1, h2⟩; obtain ⟨-, h⟩ | ⟨h, -⟩ := neither <;> simp_all)]
      rw [same]
      exact ⟨sbc, keepsBut_queueReply (keepsBut_of_reaches reach fun _ => id) _⟩
    · have is : v = busDisabled u := by rw [hv, if_pos ⟨stops, was⟩]
      have off : v.sbc = { stored with
          bus := .off, stuckTimer := false, attempt := 0, faultTimer := none, faultAttempt := false, roundList := []
          search := s.sbc.search.cut } := by
        rw [is, busDisabled_sbc, sbc]
      obtain ⟨stack, answer, step, running⟩ := cut_search s.sbc.search
      have search := congrArg Sbc.search off
      have parts : Reaches [.records, .sbc] s v := by
        rw [is]
        exact reach.andThen ((reaches_withSbc u _).andThen (reaches_setBus' ..) (rs := [.records, .sbc]))
      refine ⟨?_, (congrArg Search.stack search).trans stack, (congrArg Search.answer search).trans answer,
        (congrArg Search.step search).trans step, fun idle => (congrArg Search.running search).trans (running idle), fun room => ?_,
        keepsBut_queueReply (keepsBut_of_reaches parts fun _ => id) _⟩
      · refine Eq.trans off ?_
        rw [show (queueReply _ v).sbc.search = v.sbc.search from rfl, off]
      · have heard := heard_setBus (st := .off) (r := .disabled) (s := u.withSbc { u.sbc with
          stuckTimer := false, attempt := 0, faultTimer := none, faultAttempt := false, roundList := [], search := u.sbc.search.cut })
          (hu ▸ room)
        have before : u.sbc.bus = s.sbc.bus ∧ u.sbc.stucks = s.sbc.stucks := by rw [hu]; exact ⟨rfl, rfl⟩
        rw [is]
        exact before.1 ▸ before.2 ▸ heard
    · intro started
      have is : v = schedule (enabling u) := by rw [hv, if_neg (by simp [starts]), if_pos ⟨starts, was⟩, busEnabled_eq]
      have on : (enabling u).sbc = started := by rw [enabling_sbc, sbc, txnPhase]
      have pick := schedule_sbc (enabling u)
      have mtb : (enabling u).mtb = { s.mtb with entries := s.mtb.entries.map (fun e => { e with expiry := s.sbc.millis + BitVec.ofNat 32 (l * 500) }) } := by
        rw [enabling_mtb, sbc, hu]
        rfl
      have before : Reaches [.records, .sbc, .mtb] s (enabling u) := reach.andThen (reaches_enabling u)
      refine ⟨?_, fun busy => ?_, fun x hx state => ?_, fun room => ?_, keepsBut_queueReply (keepsBut_of_reaches all (by decide)) _, fun none_ => ?_⟩
      · rw [on, ← is] at pick
        exact pick
      · have idle : (enabling u).mayPick = false := mayPick_busy (by rw [on]; exact busy)
        rw [is, schedule_stays idle]
        exact on
      · rw [is] at hx
        have there := schedule_entries (s := enabling u) hx state
        rw [mtb] at there
        obtain ⟨y, -, rfl⟩ := List.mem_map.mp there
        rfl
      · have heard := heard_setBus (st := .running) (r := .enabled) (s := refreshExpiries (u.withSbc { u.sbc with
          stuckTimer := u.sbc.lineBreak && !u.sending })) (hu ▸ room)
        have before : u.sbc.bus = .off ∧ u.sbc.stucks = s.sbc.stucks := by rw [hu]; exact ⟨was, rfl⟩
        rw [is]
        refine (stays_schedule (enabling u)).heard _ (by simp [NoticeBody.Alone, NoticeBody.code]) ?_
        exact before.1 ▸ before.2 ▸ heard
      · have sent : Reaches [.sbc, .sou] (enabling u) v := by
          rw [is]
          refine reaches_schedule_unanswered ?_
          rw [on]
          exact none_
        refine ⟨?_, keepsBut_queueReply (keepsBut_of_reaches (before.andThen sent (rs := [.records, .sbc, .mtb, .sou])) (by decide)) _⟩
        exact Eq.trans (sent.frame .mtb (by decide)) mtb
  · simp only [handleSurfaceStatus, bad]
  · simp only [handleSurfaceStatus, hb]
    cases b <;> rfl

open Sys2Proof.Machine Sys2Proof.Safety in
/-- Settles O47, by the state in which the scheduler looks at a new round or a new search. -/
theorem roundsAndSearches : Obligations.RoundsAndSearches := by
  intro tag s boundary due
  have atBoundary : s.sbc.atBoundary = true ↔ boundary := by simp [Sbc.atBoundary, Sbc.period, boundary]
  have isDue : s.sbc.searchDue = true ↔ due := by simp [Sbc.searchDue, due]
  have busRuns : s.busRuns = true ↔ s.phase = .running ∧ s.sbc.bus = .running := by simp [State.busRuns]
  have polls : exec .pollBoundary s = .next (if s.busRuns && s.sbc.atBoundary then
      if s.sbc.roundList = [] then startRound s else s.withSbc { s.sbc with overruns := saturate16 (s.sbc.overruns + 1) } else s) := rfl
  have starts : exec .autoDiscoveryStart s = .next (if s.busRuns && s.sbc.searchDue && s.sbc.auto && !s.sbc.search.running
      then schedule (startSearch s) else s) := rfl
  refine ⟨fun rests => ?_, fun phase bus at_ busy => ?_, fun phase bus at_ empty none_ modules => ?_, fun phase bus at_ auto idle => ?_,
    fun rests => ?_, fun takes => ⟨fun off => exec_refused rfl rfl takes ?_, fun on running => exec_accepted rfl rfl takes ?_, fun on idle => ?_⟩⟩
  · rw [polls, if_neg]
    rw [Bool.and_eq_true, busRuns, atBoundary]
    tauto
  · rw [polls, if_pos (by rw [Bool.and_eq_true, busRuns, atBoundary]; exact ⟨⟨phase, bus⟩, at_⟩), if_neg busy]
    rfl
  · obtain ⟨-, ascending, -⟩ := modules
    have distinct : (s.mtb.entries.map (fun e => e.address)).Nodup := ascending.imp fun h => Nat.ne_of_lt h
    have sbc := rounded_sbc s
    have answer : (rounded s).sbc.search.answer = none := by rw [sbc]; exact none_
    have sent := reaches_schedule_unanswered answer
    have same : (schedule (rounded s)).mtb = (rounded s).mtb := sent.frame .mtb (by decide)
    refine ⟨_, polls.trans ?_, ?_, same.trans (rounded_mtb distinct), fun round is => ?_,
      keepsBut_of_reaches ((reaches_rounded s).andThen sent (rs := [.records, .rme, .sbc, .mtb, .sou, .bdt])) fun _ => id⟩
    · rw [if_pos (by rw [Bool.and_eq_true, busRuns, atBoundary]; exact ⟨⟨phase, bus⟩, at_⟩), if_pos empty, startRound_eq]
    · rw [schedule_sbc, sbc]
    · rw [same] at is
      have list : (rounded s).sbc.roundList = round := by rw [sbc, is]
      have taken := schedule_round (rounded s) answer
      rwa [list] at taken
  · refine ⟨_, starts.trans ?_, searchBegan_startSearch s, keepsBut_of_reaches (reaches_startSearch' s) fun _ => id⟩
    rw [if_pos]
    simp only [Bool.and_eq_true, busRuns, isDue, auto, idle]
    exact ⟨⟨⟨⟨phase, bus⟩, at_⟩, trivial⟩, rfl⟩
  · rw [starts, if_neg]
    simp only [Bool.and_eq_true, busRuns, isDue, Bool.not_eq_true']
    rintro ⟨⟨⟨⟨phase, bus⟩, at_⟩, auto⟩, idle⟩
    obtain h | h | h | h | h := rests
    · exact h phase
    · exact h bus
    · exact h at_
    · simp [h] at auto
    · simp [h] at idle
  · simp [handleDiscover, off]
  · simp [handleDiscover, on, running]
  · have accepted : handleDiscover s = accept (schedule (startSearch s)) (some (.discovery true 1)) := by
      simp [handleDiscover, on, idle]
    have reach := reaches_startSearch' s
    exact ⟨_, exec_accepted (c := .discover tag) rfl rfl takes accepted, searchBegan_startSearch s, answered_of_reaches reach,
      keepsBut_queueReply (keepsBut_of_reaches reach fun _ => id) _⟩

open Sys2Proof.Machine Sys2Proof.Safety in
/-- Settles O48, by the order of the scheduler's offers. -/
theorem schedulerPicks : Obligations.SchedulerPicks := by
  intro s txn quiet none_ picks
  obtain ⟨u, hu⟩ : ∃ u, u = s.withSbc { s.sbc with free := true } := ⟨_, rfl⟩
  have runs : exec .busFree s = .next (schedule u) := by
    rw [hu]
    exact congrArg Host.Outcome.next (if_pos (by simp [txn, quiet]))
  have sou : u.sou = s.sou := by rw [hu]; rfl
  have sbc : u.sbc = { s.sbc with free := true } := by rw [hu]; rfl
  have reach : Reaches [.sbc] s u := hu ▸ reaches_withSbc s _
  have mayPick : u.mayPick = true ↔ s.phase = .running ∧ s.sbc.bus = .running := by
    simp [State.mayPick, hu, txn]
  refine ⟨_, runs, fun rests => ?_, fun phase bus => ⟨fun starts => ?_, fun started => ⟨fun f head => ?_, fun urgent => ⟨fun a rest round => ?_,
    fun round => ⟨fun steps a answer => ?_, fun steps answer p rest stack => ?_, fun idle => ⟨fun f head => ?_, fun normal f head => ?_,
      fun normal meter => ?_⟩⟩⟩⟩⟩⟩
  · rw [schedule_stays (Bool.eq_false_iff.mpr fun h => by obtain ⟨hp, hb⟩ := mayPick.mp h; tauto), hu]
    rfl
  all_goals have may := mayPick.mpr ⟨phase, bus⟩
  · have offer : u.offer = some .startUp := by simp only [State.offer, sbc, starts, if_true]
    rw [schedule_takes may offer]
    exact ⟨⟨rfl, rfl, rfl⟩, rfl⟩
  all_goals have offers := offer_started (s := u) (by rw [sbc]; exact started)
  all_goals rw [sou, sbc] at offers
  · rw [show offered s.sou.urgent = some f from offered_iff.mpr head] at offers
    rw [schedule_takes may offers]
    obtain ⟨rest, queue, -, -⟩ := head
    refine ⟨⟨rfl, rfl, rfl⟩, ?_, keepsBut_of_reaches (reach.andThen (reaches_takeOffer_plain (o := .queued .urgent f) (fun _ => by simp) u) (rs := [.sbc, .sou])) fun _ => id⟩
    show (pickHead u.sou.urgent).head? = _
    rw [sou, show s.sou.urgent = f :: rest from queue]
    rfl
  all_goals rw [show offered s.sou.urgent = none from offered_none urgent, Option.map_none, Option.none_or] at offers
  · rw [round] at offers
    rw [schedule_takes may offers]
    refine ⟨⟨rfl, rfl, rfl⟩, ?_, keepsBut_of_reaches (reach.andThen ((reaches_withSbc u _).andThen (reaches_withSbc _ _) (rs := [.sbc])) (rs := [.sbc]))
      fun _ => id⟩
    show u.sbc.roundList.drop 1 = rest
    rw [sbc, round]
    rfl
  all_goals rw [round, List.head?_nil, Option.map_none, Option.none_or] at offers
  · rw [searchOffer_some steps, answer] at offers
    rw [schedule_takes may offers]
    obtain ⟨address, kind⟩ := assignStep_frame a u
    exact ⟨(assignStep a u).2, ⟨rfl, rfl, rfl⟩, (assigned_assignStep a u).step.1, address, kind⟩
  · rw [searchOffer_some steps, answer, stack] at offers
    rw [schedule_takes may offers]
    refine ⟨⟨rfl, rfl, rfl⟩, ?_, rfl⟩
    show u.sbc.search.stack.drop 1 = rest
    rw [sbc, stack]
    rfl
  all_goals rw [searchOffer_none _ idle, Option.none_or] at offers
  · rw [show offered s.sou.normal = some f from offered_iff.mpr head] at offers
    rw [schedule_takes may offers]
    exact ⟨rfl, rfl, rfl⟩
  all_goals rw [show offered s.sou.normal = none from offered_none normal, Option.map_none, Option.none_or] at offers
  · rw [show offered s.sou.meter = some f from offered_iff.mpr head] at offers
    rw [schedule_takes may offers]
    exact ⟨rfl, rfl, rfl⟩
  · rw [show offered s.sou.meter = none from offered_none meter, Option.map_none] at offers
    rw [schedule_unoffered offers, hu]
    rfl

end

section
/-! PROOFS. Transactions, their judgement and the stuck bus (O49, O50, O51). -/

namespace Sys2Proof.Machine

open Safety

/-! ## Replies (R131, R132, R136) -/

section
variable {f : BusFrame} {address kind length crc : Byte} {payload : List Byte}

/-- R132: the reply kinds and lengths that suit a frame. -/
def replySuits (f : BusFrame) (kind : Byte) (payload : List Byte) : Bool :=
  match f.kind with
  | .poll => kind.toNat == 0x81 && payload.length % 4 == 0 || kind.toNat == 0x82 && payload.isEmpty
  | .call => kind.toNat == 0x83 && payload.length == 10
  | .assign => kind.toNat == 0x84 && payload.isEmpty
  | .refuse => false
  | .release | .write | .setControl | .meter => decide (0x85 ≤ kind.toNat ∧ kind.toNat ≤ 0x87) && payload.isEmpty

theorem accepts_suits {k : ReplyKind} (is : replyKindOf kind = some k) (short : payload.length ≤ 32) :
    (f.accepts k && k.lengthOk payload.length) = replySuits f kind payload := by
  have empty : payload.isEmpty = (payload.length == 0) := by cases payload <;> rfl
  unfold replyKindOf at is
  split at is <;> rename_i code <;> cases is <;> unfold BusFrame.accepts replySuits <;>
    cases f.kind <;> simp [code, ReplyKind.lengthOk, short, empty]

theorem replyResult_judged (fits : length.toNat ≤ 32) (whole : payload.length = length.toNat) :
    replyResult f (address :: kind :: length :: (payload ++ [crc])) = some (replyJudged f address kind length payload crc) := by
  have taken : (payload ++ [crc]).take length.toNat = payload := by rw [← whole, List.take_left]
  have last : (payload ++ [crc]).getD length.toNat 0 = crc := by simp [← whole]
  have judged : replyJudged f address kind length payload crc =
      if crc = crc8 (address :: kind :: length :: payload) ∧ address.toNat = f.replyAddress ∧ replySuits f kind payload = true then
        ((replyKindOf kind).map (fun k => TxnResult.reply k payload)).getD .corrupt
      else .corrupt := rfl
  rw [judged]
  simp only [replyResult, taken, last]
  rw [if_neg (by omega), if_neg (by simp [whole])]
  by_cases good : crc8 (address :: kind :: length :: payload) = crc
  · rw [if_neg (not_not.mpr good)]
    by_cases mine : address.toNat = f.replyAddress
    · rw [if_neg (not_not.mpr mine)]
      cases is : replyKindOf kind with
      | none => simp
      | some k =>
        dsimp only
        rw [← whole, accepts_suits is (whole ▸ fits)]
        by_cases suit : replySuits f kind payload = true <;> simp [good, mine, suit]
    · rw [if_pos mine, if_neg fun h => mine h.2.1]
  · rw [if_pos good, if_neg fun h => good h.1.symm]

end

/-! ## The end of a transaction (R138) -/

/-- What the end of a transaction can reach. -/
abbrev endParts : List Part := [.records, .rme, .sbc, .mtb, .sou, .bdt, .fsv]

section
variable (x : Txn) (r : TxnResult) (s : State)

theorem reaches_stepResult_end : Reaches endParts s (stepResult r s) := by
  unfold stepResult
  split
  · exact (reaches_callResult ..).to
  · simp only [assignResult]
    split
    · exact (reaches_setSearch _ s).to
    · split
      · exact (reaches_setSearch _ s).andThen (((reaches_putEntry _ _).andThen (reaches_notify _ _) (rs := [.records, .mtb])).andThen
          (reaches_reattach ..) (rs := [.records, .mtb, .sou, .bdt, .fsv]))
      · exact (reaches_setSearch _ s).andThen (reaches_removeModule ..)
  · exact (reaches_setSearch _ s).to
  · exact .refl s

/-- The bus when a transaction has ended and its result is still to be handed on. -/
def txnOver : State := s.withSbc { countResult r s.sbc with txn := none, free := false }

theorem endTxn_eq : endTxn x r s = toOwner x.owner r (reportEvents x.frame.address r
    (if x.judges then judgeModule x.frame.address r (txnOver r s) else txnOver r s)) := rfl

theorem reaches_endTxn_end : Reaches endParts s (endTxn x r s) := by
  have judged (t : State) : Reaches endParts t (if x.judges then judgeModule x.frame.address r t else t) :=
    .ite (fun _ => (reaches_judgeModule ..).to) fun _ => .refl t
  have events (t : State) : Reaches endParts t (reportEvents x.frame.address r t) := by
    unfold reportEvents
    split
    · exact (reaches_takeEvents ..).to
    · exact .refl t
  have owner (t : State) : Reaches endParts t (toOwner x.owner r t) := by
    unfold toOwner
    split
    · exact .refl t
    · exact .refl t
    · exact reaches_stepResult_end r t
    · exact (reaches_frameOutcome ..).to
  exact (((reaches_withSbc s _).andThen (judged _) (rs := endParts)).andThen (events _) (rs := endParts)).andThen (owner _)

theorem countResult_counts (b : Sbc) : countResult r b = { b with
    noReplies := if r = .noReply then min 65535 (b.noReplies + 1) else b.noReplies
    corrupts := if r = .corrupt then min 65535 (b.corrupts + 1) else b.corrupts } := by
  cases r <;> rfl

/-- R138: what the end of a transaction does to the bus. -/
theorem endTxn_sbc : (endTxn x r s).sbc = { s.sbc with
    txn := none, free := false
    noReplies := if r = .noReply then min 65535 (s.sbc.noReplies + 1) else s.sbc.noReplies
    corrupts := if r = .corrupt then min 65535 (s.sbc.corrupts + 1) else s.sbc.corrupts
    search := (endTxn x r s).sbc.search, roundList := (endTxn x r s).sbc.roundList } := by
  have same := sameBus_endTxn x r s
  rw [SameBus, countResult_counts] at same
  exact same

variable {x r s}

theorem endTxnIn_of {phases : List TxnPhase} (flight : s.sbc.txn = some x) (among : x.phase ∈ phases) : endTxnIn phases r s = endTxn x r s := by
  simp only [endTxnIn, flight, List.contains_iff_mem.mpr among, if_true]

theorem endTxnIn_still {phases : List TxnPhase} (away : ∀ x, s.sbc.txn = some x → x.phase ∉ phases) : endTxnIn phases r s = s := by
  unfold endTxnIn
  split
  · rename_i x flight
    rw [if_neg (by simpa using away x flight)]
  · rfl

theorem txnPhase_of (flight : s.sbc.txn = some x) : s.txnPhase = some x.phase := by simp [State.txnPhase, flight]

theorem phase_of_txnPhase {p : TxnPhase} (phase : s.txnPhase = some p) : ∃ x, s.sbc.txn = some x ∧ x.phase = p := by
  simpa [State.txnPhase] using phase

end

/-! ## The judgement of an entry (R142, R143) -/

section
variable {s t : State} {a q : Nat} {e : Entry} {r : TxnResult} {x : Word32}

theorem reevaluated_restated (st : ModuleState) (q : Nat) : st.reevaluated q = restated st q := by
  cases st with
  | online =>
    unfold ModuleState.reevaluated restated
    by_cases silent : 128 ≤ q
    · simp [silent, show ¬ q ≤ 127 by omega]
    · simp [silent, show q ≤ 127 by omega]
  | suspect | silent | joining => rfl

/-- An entry replaced at its own address. -/
theorem putEntry_replaced (asc : Ascending s.mtb.entries) (there : s.mtb.entry a = some e) {f : Entry} (same : f.address = e.address) :
    (putEntry f s).mtb = { s.mtb with entries := s.mtb.entries.map (fun x => if x.address = a then f else x) } := by
  obtain ⟨mem, address⟩ := entry_mem there
  rw [putEntry, insertEntry_of_held asc ⟨e, mem, same.symm⟩, same, address]
  rfl

theorem map_entry_self (asc : Ascending s.mtb.entries) (there : s.mtb.entry a = some e) (f : Entry → Entry) :
    s.mtb.entries.map (fun x => if x.address = a then f e else x) = s.mtb.entries.map (fun x => if x.address = a then f x else x) := by
  refine List.map_congr_left fun y hy => ?_
  split
  · rename_i same
    have held := entry_of_mem asc hy
    rw [same, there] at held
    rw [Option.some.inj held]
  · rfl

/-- R142, R143: the count, the state that follows from it, and the notice. -/
theorem entryJudged_judgeModule (asc : Ascending s.mtb.entries) (there : s.mtb.entry a = some e) (known : e.state ≠ .joining)
    (is : e.judged r s.sbc.newExpiry = { e with quality := q, state := restated e.state q, expiry := x }) :
    entryJudged a e q x s (judgeModule a r s) := by
  have address := (entry_mem there).2
  have table : (putEntry (e.judged r s.sbc.newExpiry) s).mtb = { s.mtb with entries := s.mtb.entries.map (fun y => if y.address = a then
      { y with quality := q, state := restated e.state q, expiry := x } else y) } := by
    rw [putEntry_replaced asc there (by rw [is]), is]
    exact congrArg (fun es => { s.mtb with entries := es })
      (map_entry_self asc there fun y => { y with quality := q, state := restated e.state q, expiry := x })
  have judged : judgeModule a r s = if restated e.state q = e.state then putEntry (e.judged r s.sbc.newExpiry) s
      else notify ((e.judged r s.sbc.newExpiry).stateNotice (some e.state) (some (restated e.state q)) (restated e.state q).reason .none)
        (putEntry (e.judged r s.sbc.newExpiry) s) := by
    simp only [judgeModule, there, if_neg known, is]
  refine ⟨?_, keepsBut_of_reaches (reaches_judgeModule a r s) (by decide), fun room changes => ⟨(restated e.state q).reason, ?_⟩⟩
  · rw [judged]
    split
    · exact table
    · rw [notify_eq]
      exact table
  · rw [judged, if_neg changes]
    have heard := heard_notify (b := (e.judged r s.sbc.newExpiry).stateNotice (some e.state) (some (restated e.state q))
      (restated e.state q).reason .none) (s := putEntry (e.judged r s.sbc.newExpiry) s) room
    have notice : (e.judged r s.sbc.newExpiry).stateNotice (some e.state) (some (restated e.state q)) (restated e.state q).reason .none =
        .moduleState ⟨a, e.serial, some e.state, some (restated e.state q), (restated e.state q).reason, .none, q⟩ := by
      rw [is, ← address]
      rfl
    rwa [notice] at heard ⊢

theorem entryJudged_txnOver (judged : entryJudged a e q x (txnOver r s) t) : entryJudged a e q x s t := by
  obtain ⟨mtb, kept, told⟩ := judged
  exact ⟨mtb, fun p away => by
    have same := kept p away
    cases p <;> first | exact same | exact absurd (by decide) away, told⟩

/-- R142: WAIT leaves the count and the expiry. -/
theorem judgeModule_wait (asc : Ascending s.mtb.entries) (there : s.mtb.entry a = some e) (known : e.state ≠ .joining)
    (payload : List Byte) : judgeModule a (.reply .wait payload) s = s := by
  have judged : judgeModule a (.reply .wait payload) s = putEntry e s := by
    simp only [judgeModule, there, if_neg known, Entry.judged, if_true]
  have same : (putEntry e s).mtb = s.mtb := by
    rw [putEntry_replaced asc there rfl, map_entry_self asc there fun y => y]
    simp
  rw [judged]
  show s.withMtb (putEntry e s).mtb = s
  rw [same]
  rfl

end

section
variable {s : State} {a : Nat} {r : TxnResult}

/-- A poll that has ended (R138 steps 2 and 3). -/
theorem endTxn_round (low : 1 ≤ a) (high : a ≤ 30) (phase : TxnPhase) :
    endTxn ⟨⟨a, .poll, []⟩, .round, phase⟩ r s = reportEvents a r (judgeModule a r (txnOver r s)) := by
  have judges : (⟨⟨a, .poll, []⟩, .round, phase⟩ : Txn).judges = true := by simp [Txn.judges, low, high]
  rw [endTxn_eq, judges]
  rfl

/-- A queued frame whose transaction has ended (R138 steps 2 and 4). -/
theorem endTxn_output {q : QueueId} {f : BusFrame} (low : 1 ≤ f.address) (high : f.address ≤ 30) (phase : TxnPhase)
    (quiet : ∀ payload, r ≠ .reply .report payload) :
    endTxn ⟨f, .output q, phase⟩ r s = frameOutcome q r (judgeModule f.address r (txnOver r s)) := by
  have judges : (⟨f, .output q, phase⟩ : Txn).judges = true := by simp [Txn.judges, low, high]
  have none_ (t : State) : reportEvents f.address r t = t := by
    unfold reportEvents
    split
    · rename_i payload
      exact absurd rfl (quiet payload)
    · rfl
  rw [endTxn_eq, judges, if_pos rfl, none_]
  rfl

theorem judgeModule_txn (a : Nat) (r : TxnResult) (s : State) : (judgeModule a r (txnOver r s)).sbc.txn = none :=
  congrArg Sbc.txn ((reaches_judgeModule a r (txnOver r s)).frame .sbc (by decide))

theorem replyComplete_ends {x : Txn} (flight : s.sbc.txn = some x) (receiving : x.phase = .receiving) {characters : List Byte}
    (is : replyResult x.frame characters = some r) : exec (.replyComplete characters) s = .next (endTxn x r s) := by
  refine congrArg Host.Outcome.next ?_
  simp only [flight, receiving, is, if_true]

/-- R131, R132, R136: a reply whole and good. -/
theorem replyResult_good {f : BusFrame} {kind length : Byte} {payload : List Byte} {k : ReplyKind} (is : replyKindOf kind = some k)
    (address : f.replyAddress = a) (high : a ≤ 30) (fits : length.toNat ≤ 32) (whole : payload.length = length.toNat)
    (accepts : (f.accepts k && k.lengthOk payload.length) = true) :
    replyResult f (BitVec.ofNat 8 a :: kind :: length :: (payload ++ [crc8 (BitVec.ofNat 8 a :: kind :: length :: payload)])) =
      some (.reply k payload) := by
  rw [replyResult_judged fits whole]
  have good : (BitVec.ofNat 8 a).toNat = f.replyAddress := by
    rw [address, BitVec.toNat_ofNat]
    omega
  rw [accepts_suits is (whole ▸ fits)] at accepts
  have judged : replyJudged f (BitVec.ofNat 8 a) kind length payload (crc8 (BitVec.ofNat 8 a :: kind :: length :: payload)) =
      if crc8 (BitVec.ofNat 8 a :: kind :: length :: payload) = crc8 (BitVec.ofNat 8 a :: kind :: length :: payload) ∧
        (BitVec.ofNat 8 a).toNat = f.replyAddress ∧ replySuits f kind payload = true then
        ((replyKindOf kind).map (fun k => TxnResult.reply k payload)).getD .corrupt
      else .corrupt := rfl
  rw [judged, if_pos ⟨rfl, good, accepts⟩, is]
  rfl

end

/-! ## The events of a REPORT (R165, R166) -/

section
variable {a : Nat} {stamp : Word32} {control kind low high : Byte} {s : State}

theorem half_value (low high : Byte) : (half low high).toNat = low.toNat + 256 * high.toNat := by
  rw [half, BitVec.toNat_append, Nat.shiftLeft_eq, Nat.mul_comm, ← Nat.two_pow_add_eq_or_of_lt (i := 8) low.isLt]
  omega

/-- R204: the kind and the value, read from the bytes. -/
theorem eventOf_read {controls : Nat} (there : control.toNat < controls) : eventOf a stamp controls control kind low high =
    (eventRead kind low high).map (fun x => ⟨⟨.remote a, control.toNat⟩, x.1, x.2, stamp⟩) := by
  have value := half_value low high
  have signed : (half low high).toInt =
      if low.toNat + 256 * high.toNat < 32768 then ((low.toNat + 256 * high.toNat : Nat) : Int) else (low.toNat + 256 * high.toNat : Nat) - 65536 := by
    rw [BitVec.toInt_eq_toNat_cond, value]
    split <;> split <;> omega
  have small : low.toNat + 256 * high.toNat ≤ 65535 := by omega
  unfold eventOf eventRead eventKindOf
  rw [if_pos there]
  generalize kind.toNat = n
  match n with
  | 0 | 1 | 2 =>
    simp [EventKind.inRange, EventKind.valueOf, value]
    exact if_congr (by omega) rfl rfl
  | 3 => simp [EventKind.inRange, EventKind.valueOf, signed]
  | 4 =>
    simp [EventKind.inRange, EventKind.valueOf, value]
    omega
  | n + 5 => rfl

/-- R165: an event of a module that is there, and joined, at a control that it has. -/
theorem takeEvent_known {e : Entry} (there : s.mtb.entry a = some e) (joined : e.state ≠ .joining) (has : control.toNat < e.controls) :
    takeEvent a stamp control kind low high s = match eventRead kind low high with
      | some (k, v) => deliverEvent ⟨⟨.remote a, control.toNat⟩, k, v, stamp⟩ s
      | none => discardEvent s := by
  simp only [takeEvent, there, if_neg joined, eventOf_read has]
  cases eventRead kind low high <;> rfl

theorem takeEvent_unknown (unknown : ¬ ∃ e, s.mtb.entry a = some e ∧ e.state ≠ .joining ∧ control.toNat < e.controls) :
    takeEvent a stamp control kind low high s = discardEvent s := by
  unfold takeEvent
  split
  · rename_i e there
    split
    · rfl
    · rename_i joined
      have lacks : ¬ control.toNat < e.controls := fun has => unknown ⟨e, there, joined, has⟩
      rw [eventOf, if_neg lacks]
  · rfl

end

/-! ## The stuck bus (R144 to R147) -/

section
variable {s : State}

/-- The bus as it returns to RUNNING, before the scheduler picks. -/
def cleared (s : State) : State :=
  setBus .running .cleared (refreshExpiries (s.withSbc { s.sbc with
    attempt := 0, faultTimer := none, faultAttempt := false, stuckTimer := false, free := true }))

theorem busCleared_eq (s : State) : busCleared s = schedule (cleared s) := rfl

theorem cleared_sbc (s : State) : (cleared s).sbc = { s.sbc with
    bus := .running, attempt := 0, faultTimer := none, faultAttempt := false, stuckTimer := false, free := true } := by
  rw [cleared, setBus_sbc]
  rfl

theorem cleared_mtb (s : State) : (cleared s).mtb =
    { s.mtb with entries := s.mtb.entries.map (fun e => { e with expiry := s.sbc.newExpiry }) } := by
  rw [cleared, setBus_mtb]
  rfl

theorem reaches_cleared (s : State) : Reaches [.records, .sbc, .mtb] s (cleared s) :=
  ((reaches_withSbc s _).andThen (reaches_refreshExpiries _) (rs := [.sbc, .mtb])).andThen (reaches_setBus' ..)

theorem heard_cleared (room : HasRoom 1 s) : Heard (.busState s.sbc.bus .running .cleared s.sbc.stucks) (cleared s) :=
  heard_setBus (s := refreshExpiries (s.withSbc _)) room

theorem busRuns_iff : s.busRuns = decide (s.phase = .running ∧ s.sbc.bus = .running) := by
  simp [State.busRuns, Bool.decide_and]
  rfl

theorem sending_iff : (!s.sending) = decide (s.txnPhase ≠ some .sending) := by
  simp only [State.sending]
  cases h : s.txnPhase == some .sending <;> simp_all

end

end Sys2Proof.Machine

open Sys2Proof.Machine Sys2Proof.Safety in
/-- Settles O49, from what the end of a transaction leaves of the bus. -/
theorem transactionPhases : Obligations.TransactionPhases := by
  refine ⟨fun xs b => ⟨rfl, ?_⟩, fun f address kind length crc payload fits whole => replyResult_judged fits whole,
    fun s => ⟨fun outside => ?_, fun inside => ?_⟩, fun s idle => ?_, fun x s flight => ?_⟩
  · rw [crc8, List.foldl_append]
    rfl
  · refine congrArg Host.Outcome.next (if_neg ?_)
    obtain h | h := outside <;> simp [h]
  · exact congrArg Host.Outcome.next (if_pos inside)
  · show Host.Outcome.next _ = _
    simp only [idle]
    rfl
  · have phase := txnPhase_of flight
    intro moved ended
    have settles (r : TxnResult) (b : Bool) : ended r (endTxn x r (s.withSbc { s.sbc with stuckTimer := b })) := by
      have sbc := endTxn_sbc x r (s.withSbc { s.sbc with stuckTimer := b })
      refine ⟨(congrArg Sbc.txn sbc).trans rfl, (congrArg Sbc.free sbc).trans rfl, (congrArg Sbc.noReplies sbc).trans rfl,
        (congrArg Sbc.corrupts sbc).trans rfl, (congrArg Sbc.bus sbc).trans rfl, ?_⟩
      exact keepsBut_of_reaches ((reaches_withSbc s _).andThen (reaches_endTxn_end x r _) (rs := endParts)) (by decide)
    have ends (r : TxnResult) : ended r (endTxn x r s) := settles r s.sbc.stuckTimer
    refine ⟨fun sending addressed answered => ?_, fun sending silent => ?_, fun awaiting quiet => ?_, fun awaiting quiet => ⟨?_, ?_⟩,
      fun broken awaiting => ⟨?_, ?_⟩, fun open_ => ?_, fun receiving characters r is => ⟨_, replyComplete_ends flight receiving is, ends r⟩,
      fun answering => ?_, fun sending => ?_⟩
    · show Host.Outcome.next _ = _
      have unanswered : x.frame.unanswered = false := by simp [BusFrame.unanswered, addressed, answered]
      simp only [flight, sending, if_true, unanswered, Bool.false_eq_true, if_false, busRuns_iff]
      simp only [enterPhase, State.withSbc_sbc]
      rfl
    · have unanswered : x.frame.unanswered = true := by simpa [BusFrame.unanswered] using silent
      refine ⟨_, ?_, settles .sent (s.sbc.stuckTimer || (s.sbc.lineBreak && s.busRuns))⟩
      show Host.Outcome.next _ = _
      simp only [flight, sending, if_true, unanswered]
    · show Host.Outcome.next _ = _
      rw [if_pos ⟨by rw [phase, awaiting], quiet⟩]
      simp only [enterPhase, flight]
      rfl
    · refine ⟨_, ?_, ends .noReply⟩
      show Host.Outcome.next _ = _
      rw [quiet, if_neg (by simp), endTxnIn_of flight (by simp [awaiting])]
    · show Host.Outcome.next _ = _
      rw [quiet, if_neg (by simp), endTxnIn_still]
      intro y hy
      rw [flight] at hy
      cases hy
      simp [awaiting]
    · exact congrArg Host.Outcome.next (if_neg fun h => by simp [broken] at h)
    · exact congrArg Host.Outcome.next (if_pos broken)
    · refine ⟨_, ?_, ends .corrupt⟩
      show Host.Outcome.next _ = _
      rw [endTxnIn_of flight]
      obtain receiving | ⟨awaiting, broken⟩ := open_
      · split <;> simp [receiving]
      · simp [awaiting, broken]
    · refine congrArg Host.Outcome.next (if_pos ?_)
      rw [phase]
      cases is : x.phase
      case sending => exact absurd is answering
      case awaiting => exact Or.inl rfl
      case receiving => exact Or.inr rfl
    · refine congrArg Host.Outcome.next (if_neg ?_)
      simp [phase, sending]

open Sys2Proof.Machine Sys2Proof.Safety in
/-- Settles O50, by the judgement of the entry and the event at the head of a REPORT. -/
theorem moduleJudgement : Obligations.ModuleJudgement := by
  refine ⟨fun a e phase s low high modules there known => ?_, fun a stamp s => rfl, fun a stamp control kind low high rest s => ?_⟩
  · obtain ⟨-, ascending, -⟩ := modules
    have asc : Ascending s.mtb.entries := List.pairwise_map.mp ascending
    intro better worse reply
    have judged {r : TxnResult} {q : Nat} {x : Sys2Proof.Word32}
        (is : e.judged r s.sbc.newExpiry = { e with quality := q, state := restated e.state q, expiry := x }) :
        entryJudged a e q x s (judgeModule a r (txnOver r s)) :=
      entryJudged_txnOver (entryJudged_judgeModule (s := txnOver r s) asc there known
        (Eq.trans (by cases r <;> rfl) is))
    have good {r : TxnResult} (is : e.judged r s.sbc.newExpiry = { e.recount (e.quality - 1) with expiry := s.sbc.newExpiry }) :
        better (judgeModule a r (txnOver r s)) := judged (is.trans (by rw [Entry.recount, reevaluated_restated]; rfl))
    have bad {r : TxnResult} (is : e.judged r s.sbc.newExpiry = e.recount (min 255 (e.quality + 8))) :
        worse (judgeModule a r (txnOver r s)) := judged (is.trans (by rw [Entry.recount, reevaluated_restated]))
    refine ⟨fun flight => ⟨fun awaiting quiet => ?_, fun receiving => ?_, fun receiving => ?_, fun receiving n payload whole fits words => ?_⟩,
      fun q f flight address kinds => ?_⟩
    · refine ⟨_, ?_, bad (r := .noReply) rfl⟩
      show Host.Outcome.next _ = _
      rw [quiet, if_neg (by simp), endTxnIn_of flight (by simp [awaiting]), endTxn_round low high]
      rfl
    · refine ⟨_, ?_, bad (r := .corrupt) rfl⟩
      show Host.Outcome.next _ = _
      rw [endTxnIn_of flight (by split <;> simp [receiving]), endTxn_round low high]
      rfl
    · refine ⟨_, ?_, good (r := .reply .empty []) rfl⟩
      dsimp only [reply]
      rw [replyComplete_ends flight receiving (replyResult_good (a := a) (kind := 0x82) (length := 0) (payload := []) (k := .empty) rfl rfl high
        (by decide) rfl rfl), endTxn_round low high]
      rfl
    · have counter : (judgeModule a (.reply .report payload) (txnOver (.reply .report payload) s)).cku.counter = s.cku.counter :=
        congrArg Cku.counter ((reaches_judgeModule a (.reply .report payload) (txnOver _ s)).frame .cku (by decide))
      refine ⟨_, good (r := .reply .report payload) rfl, judgeModule_txn .., ?_⟩
      dsimp only [reply]
      rw [replyComplete_ends flight receiving (replyResult_good (a := a) (kind := 0x81) (k := .report) rfl rfl high fits whole
        (by simp [BusFrame.accepts, ReplyKind.lengthOk, whole, fits, words])), endTxn_round low high]
      show Host.Outcome.next (takeEvents a (lowStamp (judgeModule a (.reply .report payload) (txnOver (.reply .report payload) s)).cku.counter)
        payload _) = _
      rw [counter]
      rfl
    · have answers : f.replyAddress = a ∧ f.accepts .ack = true ∧ f.accepts .nak = true ∧ f.accepts .wait = true := by
        rw [← address]
        obtain kind | kind | kind | kind := kinds <;> simp [BusFrame.replyAddress, BusFrame.accepts, kind]
      obtain ⟨mine, ack, nak, wait⟩ := answers
      subst address
      refine ⟨⟨_, good (r := .reply .ack []) rfl, judgeModule_txn .., ?_⟩, ⟨_, good (r := .reply .nak []) rfl, judgeModule_txn .., ?_⟩,
        txnOver (.reply .wait []) s, rfl, keepsBut_of_reaches (reaches_withSbc s _) fun _ => id, ?_⟩
      · dsimp only [reply]
        rw [replyComplete_ends flight rfl (replyResult_good (a := f.address) (kind := 0x85) (length := 0) (payload := []) (k := .ack) rfl mine high (by decide) rfl
          (by rw [ack]; rfl)), endTxn_output low high _ (by simp)]
      · dsimp only [reply]
        rw [replyComplete_ends flight rfl (replyResult_good (a := f.address) (kind := 0x86) (length := 0) (payload := []) (k := .nak) rfl mine high (by decide) rfl
          (by rw [nak]; rfl)), endTxn_output low high _ (by simp)]
      · dsimp only [reply]
        rw [replyComplete_ends flight rfl (replyResult_good (a := f.address) (kind := 0x87) (length := 0) (payload := []) (k := .wait) rfl mine high (by decide) rfl
          (by rw [wait]; rfl)), endTxn_output low high _ (by simp), judgeModule_wait (s := txnOver _ s) asc there known]
  · intro more known
    have first : takeEvents a stamp (control :: kind :: low :: high :: rest) s = more (takeEvent a stamp control kind low high s) := by
      rw [takeEvents]
    refine ⟨fun bad => ?_, fun good k v is => ?_⟩
    · rw [first]
      refine congrArg more ?_
      by_cases h : known
      · obtain ⟨e, there, joined, has⟩ := h
        have none_ := bad.resolve_left (not_not.mpr ⟨e, there, joined, has⟩)
        rw [takeEvent_known there joined has, none_]
        rfl
      · exact takeEvent_unknown h
    · obtain ⟨e, there, joined, has⟩ := good
      intro event
      rw [first, takeEvent_known there joined has, is]
      rfl

open Sys2Proof.Machine Sys2Proof.Safety in
/-- Settles O51, by the bus states in which each row acts. -/
theorem stuckBus : Obligations.StuckBus := by
  intro quiet s timed
  have isTimed : (s.sbc.stuckTimer || (s.busRuns && !s.sending)) = timed := by
    rw [busRuns_iff, sending_iff, ← Bool.decide_and]
    simp only [timed, and_assoc]
  have starts : exec .lineBreakStart s = .next (endTxnIn [.awaiting, .receiving] .corrupt
      (s.withSbc { s.sbc with lineBreak := true, free := false, stuckTimer := timed })) := by
    rw [← isTimed]
    rfl
  refine ⟨fun outside => ?_, fun inside => ?_, rfl, fun running timer => ?_, fun rests => ?_, fun rests => ?_, fun works => ⟨fun free calm none_ => ?_, fun busy => ?_⟩,
    fun n fault timer => ?_, ?_⟩
  · rw [starts, endTxnIn_still]
    · rfl
    · intro x flight among
      have phase := txnPhase_of (s := s) flight
      obtain h | h := outside
      · rw [phase] at h
        cases h
      · rw [phase, Option.some.injEq] at h
        rw [h] at among
        simp at among
  · obtain ⟨x, flight, among⟩ : ∃ x, s.sbc.txn = some x ∧ x.phase ∈ [TxnPhase.awaiting, .receiving] := by
      obtain h | h := inside <;> obtain ⟨x, flight, is⟩ := phase_of_txnPhase h <;> exact ⟨x, flight, by simp [is]⟩
    have sbc := endTxn_sbc x .corrupt (s.withSbc { s.sbc with lineBreak := true, free := false, stuckTimer := timed })
    exact ⟨_, starts.trans (congrArg Host.Outcome.next (endTxnIn_of flight among)), (congrArg Sbc.lineBreak sbc).trans rfl, (congrArg Sbc.free sbc).trans rfl, (congrArg Sbc.stuckTimer sbc).trans rfl,
      (congrArg Sbc.txn sbc).trans rfl, (congrArg Sbc.corrupts sbc).trans rfl⟩
  · show Host.Outcome.next _ = _
    rw [if_pos ⟨running, timer⟩, setBus]
    simp only [State.withSbc_sbc, running]
    rfl
  · refine congrArg Host.Outcome.next (if_neg ?_)
    rintro ⟨running, timer⟩
    obtain h | h := rests
    · exact h running
    · simp [h] at timer
  · show Host.Outcome.next _ = _
    obtain h | h | ⟨h, attempt⟩ := rests
    · simp only [h]
    · simp only [h]
    · simp [h, attempt]
  · have is : exec (.clearingCheckEnd quiet) s = .next (schedule (cleared s)) := by
      show Host.Outcome.next _ = _
      rw [← busCleared_eq]
      obtain h | ⟨h, attempt⟩ := works
      · simp [h, free, calm]
      · simp [h, attempt, free, calm]
    have sbc := cleared_sbc s
    have sent := reaches_schedule_unanswered (s := cleared s) (by rw [sbc]; exact none_)
    have after := schedule_sbc (cleared s)
    rw [sbc] at after
    refine ⟨_, is, congrArg Sbc.bus after, congrArg Sbc.attempt after, congrArg Sbc.faultTimer after, congrArg Sbc.faultAttempt after,
      Eq.trans (sent.frame .mtb (by decide)) (cleared_mtb s),
      keepsBut_of_reaches ((reaches_cleared s).andThen sent (rs := [.records, .sbc, .mtb, .sou])) fun _ => id, fun room => ?_⟩
    exact (stays_schedule (cleared s)).heard _ (by simp [NoticeBody.Alone, NoticeBody.code]) (heard_cleared room)
  · have stopped : (quiet && !s.sbc.lineBreak) = false := by
      obtain h | h := busy <;> simp [h]
    refine ⟨fun clearing few => ?_, fun clearing many => ?_, fun fault => ?_⟩
    · show Host.Outcome.next _ = _
      simp only [clearing, stopped, Bool.false_eq_true, if_false, if_pos few]
      rfl
    · show Host.Outcome.next _ = _
      simp only [clearing, stopped, Bool.false_eq_true, if_false, if_neg (Nat.not_lt.mpr many), setBus, waitRetry, State.withSbc_sbc]
      rfl
    · have attempt : s.sbc.faultAttempt = true := by
        obtain h | ⟨-, h⟩ := works
        · simp [fault] at h
        · exact h
      show Host.Outcome.next _ = _
      simp only [fault, stopped, attempt, Bool.false_eq_true, if_false, if_true, waitRetry, State.withSbc]
  · show Host.Outcome.next _ = _
    rw [if_pos ⟨fault, by simp [timer]⟩]
    rfl
  · have reach := ((reaches_withSbc s { s.sbc with millis := s.sbc.millis + 1, faultTimer := s.sbc.faultTimer.map (· - 1) }).andThen
      (reaches_withCku _ s.cku.countDown) (rs := [.sbc, .cku])).andThen
      (reaches_withPtu _ (s.ptu.map (fun p => { p with resetTimer := p.resetTimer.map (· - 1) }))) (rs := [.sbc, .cku, .ptu])
    exact ⟨_, rfl, rfl, rfl, rfl, keepsBut_of_reaches reach fun _ => id⟩

end

section
/-! PROOFS. The search's results, modules forgotten, purges and filters (O52, O53). -/

namespace Sys2Proof.Machine
open Safety

/-! ## Frames that end together (R181, R182) -/

section

/-- R181: the record that a frame leaves. -/
def historyTold (r : FrameResult) (millis : Word32) (f : QFrame) : HistoryRecord :=
  ⟨f.tag, f.frame.address, f.frame.kind, r, f.attempts, millis⟩

/-- The history after one more record, and after further ones: the last 16. -/
theorem kept_drop {α : Type} {h : List α} (short : h.length ≤ 16) (x : α) (rest : List α) :
    (((if 16 ≤ h.length then h.drop 1 else h) ++ [x]).length ≤ 16) ∧
    (((if 16 ≤ h.length then h.drop 1 else h) ++ [x]) ++ rest).drop
      (((if 16 ≤ h.length then h.drop 1 else h) ++ [x]).length + rest.length - 16) =
      (h ++ x :: rest).drop (h.length + (x :: rest).length - 16) := by
  split
  · have full : h.length = 16 := by omega
    cases h with
    | nil => simp at full
    | cons y ys =>
      have long : ys.length = 15 := by simpa using full
      simp [long]
  · refine ⟨by simp; omega, ?_⟩
    simp only [List.append_assoc, List.singleton_append, List.length_append, List.length_cons, List.length_nil]
    congr 1
    omega

theorem notify_withSou (b : NoticeBody) (o : Sou) (s : State) : (notify b s).withSou o = notify b (s.withSou o) := by
  simp only [notify_eq]
  rfl

/-- R181: the frames of the host. -/
def hosted (fs : List QFrame) : List QFrame := fs.filter (fun f => decide (f.origin = .host))

/-- R181: the history after the end of frames of the host, the last 16 records. -/
def historyAfter (r : FrameResult) (gone : List QFrame) (s : State) : List HistoryRecord :=
  (s.sou.history ++ gone.map (historyTold r s.sbc.millis)).drop (s.sou.history.length + gone.length - 16)

/-- R182: the notices that frames of the host ask for. -/
def endsTold (r : FrameResult) (gone : List QFrame) (s : State) : List NoticeBody :=
  (gone.filter (fun f => f.notify)).map (fun f => .surfaceDone (historyTold r s.sbc.millis f))

/-- R181, R182: records of those of the host, and notices. -/
theorem endFrames_told (r : FrameResult) (fs : List QFrame) (s : State) (short : s.sou.history.length ≤ 16) :
    endFrames r fs s =
      notifyAll (endsTold r (hosted fs) s) (s.withSou { s.sou with history := historyAfter r (hosted fs) s }) := by
  induction fs generalizing s with
  | nil =>
    have all : historyAfter r [] s = s.sou.history := by
      simp [historyAfter, Nat.sub_eq_zero_of_le short]
    rw [show hosted [] = [] from rfl, all]
    rfl
  | cons f rest ih =>
    rw [endFrames]
    by_cases host : f.origin = .host
    · obtain ⟨fits, same⟩ := kept_drop short (historyTold r s.sbc.millis f) ((hosted rest).map (historyTold r s.sbc.millis))
      rw [List.length_map, List.length_cons, List.length_map] at same
      obtain ⟨t, ht⟩ : ∃ t, t = s.withSou { s.sou with history :=
        (if 16 ≤ s.sou.history.length then s.sou.history.drop 1 else s.sou.history) ++ [historyTold r s.sbc.millis f] } := ⟨_, rfl⟩
      have ended : endFrame f r s = if f.notify then notify (.surfaceDone (historyTold r s.sbc.millis f)) t else t := by
        rw [endFrame, if_pos host, ht]
        rfl
      have all : hosted (f :: rest) = f :: hosted rest := List.filter_cons_of_pos (by simp [host])
      have history : historyAfter r (hosted rest) t = historyAfter r (f :: hosted rest) s := by
        rw [historyAfter, ht]
        exact same
      have later := ih t (by rw [ht]; exact fits)
      rw [history] at later
      rw [ended, all]
      cases told : f.notify with
      | false =>
        have notices : endsTold r (f :: hosted rest) s = endsTold r (hosted rest) t := by
          rw [endsTold, List.filter_cons_of_neg (by simp [told]), ht]
          rfl
        rw [if_neg (by simp), later, notices, ht]
        rfl
      | true =>
        have notices : endsTold r (f :: hosted rest) s = .surfaceDone (historyTold r s.sbc.millis f) :: endsTold r (hosted rest) t := by
          rw [endsTold, List.filter_cons_of_pos (by simp [told]), ht]
          rfl
        have short' : (notify (.surfaceDone (historyTold r s.sbc.millis f)) t).sou.history.length ≤ 16 := by
          rw [notify_eq, ht]
          exact fits
        rw [if_pos rfl, ih _ short', notices, notifyAll, notify_withSou, ht]
        have untold : endsTold r (hosted rest) (notify (.surfaceDone (historyTold r s.sbc.millis f)) t) = endsTold r (hosted rest) t := by
          rw [notify_eq]
          rfl
        have unkept : historyAfter r (hosted rest) (notify (.surfaceDone (historyTold r s.sbc.millis f)) t) =
            historyAfter r (f :: hosted rest) s := by
          rw [notify_eq]
          exact history
        rw [← ht, untold, unkept, ht]
        simp only [notify_eq]
        rfl
    · have none_ : hosted (f :: rest) = hosted rest := List.filter_cons_of_neg (by simp [host])
      rw [endFrame, if_neg host, ih s short, none_]

end

/-! ## The purge of an address (R179) -/

section
variable {s : State}

/-- R179: a queue after the purge of an address. -/
def purgedQueue (a : Nat) (fs : List QFrame) : List QFrame :=
  (fs.filter (fun f => !decide (f.frame.address = a ∧ f.inFlight = false))).map (fun f =>
    if f.frame.address = a then { f with mark := some (f.mark.getD .purged) } else f)

theorem withdraw_purged (a : Nat) (fs : List QFrame) :
    withdraw (fun f => f.frame.address == a) .purged fs =
      (purgedQueue a fs, fs.filter (fun f => decide (f.frame.address = a ∧ f.inFlight = false))) := by
  rw [withdraw_eq, purgedQueue]
  refine Prod.ext ?_ ?_
  · show List.map _ (List.filter _ fs) = List.map _ (List.filter _ fs)
    congr 1
    · funext f
      by_cases here : f.frame.address = a <;> simp [here]
    · refine List.filter_congr fun f _ => ?_
      by_cases here : f.frame.address = a <;> cases f.inFlight <;> simp [here]
  · refine List.filter_congr fun f _ => ?_
    by_cases here : f.frame.address = a <;> cases f.inFlight <;> simp [here]

theorem purge_queues (a : Nat) (s : State) : ∃ history, (purge a s).sou =
    ⟨purgedQueue a s.sou.urgent, purgedQueue a s.sou.normal, purgedQueue a s.sou.meter, history⟩ := by
  refine ⟨(purge a s).sou.history, ?_⟩
  unfold purge
  simp only [withdraw_purged]
  rw [endFrames_eq]
  rfl

/-- A frame to another address stays as it is. -/
theorem mem_purgedQueue {a : Nat} {fs : List QFrame} {f : QFrame} (other : f.frame.address ≠ a) (hf : f ∈ fs) : f ∈ purgedQueue a fs := by
  rw [purgedQueue, List.mem_map]
  exact ⟨f, List.mem_filter.mpr ⟨hf, by simp [other]⟩, if_neg other⟩

theorem frame_of_purgedQueue {a : Nat} {fs : List QFrame} {f : QFrame} (hf : f ∈ purgedQueue a fs) : ∃ g ∈ fs, g.frame = f.frame := by
  rw [purgedQueue, List.mem_map] at hf
  obtain ⟨g, hg, rfl⟩ := hf
  refine ⟨g, List.mem_of_mem_filter hg, ?_⟩
  split <;> rfl

theorem purgedQueue_length (a : Nat) (fs : List QFrame) : (purgedQueue a fs).length ≤ fs.length := by
  rw [purgedQueue, List.length_map]
  exact List.length_filter_le ..

end

/-! ## A module removed (R153) -/

section
variable {s : State} {o : Option Owner}

/-- R179, R181, R182: the purge of an address, with its records and its notices. -/
theorem purge_eq (a : Nat) (s : State) (short : s.sou.history.length ≤ 16) :
    purge a s = notifyAll
      (endsTold .purged (hosted ((s.sou.urgent ++ s.sou.normal ++ s.sou.meter).filter
        (fun f => decide (f.frame.address = a ∧ f.inFlight = false)))) s)
      (s.withSou ⟨purgedQueue a s.sou.urgent, purgedQueue a s.sou.normal, purgedQueue a s.sou.meter,
        historyAfter .purged (hosted ((s.sou.urgent ++ s.sou.normal ++ s.sou.meter).filter
          (fun f => decide (f.frame.address = a ∧ f.inFlight = false)))) s⟩) := by
  unfold purge
  simp only [withdraw_purged, List.filter_append]
  exact endFrames_told .purged _ (s.withSou _) short

theorem blocks_le_of_sound {q : QueueId} {f : QFrame} (sound : FrameSound q f) : f.blocks ≤ 3 := by
  obtain ⟨-, -, -, host, feedback, meter, removal, -⟩ := sound
  have short : f.frame.payload.length ≤ 32 := by
    cases origin : f.origin with
    | host => exact (host origin).2.1
    | feedback => rw [(feedback origin).2.1]; decide
    | meter => rw [(meter origin).2.1]; decide
    | removal => rw [(removal origin).2.1]; decide
  rw [QFrame.blocks]
  omega

theorem blocksOf_le {q : QueueId} {fs : List QFrame} (sound : ∀ f ∈ fs, FrameSound q f) : blocksOf fs ≤ 3 * fs.length := by
  induction fs with
  | nil => exact Nat.le_refl _
  | cons f rest ih =>
    have first := blocks_le_of_sound (sound f (by simp))
    have others := ih fun g hg => sound g (by simp [hg])
    rw [blocksOf_cons, List.length_cons]
    omega

/-- All but the frame in flight may leave a queue. -/
theorem blocksOf_droppable {q : QueueId} {fs : List QFrame} (law : QueueLaw o q fs) : blocksOf fs ≤ droppable fs + 3 := by
  cases fs with
  | nil => exact Nat.zero_le _
  | cons f rest =>
    have first := blocks_le_of_sound (law.frames f (by simp))
    have behind : rest.filter (fun f => !f.inFlight) = rest := List.filter_eq_self.mpr fun g hg => by simp [law.behind g hg]
    rw [droppable, List.filter_cons, behind, blocksOf_cons]
    split
    · rw [blocksOf_cons]
      omega
    · omega

theorem take_room {u : Sou} {q : QueueId} {f : QFrame} (place : (u.queue q).length < queueCapacity q)
    (room : f.blocks ≤ u.freeBlocks + (droppable u.meter + (if q = .meter then 0 else droppable u.normal))) :
    ∃ after dropped, u.take q f = .appended after dropped := by
  unfold Sou.take
  rw [if_neg (Nat.not_le.mpr place)]
  simp only []
  rw [if_neg (Nat.not_lt.mpr room)]
  exact ⟨_, _, rfl⟩

/-- A RELEASE frame always finds blocks: URGENT holds at most 8 frames of 3 blocks, and what else is in the pool, but a frame in
flight, may leave (R173, R175). -/
theorem release_joins (law : QueuesLaw o s.sou) (a : Nat) (place : s.sou.urgent.length < 8) :
    (handFrame .urgent (releaseFrame a) s).sou.urgent = s.sou.urgent ++ [releaseFrame a] := by
  have urgent := blocksOf_le (law.queue .urgent).frames
  have normal := blocksOf_droppable (law.queue .normal)
  have meter := blocksOf_droppable (law.queue .meter)
  have pool := law.pool
  have one : (releaseFrame a).blocks = 1 := by simp [QFrame.blocks, releaseFrame, newFrame]
  simp only [Sou.queue, Sou.used] at urgent normal meter pool
  have alone : (s.sou.queue .urgent).any ((releaseFrame a).coalesces ·) = false := by
    simp [QFrame.coalesces, releaseFrame, newFrame]
  obtain ⟨after, dropped, taken⟩ := take_room (q := .urgent) (f := releaseFrame a) place (by
    simp only [one, Sou.freeBlocks, Sou.used, reduceCtorEq, if_false]
    omega)
  obtain ⟨_, _, _, _, _, _, -, -, -, -, is, -⟩ := take_appended taken
  rw [handFrame, if_neg (by simp [alone]), taken]
  show (endFrames .dropped dropped (s.withSou after)).sou.urgent = _
  rw [endFrames_eq, is]
  rfl

/-- What the removal of a module leaves before its RELEASE (R153 steps 1 to 5). -/
def removed (a : Nat) (e : Entry) (d : ModuleDetail) (s : State) : State := orphanModule a (purge a (unlist a e d s))

theorem removed_sou (a : Nat) (e : Entry) (d : ModuleDetail) (s : State) : ∃ history, (removed a e d s).sou =
    ⟨purgedQueue a s.sou.urgent, purgedQueue a s.sou.normal, purgedQueue a s.sou.meter, history⟩ := by
  obtain ⟨history, is⟩ := purge_queues a (unlist a e d s)
  have same : (unlist a e d s).sou = s.sou := (reaches_unlist a e d s).frame .sou (by decide)
  have after : (removed a e d s).sou = (purge a (unlist a e d s)).sou := (reaches_orphanModule a _).frame .sou (by decide)
  exact ⟨history, by rw [after, is, same]⟩

theorem queuesLaw_removed (law : QueuesLaw o s.sou) (a : Nat) (e : Entry) (d : ModuleDetail) : QueuesLaw o (removed a e d s).sou := by
  have same : (unlist a e d s).sou = s.sou := (reaches_unlist a e d s).frame .sou (by decide)
  have after : (removed a e d s).sou = (purge a (unlist a e d s)).sou := (reaches_orphanModule a _).frame .sou (by decide)
  rw [after]
  exact queuesLaw_purge (same ▸ law) a

/-- R153: what a removal tells and leaves. -/
theorem moduleGone_removeModule {a : Nat} {e : Entry} (there : s.mtb.entry a = some e) (d : ModuleDetail) :
    moduleGone e d s (removeModule a d s) := by
  obtain ⟨-, rfl⟩ := entry_mem there
  have after : Stays (unlist e.address e d s) (removed e.address e d s) :=
    (stays_purge e.address _).trans (stays_of_reaches (reaches_orphanModule e.address _))
  have sbc : (removed e.address e d s).sbc = (unlist e.address e d s).sbc :=
    ((reaches_purge e.address _).andThen (reaches_orphanModule e.address _) (rs := [.records, .sou, .rme, .bdt])).frame .sbc (by decide)
  have round : (removed e.address e d s).sbc.roundList = s.sbc.roundList.filter (fun b => b != e.address) := by
    rw [sbc]
    simp only [unlist, notify_eq]
    rfl
  have bdt := (orphanModule_spec e.address (purge e.address (unlist e.address e d s))).2.2
  have gone : moduleGone e d s (removed e.address e d s) := by
    refine ⟨fun room => after.heard _ (by simp [NoticeBody.Alone, NoticeBody.code]) ?_, round, fun b hb active remote => ?_⟩
    · exact (stays_of_reaches (reaches_withSbc _ _)).heard _ (by simp [NoticeBody.Alone, NoticeBody.code]) (heard_notify (s := s.withMtb _) room)
    · rw [removed, bdt, List.mem_map] at hb
      obtain ⟨c, -, rfl⟩ := hb
      split at active
      · cases active
      · rename_i stays
        rw [if_neg stays] at remote
        exact stays (by simp [active, remote])
  rw [removeModule_of_some d there]
  split
  · exact gone
  · obtain ⟨told, list, bound⟩ := gone
    have hands := reaches_handFrame .urgent (releaseFrame e.address) (removed e.address e d s)
    have kept : (handFrame .urgent (releaseFrame e.address) (removed e.address e d s)).sbc = (removed e.address e d s).sbc :=
      hands.frame .sbc (by decide)
    have binds : (handFrame .urgent (releaseFrame e.address) (removed e.address e d s)).bdt = (removed e.address e d s).bdt :=
      hands.frame .bdt (by decide)
    exact ⟨fun room => (stays_handFrame ..).heard _ (by simp [NoticeBody.Alone, NoticeBody.code]) (told room), by
      rw [← list, ← kept]
      rfl, fun b hb => bound b (binds ▸ hb)⟩

theorem queuesLaw_removeModule (law : QueuesLaw o s.sou) {a : Nat} (small : a ≤ 30) (d : ModuleDetail) :
    QueuesLaw o (removeModule a d s).sou := by
  cases there : s.mtb.entry a with
  | none =>
    rw [removeModule_of_none d there]
    exact law
  | some e =>
    have gone := queuesLaw_removed law a e d
    have sound : FrameSound .urgent (releaseFrame a) := ⟨Nat.le_of_ble_eq_true rfl, Nat.zero_lt_succ _, small, nofun, nofun, nofun,
      fun _ => ⟨rfl, rfl, rfl⟩, fun _ => ⟨rfl, rfl⟩, fun _ => ⟨rfl, rfl⟩⟩
    rw [removeModule_of_some d there]
    split
    · exact gone
    · exact queuesLaw_handFrame gone sound rfl nofun

/-- R153 step 6: the RELEASE joins the tail of URGENT. -/
theorem removeModule_urgent (law : QueuesLaw o s.sou) {a : Nat} {e : Entry} (there : s.mtb.entry a = some e) {d : ModuleDetail}
    (confirmed : d ≠ .noConfirm) (place : s.sou.urgent.length < 8) :
    (removeModule a d s).sou.urgent = purgedQueue a s.sou.urgent ++ [releaseFrame a] := by
  obtain ⟨history, sou⟩ := removed_sou a e d s
  have urgent : (removed a e d s).sou.urgent = purgedQueue a s.sou.urgent := by rw [sou]
  rw [removeModule_of_some d there, if_neg confirmed]
  show (handFrame .urgent (releaseFrame a) (removed a e d s)).sou.urgent = _
  have fewer := purgedQueue_length a s.sou.urgent
  rw [release_joins (queuesLaw_removed law a e d) a (by rw [urgent]; omega), urgent]

end

/-! ## The search's steps (R156 to R159) -/

section
variable {s : State}

theorem stepOver_settled {x : Search} (answer : x.answer = none) (ending : x.ending = false) :
    x.stepOver = if x.stack = [] then Search.idle else { x with step := none } := by
  unfold Search.stepOver Search.settled
  cases x.stack <;> simp [ending, answer]

theorem stepOver_kept {x : Search} (ending : x.ending = false) (kept : x.answer ≠ none ∨ x.stack ≠ []) : x.stepOver = { x with step := none } := by
  unfold Search.stepOver Search.settled
  obtain h | h := kept <;> simp [ending, h]

/-- R156: an entry of the stack that can be split. -/
theorem collide_split {p : Stem} (ending : s.sbc.search.ending = false) (short : p.length < 48) : collide p s =
    setSearch { s.sbc.search with step := none, stack := p.longer false :: p.longer true :: s.sbc.search.stack } s := by
  simp only [collide, if_pos short]
  exact congrArg (setSearch · s) (stepOver_kept ending (Or.inr (by simp)))

theorem collide_whole {p : Stem} (answer : s.sbc.search.answer = none) (ending : s.sbc.search.ending = false) (whole : p.length = 48) :
    collide p s = notify (refusedNotice p.value .duplicateSerial)
      (setSearch (if s.sbc.search.stack = [] then Search.idle else { s.sbc.search with step := none }) s) := by
  simp only [collide, whole, Nat.lt_irrefl, if_false, stepOver_settled answer ending]

theorem stepResult_call {p : Stem} (step : s.sbc.search.step = some (.call p)) (r : TxnResult) : stepResult r s = callResult p r s := by
  simp only [stepResult, step]

theorem stepResult_assign {n : Nat} {serial : Serial} {from_ : Option ModuleState} (step : s.sbc.search.step = some (.assign n serial from_))
    (r : TxnResult) : stepResult r s = assignResult n serial from_ r s := by
  simp only [stepResult, step]

theorem unheld_letGo (a : Nat) (l : GainRec) : l.unheld (fun c => c.origin == .remote a) = letGo a l := by
  unfold GainRec.unheld letGo
  cases h : l.holder <;> simp

/-! ### The assign step (R158) -/

theorem rejoin_mtb (a : Answer) (e : Entry) (s : State) : (rejoin a e s).1.mtb = (putEntry { e with
    kind := a.kind, controls := a.controls, touch := a.touch, meters := a.meters, state := .joining, quality := 0 } s).mtb := by
  cases touch : a.touch <;> simp only [rejoin, touch] <;> rfl

theorem rejoin_rme (a : Answer) (e : Entry) (s : State) : (rejoin a e s).1.rme = if a.touch = true then s.rme else { s.rme with
    routes := s.rme.routes.map (fun r => { r with level := letGo e.address r.level }), buses := s.rme.buses.map (letGo e.address) } := by
  have is : letGo e.address = fun l => l.unheld (fun c => c.origin == .remote e.address) := funext fun l => (unheld_letGo ..).symm
  cases touch : a.touch
  · simp only [rejoin, touch, Bool.false_eq_true, if_false, is]
    rfl
  · simp only [rejoin, touch, if_true]
    rfl

theorem earliest_mem {millis : Word32} (es : List Entry) {b : Option Entry} {x : Entry} (is : es.foldl (earlier millis) b = some x) :
    b = some x ∨ x ∈ es := by
  induction es generalizing b with
  | nil => exact .inl is
  | cons y rest ih =>
    obtain first | later := ih is
    · unfold earlier at first
      split at first
      · cases first
        exact .inr (by simp)
      · split at first
        · cases first
          exact .inr (by simp)
        · exact .inl first
    · exact .inr (by simp [later])

theorem earliest_stays {millis : Word32} {e : Entry} {es : List Entry} (least : ∀ x ∈ es, e.due millis ≤ x.due millis) :
    es.foldl (earlier millis) (some e) = some e := by
  induction es with
  | nil => rfl
  | cons y rest ih =>
    have stays : earlier millis (some e) y = some e := by
      simp only [earlier, if_neg (Int.not_lt.mpr (least y (by simp)))]
    rw [List.foldl_cons, stays]
    exact ih fun x hx => least x (by simp [hx])

/-- R158 case 3: the one whose expiry lies earliest, the lowest address on a tie. -/
theorem earliest_eq {millis : Word32} {es : List Entry} (asc : Ascending es) {e : Entry} (he : e ∈ es)
    (least : ∀ x ∈ es, e.due millis < x.due millis ∨ e.due millis = x.due millis ∧ e.address ≤ x.address) :
    es.foldl (earlier millis) none = some e := by
  obtain ⟨before, after, rfl⟩ := List.append_of_mem he
  rw [Ascending, List.pairwise_append] at asc
  have first : earlier millis (before.foldl (earlier millis) none) e = some e := by
    cases best : before.foldl (earlier millis) none with
    | none => rfl
    | some x =>
      obtain none_ | mem := earliest_mem before best
      · cases none_
      · have below := asc.2.2 x mem e (by simp)
        have later : e.due millis < x.due millis := by
          obtain sooner | ⟨-, above⟩ := least x (by simp [mem])
          · exact sooner
          · omega
        simp only [earlier, if_pos later]
  rw [List.foldl_append, List.foldl_cons, first]
  refine earliest_stays fun x hx => ?_
  obtain sooner | ⟨same, -⟩ := least x (by simp [hx])
  · exact Int.le_of_lt sooner
  · exact Int.le_of_eq same

theorem lowestAddress_some (few : s.mtb.entries.length ≤ 16) (short : s.sou.urgent.length ≤ 8) : ∃ n, s.lowestAddress = some n ∧
    1 ≤ n ∧ n ≤ 30 ∧ s.addressFree n = true ∧ ∀ m, 1 ≤ m → m < n → s.addressFree m = false := by
  have some_ : s.lowestAddress.isSome = true := by
    rw [Option.isSome_iff_ne_none]
    intro none_
    rw [State.lowestAddress, List.find?_eq_none] at none_
    have taken : (List.range 30).map (· + 1) ⊆ s.mtb.entries.map (fun e => e.address) ++ s.sou.urgent.map (fun f => f.frame.address) := by
      intro n hn
      have busy := none_ n hn
      rw [List.mem_append, List.mem_map, List.mem_map]
      by_contra free
      rw [not_or] at free
      obtain ⟨entries, frames⟩ := free
      refine busy ?_
      rw [State.addressFree, Bool.and_eq_true, Option.isNone_iff_eq_none, entry_none, Bool.not_eq_true', List.any_eq_false]
      refine ⟨fun e he same => entries ⟨e, he, same⟩, fun f hf same => frames ⟨f, hf, ?_⟩⟩
      simp at same
      exact same.2
    have nodup : ((List.range 30).map (· + 1)).Nodup := List.nodup_range.map (add_left_injective 1)
    have long := (List.subperm_of_subset nodup taken).length_le
    simp only [List.length_map, List.length_range, List.length_append] at long
    omega
  obtain ⟨n, found⟩ := Option.isSome_iff_exists.mp some_
  obtain ⟨-, low, high, -⟩ := lowestAddress_free found
  refine ⟨n, found, low, high, List.find?_some found, fun m one below => ?_⟩
  rw [State.lowestAddress, List.find?_map, Option.map_eq_some_iff] at found
  obtain ⟨k, found, rfl⟩ := found
  rw [List.find?_range_eq_some] at found
  have first := found.2.2 (m - 1) (by omega)
  simpa [Nat.sub_add_cancel one] using first

/-- R158 case 2: the entry made, the step taken and the frame. -/
theorem joinNew_eq (a : Answer) {n : Nat} (found : s.lowestAddress = some n) : joinNew a s =
    (holdStep (.assign n a.serial none) ((putEntry ⟨n, a.serial, a.kind, a.controls, a.touch, a.meters, .joining, 0,
      Config.joiningExpiry s.fresh⟩ s).withFresh (s.fresh + 1)), assignFrame a.serial n) := by
  simp only [joinNew, found]

theorem assignStep_known {a : Answer} (serials : (s.mtb.entries.map (fun e => e.serial)).Nodup) {e : Entry} (he : e ∈ s.mtb.entries)
    (same : e.serial = a.serial) : assignStep a s = rejoin a e s := by
  obtain ⟨f, found⟩ : ∃ f, s.mtb.entries.find? (fun e => e.serial == a.serial) = some f := by
    rw [← Option.isSome_iff_exists, List.find?_isSome]
    exact ⟨e, he, by simp [same]⟩
  obtain rfl := List.inj_on_of_nodup_map serials (List.mem_of_find?_eq_some found) he
    (by have := List.find?_some found; simp only [beq_iff_eq] at this; rw [this, same])
  simp only [assignStep, found]

section
variable {a : Answer} (new : ∀ e ∈ s.mtb.entries, e.serial ≠ a.serial)
include new

theorem assignStep_joins (few : s.mtb.entries.length < 16) : assignStep a s = joinNew a s := by
  have none_ : s.mtb.entries.find? (fun e => e.serial == a.serial) = none := by simpa using new
  simp only [assignStep, none_, if_pos few]

theorem assignStep_evicts (full : s.mtb.entries.length = 16) {e : Entry} (evicts : s.evictable = some e) :
    assignStep a s = joinNew a (removeModule e.address .evicted s) := by
  have none_ : s.mtb.entries.find? (fun e => e.serial == a.serial) = none := by simpa using new
  simp only [assignStep, none_, full, Nat.lt_irrefl, if_false, evicts]

theorem assignStep_refuses (full : s.mtb.entries.length = 16) (none' : s.evictable = none) : assignStep a s = refuseModule a s := by
  have none_ : s.mtb.entries.find? (fun e => e.serial == a.serial) = none := by simpa using new
  simp only [assignStep, none_, full, Nat.lt_irrefl, if_false, none']

end

/-- The entries that stay when one leaves. -/
theorem filter_address_ne {es : List Entry} (asc : Ascending es) {e : Entry} (he : e ∈ es) : ∃ before after, es = before ++ e :: after ∧
    es.filter (fun x => x.address != e.address) = before ++ after := by
  obtain ⟨before, after, rfl⟩ := List.append_of_mem he
  rw [Ascending, List.pairwise_append, List.pairwise_cons] at asc
  obtain ⟨-, ⟨above, -⟩, below⟩ := asc
  refine ⟨before, after, rfl, ?_⟩
  have first : before.filter (fun x => x.address != e.address) = before :=
    List.filter_eq_self.mpr fun x hx => bne_iff_ne.mpr (Nat.ne_of_lt (below x hx e (by simp)))
  have last : after.filter (fun x => x.address != e.address) = after :=
    List.filter_eq_self.mpr fun x hx => bne_iff_ne.mpr (Nat.ne_of_gt (above x hx))
  rw [List.filter_append, List.filter_cons_of_neg (by simp), first, last]

theorem addressFree_iff (n : Nat) : s.addressFree n = true ↔
    (∀ x ∈ s.mtb.entries, x.address ≠ n) ∧ ∀ f ∈ s.sou.urgent, ¬ (f.frame.kind = .release ∧ f.frame.address = n) := by
  rw [State.addressFree, Bool.and_eq_true, Option.isNone_iff_eq_none, entry_none, Bool.not_eq_true', List.any_eq_false]
  simp only [Bool.and_eq_true, beq_iff_eq]

/-! ### The result of an ASSIGN (R159) -/

theorem joiningEntry_some {n : Nat} {serial : Serial} {e : Entry} :
    s.joiningEntry n serial = some e ↔ s.mtb.entry n = some e ∧ e.state = .joining ∧ e.serial = serial := by
  rw [State.joiningEntry, Option.filter_eq_some_iff]
  simp only [Bool.and_eq_true, beq_iff_eq]

theorem joiningEntry_none {n : Nat} {serial : Serial} (gone : ∀ e, ¬ (s.mtb.entry n = some e ∧ e.state = .joining ∧ e.serial = serial)) :
    s.joiningEntry n serial = none :=
  Option.eq_none_iff_forall_ne_some.mpr fun e is => gone e (joiningEntry_some.mp is)

theorem assignResult_gone {n : Nat} {serial : Serial} (from_ : Option ModuleState) (r : TxnResult)
    (gone : s.joiningEntry n serial = none) : assignResult n serial from_ r s = setSearch s.sbc.search.stepOver s := by
  have same : (setSearch s.sbc.search.stepOver s).joiningEntry n serial = none := gone
  simp only [assignResult, same]

theorem assignResult_confirm {n : Nat} {serial : Serial} (from_ : Option ModuleState) (payload : List Byte) {e : Entry}
    (named : s.joiningEntry n serial = some e) :
    assignResult n serial from_ (.reply .confirm payload) s = confirmModule e from_ (setSearch s.sbc.search.stepOver s) := by
  have same : (setSearch s.sbc.search.stepOver s).joiningEntry n serial = some e := named
  simp only [assignResult, same]

theorem assignResult_fails {n : Nat} {serial : Serial} (from_ : Option ModuleState) {r : TxnResult} {e : Entry}
    (fails : ∀ payload, r ≠ .reply .confirm payload) (named : s.joiningEntry n serial = some e) :
    assignResult n serial from_ r s = removeModule n .noConfirm (setSearch s.sbc.search.stepOver s) := by
  have same : (setSearch s.sbc.search.stepOver s).joiningEntry n serial = some e := named
  simp only [assignResult, same]

/-- The bindings back, before their feedback (R192). -/
def reattached (a : Nat) (serial : Serial) (s : State) : State :=
  s.withBdt (s.bdt.map (fun b => if b.reattaches a serial then { b with state := .active, cause := .none } else b))

theorem reaches_reattached (a : Nat) (serial : Serial) (s : State) : Reaches [.bdt] s (reattached a serial s) := reaches_withBdt s _

theorem reattach_eq (a : Nat) (serial : Serial) (s : State) : reattach a serial s =
    (s.bdt.filter (fun b => b.reattaches a serial && b.feedback)).foldl (fun u b => sendFeedback b u) (reattached a serial s) := by
  have both : s.bdt.filter (fun b => b.reattaches a serial && b.feedback) =
      (s.bdt.filter (fun b => b.reattaches a serial)).filter (fun b => b.feedback) := by
    rw [List.filter_filter]
    exact List.filter_congr fun b _ => Bool.and_comm ..
  rw [both, List.foldl_filter, reattach, reattached]

end

/-! ## MODULE_FORGET (R164) -/

section
variable {s : State}

theorem addressesOf_some {bs : List Byte} (fit : ∀ b ∈ bs, 1 ≤ b.toNat ∧ b.toNat ≤ 30) : addressesOf bs = some (bs.map (fun b => b.toNat)) := by
  induction bs with
  | nil => rfl
  | cons b rest ih =>
    have first : addressOf b = some b.toNat := if_pos (fit b (by simp))
    simp only [addressesOf, first, ih fun c hc => fit c (by simp [hc]), List.map_cons]

theorem addressesOf_none {bs : List Byte} (bad : ∃ b ∈ bs, b.toNat = 0 ∨ 30 < b.toNat) : addressesOf bs = none := by
  induction bs with
  | nil => simp at bad
  | cons b rest ih =>
    obtain ⟨c, hc, off⟩ := bad
    obtain rfl | later := List.mem_cons.mp hc
    · have first : addressOf c = none := if_neg (by omega)
      simp only [addressesOf, first]
    · cases first : addressOf b <;> simp only [addressesOf, ih ⟨c, later, off⟩, first]

theorem forgettable_eq (bs : List Byte) (s : State) : s.forgettable (bs.map (fun b => b.toNat)) =
    (s.mtb.entries.map (fun e => e.address)).filter (fun a => bs.any (fun b => b.toNat == a)) := by
  refine List.filter_congr fun a _ => ?_
  rw [Bool.eq_iff_iff, List.contains_iff_mem, List.mem_map, List.any_eq_true]
  simp only [beq_iff_eq]

/-- R153, R164: nothing is left of an address but the RELEASE that waits for it. -/
structure Forgotten (a : Nat) (s : State) : Prop where
  round : a ∉ s.sbc.roundList
  release : ∃ f ∈ s.sou.urgent, f.frame = ⟨a, .release, []⟩ ∧ f.origin = .removal
  bound : ∀ b ∈ s.bdt, b.state = .active → b.control.origin ≠ .remote a

theorem removeModule_active {a : Nat} {e : Entry} (there : s.mtb.entry a = some e) (d : ModuleDetail) {b : Binding}
    (hb : b ∈ (removeModule a d s).bdt) (active : b.state = .active) : b ∈ s.bdt := by
  have before : Reaches [.records, .sbc, .mtb, .sou] s (purge a (unlist a e d s)) :=
    (reaches_unlist a e d s).andThen (reaches_purge a _)
  have same : (purge a (unlist a e d s)).bdt = s.bdt := before.frame .bdt (by decide)
  have bdt := (orphanModule_spec a (purge a (unlist a e d s))).2.2
  have whole : (removeModule a d s).bdt = (orphanModule a (purge a (unlist a e d s))).bdt := by
    rw [removeModule_of_some d there]
    split
    · rfl
    · exact (reaches_handFrame ..).frame .bdt (by decide)
  rw [whole, bdt, same, List.mem_map] at hb
  obtain ⟨c, hc, rfl⟩ := hb
  split at active
  · cases active
  · rename_i stays
    rwa [if_neg stays]

/-- The removal of one module, and what stays of those removed before it. -/
theorem forgotten_removeModule {o : Option Owner} (law : QueuesLaw o s.sou) {a : Nat} {e : Entry} (there : s.mtb.entry a = some e)
    {d : ModuleDetail} (confirmed : d ≠ .noConfirm) (place : s.sou.urgent.length < 8) :
    Forgotten a (removeModule a d s) ∧ ∀ b, b ≠ a → Forgotten b s → Forgotten b (removeModule a d s) := by
  have gone := moduleGone_removeModule there d
  rw [moduleGone, (entry_mem there).2] at gone
  obtain ⟨-, list, bound⟩ := gone
  have urgent := removeModule_urgent law there confirmed place
  refine ⟨⟨by simp [list], ⟨releaseFrame a, by simp [urgent], rfl, rfl⟩, bound⟩, fun b other forgotten => ?_⟩
  obtain ⟨round, ⟨f, hf, frame, origin⟩, free⟩ := forgotten
  refine ⟨fun mem => round (List.mem_of_mem_filter (list ▸ mem)), ⟨f, ?_, frame, origin⟩, fun c hc active =>
    free c (removeModule_active there d hc active) active⟩
  rw [urgent]
  exact List.mem_append_left _ (mem_purgedQueue (by rw [frame]; exact other) hf)

theorem forgotten_removeModules {o : Option Owner} {d : ModuleDetail} (confirmed : d ≠ .noConfirm) (as : List Nat) {s : State}
    (law : QueuesLaw o s.sou) (nodup : as.Nodup) (there : ∀ a ∈ as, a ≤ 30 ∧ (s.mtb.entry a).isSome = true)
    (places : s.sou.urgent.length + as.length ≤ 8) :
    (∀ a ∈ as, Forgotten a (removeModules d as s)) ∧ ∀ b ∉ as, Forgotten b s → Forgotten b (removeModules d as s) := by
  induction as generalizing s with
  | nil => exact ⟨by simp, fun b _ forgotten => forgotten⟩
  | cons a rest ih =>
    obtain ⟨small, known⟩ := there a (by simp)
    obtain ⟨e, he⟩ := Option.isSome_iff_exists.mp known
    obtain ⟨first, nodup⟩ := List.nodup_cons.mp nodup
    rw [List.length_cons] at places
    obtain ⟨self, others⟩ := forgotten_removeModule law he confirmed (by omega)
    have shorter : (removeModule a d s).sou.urgent.length ≤ s.sou.urgent.length + 1 := by
      rw [removeModule_urgent law he confirmed (by omega), List.length_append]
      exact Nat.add_le_add_right (purgedQueue_length ..) 1
    have still (b : Nat) (hb : b ∈ rest) : b ≤ 30 ∧ ((removeModule a d s).mtb.entry b).isSome = true := by
      obtain ⟨low, known⟩ := there b (by simp [hb])
      obtain ⟨x, hx⟩ := Option.isSome_iff_exists.mp known
      obtain ⟨mem, address⟩ := entry_mem hx
      refine ⟨low, ?_⟩
      rw [Mtb.entry, List.find?_isSome, removeModule_mtb]
      refine ⟨x, List.mem_filter.mpr ⟨mem, bne_iff_ne.mpr fun is => first ?_⟩, by simp [address]⟩
      rw [← is, address]
      exact hb
    obtain ⟨each, kept⟩ := ih (queuesLaw_removeModule law small d) nodup still (by omega)
    refine ⟨fun b hb => ?_, fun b away forgotten => ?_⟩
    · obtain rfl | later := List.mem_cons.mp hb
      · exact kept b first self
      · exact each b later
    · rw [List.mem_cons, not_or] at away
      exact kept b away.2 (others b away.1 forgotten)

/-- A pick leaves every frame in its queue. -/
theorem forgotten_schedule (none_ : s.sbc.search.answer = none) {a : Nat} (forgotten : Forgotten a s) : Forgotten a (schedule s) := by
  obtain ⟨round, ⟨f, hf, frame, origin⟩, free⟩ := forgotten
  have bdt : (schedule s).bdt = s.bdt := (reaches_schedule_unanswered none_).frame .bdt (by decide)
  refine ⟨fun mem => round ?_, ?_, fun b hb => free b (bdt ▸ hb)⟩
  · obtain same | ⟨b, list, -⟩ := schedule_round s none_
    · rwa [same] at mem
    · rw [list]
      exact List.mem_cons_of_mem _ mem
  · obtain ⟨-, stays⟩ | ⟨-, -, stays⟩ | ⟨o, -, offers, takes⟩ := schedule_cases s
    · rw [stays]
      exact ⟨f, hf, frame, origin⟩
    · rw [stays]
      exact ⟨f, hf, frame, origin⟩
    · rw [takes]
      cases o with
      | assignStep x => exact absurd rfl (offer_unanswered none_ offers x)
      | queued q g =>
        cases q with
        | urgent =>
          show ∃ f ∈ pickHead s.sou.urgent, _
          cases urgent : s.sou.urgent with
          | nil => simp [urgent] at hf
          | cons x rest =>
            rw [urgent] at hf
            obtain rfl | later := List.mem_cons.mp hf
            · exact ⟨_, List.mem_cons_self, frame, origin⟩
            · exact ⟨f, List.mem_cons_of_mem _ later, frame, origin⟩
        | normal => exact ⟨f, hf, frame, origin⟩
        | meter => exact ⟨f, hf, frame, origin⟩
      | startUp => exact ⟨f, hf, frame, origin⟩
      | poll => exact ⟨f, hf, frame, origin⟩
      | callStep => exact ⟨f, hf, frame, origin⟩

/-! ## FILTER_SET (R169) -/

theorem defaultActionOf_eq (b : Byte) : defaultActionOf b =
    if b.toNat = 0 then some .notify else if b.toNat = 2 then some .discard else none := by
  unfold defaultActionOf
  split
  · rename_i is
    rw [if_pos is]
  · rename_i is
    rw [if_neg (by omega), if_pos is]
  · rename_i other other'
    rw [if_neg other, if_neg other']

theorem filterOf_none {enable origin low high kinds action : Byte}
    (bad : flagOf enable = none ∨ filterOriginOf origin = none ∨ indexBelow 64 low = none ∨ indexBelow 64 high = none ∨
      kindSetOf kinds = none ∨ actionOf action = none) :
    filterOf enable origin low high kinds action = none := by
  unfold filterOf
  split
  · rename_i he ho hl hh hk ha
    obtain h | h | h | h | h | h := bad <;> simp_all
  · rfl

theorem filterOf_some {enable origin low high kinds action : Byte} {e : Bool} {o : Option Origin} {act : FilterAction}
    (he : flagOf enable = some e) (ho : filterOriginOf origin = some o) (ha : actionOf action = some act) :
    filterOf enable origin low high kinds action =
      if low.toNat ≤ high.toNat ∧ high.toNat < 64 ∧ kinds.toNat < 32 then some ⟨e, o, low.toNat, high.toNat, kinds.setWidth 5, act⟩
      else none := by
  by_cases top : high.toNat < 64
  · by_cases known : kinds.toNat < 32
    · have set : kindSetOf kinds = some (kinds.setWidth 5) := (if_pos known).trans (congrArg some (BitVec.ofNat_toNat ..))
      by_cases low' : low.toNat < 64
      · simp only [filterOf, he, ho, ha, indexBelow_of_lt top, indexBelow_of_lt low', set, top, known, and_true]
      · have over_ : ¬ (low.toNat ≤ high.toNat ∧ high.toNat < 64 ∧ kinds.toNat < 32) := by omega
        rw [if_neg over_, filterOf_none (.inr (.inr (.inl (indexBelow_of_ge (Nat.le_of_not_lt low')))))]
    · rw [if_neg fun h => known h.2.2, filterOf_none (.inr (.inr (.inr (.inr (.inl (if_neg known))))))]
  · rw [if_neg fun h => top h.2.1, filterOf_none (.inr (.inr (.inr (.inl (indexBelow_of_ge (Nat.le_of_not_lt top))))))]

end

end Sys2Proof.Machine
open Sys2Proof.Machine Sys2Proof.Safety in
/-- Settles O52, by the step in flight or picked, and then by the case of its result. -/
theorem discoveryResults : Obligations.DiscoveryResults := by
  refine ⟨fun s sound => ⟨fun p step answer ending => ?_, fun a => ⟨fun e he same => ?_, fun new few => ?_,
    fun e he new full silent => ?_, fun none_ full => ?_⟩⟩, fun n serial from_ s sound step answer ending => ?_⟩
  · intro x
    have settled := stepOver_settled answer ending
    refine ⟨?_, fun payload a is begins => ?_, fun r bad => ?_⟩
    · rw [stepResult_call step]
      exact settled
    · rw [stepResult_call step]
      simp only [callResult, is, if_pos begins]
      exact stepOver_kept ending (.inl (by simp))
    · have collides : stepResult r s = collide p s := by
        rw [stepResult_call step]
        obtain rfl | ⟨payload, a, rfl, is, other⟩ := bad
        · rfl
        · simp only [callResult, is, other, Bool.false_eq_true, if_false]
      rw [collides]
      refine ⟨fun short => ⟨p.longer false, p.longer true, collide_split ending short, rfl, rfl, rfl, rfl⟩, fun whole => ?_⟩
      rw [collide_whole answer ending whole]
      exact ⟨by simp only [notify_eq]; rfl, fun room => heard_notify (s := setSearch _ s) room⟩
  · obtain ⟨-, ascending, serials, -⟩ := sound.modules
    have asc : Ascending s.mtb.entries := List.pairwise_map.mp ascending
    have there := entry_of_mem asc he
    refine ⟨_, _, assignStep_known serials he same, ?_, rfl, rfl, rejoin_rme a e s⟩
    have replaced := putEntry_replaced asc there (f := { e with
      kind := a.kind, controls := a.controls, touch := a.touch, meters := a.meters, state := .joining, quality := 0 }) rfl
    exact (rejoin_mtb a e s).trans (replaced.trans (by rw [same]))
  · obtain ⟨size, -⟩ := sound.modules
    have short := (queuesLaw_iff.mpr sound.output).queue .urgent |>.size
    obtain ⟨n, found, low, high, free, least⟩ := lowestAddress_some size short
    obtain ⟨none_, -⟩ := lowestAddress_free found
    refine ⟨_, _, n, Sys2Proof.Config.joiningExpiry s.fresh, (assignStep_joins new few).trans (joinNew_eq a found), low, high, free, least, none_, ?_, ?_, rfl, rfl⟩
    · exact (putEntry_entry _ s n).trans (if_pos rfl)
    · exact (insertEntry_perm fun x hx => entry_none.mp none_ x hx).length_eq
  · intro due earliest
    obtain ⟨-, ascending, -, entries_sound, -⟩ := sound.modules
    have asc : Ascending s.mtb.entries := List.pairwise_map.mp ascending
    have law := queuesLaw_iff.mpr sound.output
    have evicts : s.evictable = some e := earliest_eq (asc.filter _) (List.mem_filter.mpr ⟨he, by simp [silent]⟩) fun x hx => by
      obtain ⟨mem, is⟩ := List.mem_filter.mp hx
      exact earliest x mem (by simpa using is)
    have there := entry_of_mem asc he
    obtain ⟨before, after, split, left⟩ := filter_address_ne asc he
    obtain ⟨u, hu⟩ : ∃ u, u = removeModule e.address .evicted s := ⟨_, rfl⟩
    have entries : u.mtb.entries = before ++ after := by rw [hu, removeModule_mtb, left]
    have fewer : u.mtb.entries.length = 15 := by
      rw [split] at full
      rw [entries]
      simp only [List.length_append, List.length_cons] at full ⊢
      omega
    have small : e.address ≤ 30 := (entries_sound e he).2.1
    have short : u.sou.urgent.length ≤ 8 := hu ▸ (queuesLaw_removeModule law small .evicted).queue .urgent |>.size
    have stay (x : Entry) (hx : x ∈ s.mtb.entries) (other : x ≠ e) : x ∈ u.mtb.entries := by
      rw [split] at hx
      rw [entries]
      simpa [other] using hx
    have unused (m : Nat) : u.addressFree m = true ↔ (∀ x ∈ s.mtb.entries, x.address = m → x = e) ∧
        ∀ q ∈ u.sou.urgent, ¬ (q.frame.kind = .release ∧ q.frame.address = m) := by
      rw [addressFree_iff]
      refine and_congr_left' ⟨fun free x hx is => ?_, fun only x hx is => ?_⟩
      · by_contra other
        exact free x (stay x hx other) is
      · rw [hu, removeModule_mtb] at hx
        obtain ⟨mem, away⟩ := List.mem_filter.mp hx
        rw [only x mem is] at away
        simp at away
    have gone := moduleGone_removeModule there .evicted
    rw [← hu] at gone
    obtain ⟨told, list, bound⟩ := gone
    obtain ⟨n, found, low, high, free, least⟩ := lowestAddress_some (Nat.le_of_lt (by omega)) short
    obtain ⟨none_, -⟩ := lowestAddress_free found
    have reach := (reaches_removeModule e.address .evicted s).andThen (reaches_joinNew a _)
      (rs := [.records, .rme, .sbc, .mtb, .sou, .bdt, .fresh])
    rw [← hu, joinNew_eq a found] at reach
    have joins := assignStep_evicts new full evicts
    rw [← hu, joinNew_eq a found] at joins
    refine ⟨_, _, n, Sys2Proof.Config.joiningExpiry u.fresh, joins, ⟨told, list, bound⟩, low, high, (unused n).mp free,
      fun m one below is => Bool.false_ne_true ((least m one below).symm.trans ((unused m).mpr is)), ?_, ?_, fun x hx other => ?_, rfl, fun place _ => ?_, rfl,
      keepsBut_of_reaches reach fun _ => id⟩
    · exact (putEntry_entry _ u n).trans (if_pos rfl)
    · exact (insertEntry_perm fun x hx => entry_none.mp none_ x hx).length_eq.trans (congrArg (· + 1) fewer)
    · exact (insertEntry_perm fun y hy => entry_none.mp none_ y hy).mem_iff.mpr (List.mem_cons_of_mem _ (stay x hx other))
    · have urgent := removeModule_urgent law there (d := .evicted) (by simp) place
      rw [← hu] at urgent
      show (u.sou.urgent.map (fun q => q.frame)).getLast? = _
      rw [urgent]
      simp [releaseFrame, newFrame]
  · have nobody : s.evictable = none := by
      have nobody : s.mtb.entries.filter (fun e => e.state == .silent) = [] :=
        List.filter_eq_nil_iff.mpr fun e he => by simpa using (none_ e he).2
      rw [State.evictable, nobody]
      rfl
    refine ⟨_, assignStep_refuses (fun e he => (none_ e he).1) full nobody, ?_, ?_, fun room => heard_notify (s := holdStep _ s) room⟩
    · rw [notify_eq]
      rfl
    · rw [notify_eq]
      rfl
  · intro settled named
    have becomes : s.sbc.search.stepOver = settled := stepOver_settled answer ending
    refine ⟨fun nobody r => ?_, fun e is => ⟨fun payload => ?_, fun r fails => ?_⟩⟩
    · rw [stepResult_assign step, assignResult_gone from_ r (joiningEntry_none nobody), becomes]
      rfl
    · intro back
      obtain ⟨-, ascending, -⟩ := sound.modules
      have asc : Ascending s.mtb.entries := List.pairwise_map.mp ascending
      obtain ⟨there, joined, same⟩ := is
      obtain ⟨mem, address⟩ := entry_mem there
      obtain ⟨u, hu⟩ : ∃ u, u = putEntry { e with state := .online, expiry := s.sbc.newExpiry } (setSearch settled s) := ⟨_, rfl⟩
      obtain ⟨told, ht⟩ : ∃ told, told = NoticeBody.moduleState ⟨n, serial, from_, some .online,
        if from_ = none then .joined else .rejoined, .none, e.quality⟩ := ⟨_, rfl⟩
      have reason : (if from_.isSome then ModuleReason.rejoined else .joined) = if from_ = none then .joined else .rejoined := by
        cases from_ <;> rfl
      have confirms : stepResult (.reply .confirm payload) s = reattach n serial (notify told u) := by
        rw [stepResult_assign step, assignResult_confirm from_ payload (joiningEntry_some.mpr ⟨there, joined, same⟩), becomes, confirmModule,
          ht, hu, ← reason, ← address, ← same]
        rfl
      have backs : (fun b : Binding => b.reattaches n serial) = back := funext fun b => by
        rw [Binding.reattaches, Bool.eq_iff_iff]
        simp only [Bool.and_eq_true, beq_iff_eq, and_assoc, back, decide_eq_true_eq]
      have bdt : (notify told u).bdt = s.bdt := by
        rw [notify_eq, hu]
        rfl
      refine ⟨reattached n serial (notify told u), ?_, ?_, ?_, ?_, fun room => ?_, ?_⟩
      · rw [notify_eq, hu]
        rfl
      · have online : Reaches [.sbc, .mtb] s u := hu ▸ (reaches_setSearch settled s).andThen (reaches_putEntry _ _)
        have reach := (online.andThen (reaches_notify told u) (rs := [.records, .sbc, .mtb])).andThen
          (reaches_reattached n serial _) (rs := [.records, .sbc, .mtb, .bdt])
        exact keepsBut_of_reaches reach fun _ => id
      · have replaced := (putEntry_replaced (s := setSearch settled s) asc there
          (f := { e with state := .online, expiry := s.sbc.newExpiry }) rfl).trans
          (congrArg (fun es => { s.mtb with entries := es }) (map_entry_self asc there
            fun x => { x with state := .online, expiry := s.sbc.newExpiry }))
        rw [notify_eq, hu]
        exact replaced
      · rw [← backs, ← bdt]
        rfl
      · have heard := heard_notify (b := told) (s := u) (hu ▸ room)
        rw [ht] at heard
        rw [ht]
        exact heard
      · rw [confirms, reattach_eq, bdt, ← backs]
    · rw [stepResult_assign step, assignResult_fails from_ fails (joiningEntry_some.mpr is), becomes]
      obtain ⟨there, -⟩ := is
      obtain ⟨-, address⟩ := entry_mem there
      obtain ⟨history, sou⟩ := removed_sou n e .noConfirm (setSearch settled s)
      have gone := moduleGone_removeModule (s := setSearch settled s) there .noConfirm
      have sbc := removeModule_sbc (s := setSearch settled s) n .noConfirm
      refine ⟨_, rfl, removeModule_mtb .., (congrArg Sbc.search sbc).trans rfl, gone, fun f hf => ?_,
        keepsBut_of_reaches ((reaches_setSearch settled s).andThen (reaches_removeModule ..)
          (rs := [.records, .rme, .sbc, .mtb, .sou, .bdt])) fun _ => id⟩
      rw [removeModule_of_some (s := setSearch settled s) .noConfirm there, if_pos rfl] at hf
      change f ∈ (removed n e .noConfirm (setSearch settled s)).sou.urgent at hf
      rw [sou] at hf
      exact frame_of_purgedQueue hf

open Sys2Proof.Machine Sys2Proof.Safety in
/-- Settles O53, by the frames withdrawn, by the modules removed one after another, and by the fields of a filter. -/
theorem forgetAndFilters : Obligations.ForgetAndFilters := by
  refine ⟨fun a s short => ?_, fun tag addresses s takes few many sound => ?_, fun tag number enable origin low high kinds action s takes => ?_⟩
  · intro leaves kept gone told
    have hostGone : hosted ((s.sou.urgent ++ s.sou.normal ++ s.sou.meter).filter
        (fun f => decide (f.frame.address = a ∧ f.inFlight = false))) = gone := by
      rw [hosted, List.filter_filter]
      exact List.filter_congr fun f _ => Bool.and_comm ..
    have same (f : QFrame) (hf : f ∈ gone) : historyTold .purged s.sbc.millis f = told f := by
      have address : f.frame.address = a := by
        have passes := (List.mem_filter.mp hf).2
        simp only [leaves, Bool.and_eq_true, decide_eq_true_eq] at passes
        exact passes.1.1
      rw [historyTold, address]
    rw [purge_eq a s short, hostGone, endsTold, historyAfter, List.map_congr_left same,
      List.map_congr_left fun f hf => congrArg NoticeBody.surfaceDone (same f (List.mem_of_mem_filter hf))]
    rfl
  · intro listed gone
    have takesRow : (1 ≤ addresses.length ∧ addresses.length ≤ 30) = True := eq_true ⟨few, many⟩
    refine ⟨fun bad => exec_refused rfl rfl takes ?_, fun fit full => exec_refused rfl rfl takes ?_, fun fit room none_ => ?_⟩
    · simp only [takesRow, if_true, handleModuleForget, addressesOf_none bad]
    · simp only [takesRow, if_true, handleModuleForget, addressesOf_some fit, forgettable_eq]
      exact if_pos full
    · obtain ⟨-, ascending, -, entries_sound, -⟩ := sound.modules
      have runs : exec (.moduleForget tag addresses) s = .next (queueReply ⟨0x42, tag, .ok, some (.forgotten gone)⟩
          (schedule (removeModules .forgotten gone s))) := by
        refine exec_accepted rfl rfl takes ?_
        simp only [takesRow, if_true, handleModuleForget, addressesOf_some fit, forgettable_eq]
        exact if_neg (Nat.not_lt.mpr room)
      have unanswered : (removeModules .forgotten gone s).sbc.search.answer = none := by
        rw [removeModules_sbc]
        exact none_
      have picks := reaches_schedule_unanswered unanswered
      have reach := (reaches_removeModules .forgotten gone s).andThen picks (rs := [.records, .rme, .sbc, .mtb, .sou, .bdt])
      have law := queuesLaw_iff.mpr sound.output
      have short := (law.queue .urgent).size
      have nodup : gone.Nodup := (ascending.imp fun h => Nat.ne_of_lt h).filter _
      have there (a : Nat) (ha : a ∈ gone) : a ≤ 30 ∧ (s.mtb.entry a).isSome = true := by
        obtain ⟨e, he, rfl⟩ := List.mem_map.mp (List.mem_of_mem_filter ha)
        exact ⟨(entries_sound e he).2.1, by rw [entry_of_mem (List.pairwise_map.mp ascending) he]; rfl⟩
      obtain ⟨each, -⟩ := forgotten_removeModules (d := .forgotten) (by simp) gone law nodup there (by
        simp only [Sou.queue, queueCapacity] at short
        omega)
      refine ⟨_, runs, answered_of_reaches reach, ?_, fun a ha => ?_, keepsBut_queueReply (keepsBut_of_reaches reach fun _ => id) _⟩
      · refine (Eq.trans (picks.frame .mtb (by decide)) (removeModules_mtb .forgotten gone s)).trans ?_
        refine congrArg (fun es => { s.mtb with entries := es }) (List.filter_congr fun e he => congrArg (!·) ?_)
        rw [Bool.eq_iff_iff, List.contains_iff_mem, List.mem_filter]
        exact and_iff_right (List.mem_map_of_mem he)
      · obtain ⟨round, release, bound⟩ := forgotten_schedule unanswered (each a ha)
        exact ⟨round, release, bound⟩
  · intro put
    refine ⟨fun high255 other => exec_refused rfl rfl takes ?_, fun default => ?_, fun inside bad => exec_refused rfl rfl takes ?_,
      fun inside e o act he ho ha => ?_⟩
    · simp only [handleFilterSet, if_neg other, indexBelow_of_ge high255]
    · have taken := exec_taken (c := .filterSet tag number enable origin low high kinds action) rfl rfl takes
      simp only [handleFilterSet, if_pos default, defaultActionOf_eq] at taken
      by_cases keeps : action.toNat = 0
      · rw [if_pos keeps] at taken ⊢
        exact taken
      · by_cases drops : action.toNat = 2
        · rw [if_neg keeps, if_pos drops] at taken ⊢
          exact taken
        · rw [if_neg keeps, if_neg drops] at taken ⊢
          exact taken
    · have none_ : filterOf enable origin low high kinds action = none := by
        obtain h | h | h := bad
        · exact filterOf_none (.inl h)
        · exact filterOf_none (.inr (.inl h))
        · exact filterOf_none (.inr (.inr (.inr (.inr (.inr h)))))
      simp only [handleFilterSet, if_neg (show number.toNat ≠ 255 by omega), none_, indexBelow_of_lt inside]
    · intro f
      have taken := exec_taken (c := .filterSet tag number enable origin low high kinds action) rfl rfl takes
      simp only [handleFilterSet, if_neg (show number.toNat ≠ 255 by omega), filterOf_some he ho ha, indexBelow_of_lt inside] at taken
      by_cases within : low.toNat ≤ high.toNat ∧ high.toNat < 64 ∧ kinds.toNat < 32
      · rw [if_pos within] at taken ⊢
        exact taken
      · rw [if_neg within] at taken ⊢
        exact taken

end

section
/-! PROOFS. Frames sent and handed over, their fates, and the commands on them (O55, O56). -/

namespace Sys2Proof.Machine
open Safety

/-! ## What a pick leaves of the queues (R177) -/

section
variable {s t : State}

/-- A frame without what a pick changes. -/
def rested (f : QFrame) : QFrame := { f with inFlight := false, attempts := 0 }

theorem pickHead_rested (fs : List QFrame) : (pickHead fs).map rested = fs.map rested := by
  cases fs <;> rfl

theorem scheduled_rested (left : NothingLeft s) (phase : t.phase = s.phase) (sbc : t.sbc = s.sbc) :
    (∀ p, ((schedule t).sou.queue p).map rested = (t.sou.queue p).map rested) ∧ (schedule t).sou.history = t.sou.history := by
  obtain stays | ⟨q, f, picks⟩ := schedule_queued left phase sbc
  · rw [stays]
    exact ⟨fun _ => rfl, rfl⟩
  · rw [picks]
    refine ⟨fun p => ?_, putQueue_history ..⟩
    change ((t.sou.putQueue q (pickHead (t.sou.queue q))).queue p).map _ = _
    by_cases same : p = q
    · rw [same, putQueue_queue_self, pickHead_rested]
    · rw [putQueue_queue_ne _ same]

theorem frames_of_rested {fs gs : List QFrame} (same : fs.map rested = gs.map rested) :
    fs.map (fun f => f.frame) = gs.map (fun f => f.frame) := by
  have mapped := congrArg (List.map (fun f : QFrame => f.frame)) same
  rwa [List.map_map, List.map_map] at mapped

theorem mem_of_rested {fs gs : List QFrame} (same : fs.map rested = gs.map rested) {f : QFrame} (hf : f ∈ fs) :
    ∃ g ∈ gs, rested g = rested f := by
  have mapped : rested f ∈ gs.map rested := same ▸ List.mem_map_of_mem hf
  exact List.mem_map.mp mapped

theorem last_of_rested {fs gs : List QFrame} (same : fs.map rested = gs.map rested) {f : QFrame} (hf : f ∈ fs.getLast?) :
    ∃ g ∈ gs.getLast?, rested g = rested f := by
  have mapped := congrArg List.getLast? same
  rw [List.getLast?_map, List.getLast?_map, Option.mem_def.mp hf, Option.map_some] at mapped
  exact Option.map_eq_some_iff.mp mapped.symm

theorem head_of_rested {fs gs : List QFrame} (same : fs.map rested = gs.map rested) {f : QFrame} (hf : f ∈ fs.head?) :
    ∃ g ∈ gs.head?, rested g = rested f := by
  have mapped := congrArg List.head? same
  rw [List.head?_map, List.head?_map, Option.mem_def.mp hf, Option.map_some] at mapped
  exact Option.map_eq_some_iff.mp mapped.symm

end

/-! ## A frame handed over (R174, R175) -/

section
variable {u : Sou} {q : QueueId} {f : QFrame}

theorem take_full (full : queueCapacity q ≤ (u.queue q).length) : u.take q f = .queueFull := by
  rw [Sou.take, if_pos full]

/-- R175 step 3: the blocks that may be made free. -/
def spareBlocks (u : Sou) (q : QueueId) : Nat := droppable u.meter + if q = .meter then 0 else droppable u.normal

theorem take_crowded (place : (u.queue q).length < queueCapacity q) (crowded : u.freeBlocks + spareBlocks u q < f.blocks) :
    u.take q f = .noRoom := by
  unfold Sou.take
  rw [if_neg (Nat.not_le.mpr place)]
  exact if_pos crowded

/-- R175: what stays of the queues once frames have left for a new one: METER before NORMAL, URGENT never. -/
theorem take_drops (place : (u.queue q).length < queueCapacity q) (room : f.blocks ≤ u.freeBlocks + spareBlocks u q) :
    ∃ meter normal dropped, u.take q f = .appended (Sou.putQueue { u with meter := meter, normal := normal } q
        (Sou.queue { u with meter := meter, normal := normal } q ++ [f])) dropped ∧
      (f.blocks ≤ u.freeBlocks + droppable u.meter → normal = u.normal) ∧
      (u.freeBlocks < f.blocks → 1 ≤ dropped.length) := by
  obtain ⟨after, dropped, taken⟩ := take_room place room
  obtain ⟨meter, goneM, free, normal, goneN, free', hm, hn, -, -, rfl, rfl⟩ := take_appended taken
  obtain ⟨-, -, -, freeM, -, enoughM⟩ := dropUntil_spec hm
  refine ⟨meter, normal, _, taken, fun fits => ?_, fun short => ?_⟩
  · have held : f.blocks ≤ free := by omega
    split at hn
    · cases hn
      rfl
    · rw [dropUntil_fits held] at hn
      cases hn
      rfl
  · by_contra none_
    have empty : goneM ++ goneN = [] := List.length_eq_zero_iff.mp (by omega)
    obtain ⟨rfl, rfl⟩ := List.append_eq_nil_iff.mp empty
    rw [blocksOf_nil] at freeM
    unfold spareBlocks at room
    split at hn
    · rename_i isMeter
      simp only [if_pos isMeter] at room
      omega
    · rename_i other
      simp only [if_neg other] at room
      obtain ⟨-, -, -, freeN, -, enoughN⟩ := dropUntil_spec hn
      rw [blocksOf_nil] at freeN
      omega

/-- R174: which frames a new one merges with. -/
theorem coalesces_iff (f x : QFrame) : f.coalesces x = true ↔ x.frame.address = f.frame.address ∧
    (f.origin = .meter ∧ x.origin = .meter ∨
      f.origin = .feedback ∧ x.origin = .feedback ∧ x.frame.payload.head? = f.frame.payload.head?) := by
  have address : (f.frame.address == x.frame.address) = true ↔ x.frame.address = f.frame.address := beq_iff_eq.trans eq_comm
  have head : (f.frame.payload.head? == x.frame.payload.head?) = true ↔ x.frame.payload.head? = f.frame.payload.head? :=
    beq_iff_eq.trans eq_comm
  unfold QFrame.coalesces
  cases f.origin <;> cases x.origin <;>
    simp only [Bool.and_eq_true, address, head, reduceCtorEq, false_and, and_false, or_false, false_or, true_and, and_true,
      Bool.false_eq_true]

theorem replaceFirst_split {α : Type} {test : α → Bool} (g : α → α) {before : List α} {x : α} (after : List α)
    (others : ∀ y ∈ before, test y = false) (is : test x = true) :
    replaceFirst test g (before ++ x :: after) = before ++ g x :: after := by
  induction before with
  | nil => simp only [List.nil_append, replaceFirst, if_pos is]
  | cons y rest ih =>
    have other := others y (by simp)
    simp only [List.cons_append, replaceFirst, other, Bool.false_eq_true, if_false]
    rw [ih fun z hz => others z (by simp [hz])]

end

section
variable {s : State}

theorem endFrames_queue (r : FrameResult) (fs : List QFrame) (s : State) (p : QueueId) :
    (endFrames r fs s).sou.queue p = s.sou.queue p := by
  rw [endFrames_eq]
  cases p <;> rfl

theorem reaches_dropped (after : Sou) (dropped : List QFrame) (s : State) :
    Reaches [.records, .sou] s (endFrames .dropped dropped (s.withSou after)) :=
  (reaches_withSou s _).andThen (reaches_endFrames ..)

/-- The queues of the Surface Output after a frame has joined them and the scheduler has picked. -/
theorem admitted_rested (left : NothingLeft s) (after : Sou) (dropped : List QFrame) (p : QueueId) :
    ((schedule (endFrames .dropped dropped (s.withSou after))).sou.queue p).map rested = (after.queue p).map rested := by
  have reach := reaches_dropped after dropped s
  rw [(scheduled_rested left (reach.frame .phase (by decide)) (reach.frame .sbc (by decide))).1 p, endFrames_queue]
  rfl

theorem reaches_admitted (left : NothingLeft s) (after : Sou) (dropped : List QFrame) :
    Reaches [.records, .sou, .sbc] s (schedule (endFrames .dropped dropped (s.withSou after))) := by
  have reach := reaches_dropped after dropped s
  exact reach.andThen (reaches_schedule_queued left (reach.frame .phase (by decide)) (reach.frame .sbc (by decide)))

theorem hostFrameOf_some {tag a k p r n : Byte} {data : List Byte} {kind : FrameKind} {q : QueueId} {w : Bool} (low : a.toNat ≤ 30)
    (hk : sendKindOf k = some kind) (hq : priorityOf p = some q) (hr : r.toNat ≤ 3) (hn : flagOf n = some w) (hd : sendDataOk kind data = true) :
    hostFrameOf tag a k p r n data = some (q, newFrame .host ⟨a.toNat, kind, data⟩ r.toNat w (some tag)) := by
  simp only [hostFrameOf, indexBelow_of_lt (Nat.lt_succ_of_le low), hk, hq, indexBelow_of_lt (Nat.lt_succ_of_le hr), hn, hd, if_true]

section
variable {tag a k p r n : Byte} {data : List Byte} {q : QueueId} {f : QFrame} (made : hostFrameOf tag a k p r n data = some (q, f))
include made

theorem surfaceSend_unknown (unknown : f.frame.address ≠ 0 ∧ (s.mtb.entry f.frame.address).isNone = true) :
    handleSurfaceSend tag a k p r n data s = refuse s .notFound := by
  simp only [handleSurfaceSend, made, if_pos unknown]

variable (known : ¬ (f.frame.address ≠ 0 ∧ (s.mtb.entry f.frame.address).isNone = true))
include known

theorem surfaceSend_full (taken : s.sou.take q f = .queueFull) : handleSurfaceSend tag a k p r n data s = refuse s .queueFull := by
  simp only [handleSurfaceSend, made, if_neg known, taken]

theorem surfaceSend_crowded (taken : s.sou.take q f = .noRoom) : handleSurfaceSend tag a k p r n data s = refuse s .noRoom := by
  simp only [handleSurfaceSend, made, if_neg known, taken]

theorem surfaceSend_appended {after : Sou} {dropped : List QFrame} (taken : s.sou.take q f = .appended after dropped) :
    handleSurfaceSend tag a k p r n data s = accept (schedule (endFrames .dropped dropped (s.withSou after)))
      (some (.queued q ((after.queue q).length - 1) f.blocks dropped.length)) := by
  simp only [handleSurfaceSend, made, if_neg known, taken]

end

theorem priorityOf_ne_meter {p : Byte} {q : QueueId} (hq : priorityOf p = some q) : q ≠ .meter := by
  rintro rfl
  unfold priorityOf at hq
  split at hq <;> cases hq

end

/-! ## The fate of a head frame (R178, R181, R182) -/

section
variable {s : State} {q : QueueId} {f : QFrame} {rest : List QFrame} {r : TxnResult}

theorem frameOutcome_stays (queue : s.sou.queue q = f :: rest) {g : QFrame} (fate : f.decided r = .stays g) :
    frameOutcome q r s = s.withSou (s.sou.putQueue q (g :: rest)) := by
  simp only [frameOutcome, queue, fate]

theorem endsAs_frameOutcome (queue : s.sou.queue q = f :: rest) {result : FrameResult} (fate : f.decided r = .ends result) :
    endsAs q f rest result s (frameOutcome q r s) := by
  have is : frameOutcome q r s = endFrame { f with inFlight := false } result (s.withSou (s.sou.putQueue q rest)) := by
    simp only [frameOutcome, queue, fate]
  have reach := (reaches_withSou s (s.sou.putQueue q rest)).andThen (reaches_endFrames result [{ f with inFlight := false }] _)
    (rs := [.sou, .records])
  rw [is]
  refine ⟨fun p => ?_, keepsBut_of_reaches reach fun _ => id, fun host => ?_, fun other => ?_⟩
  · refine (endFrames_queue result [{ f with inFlight := false }] (s.withSou (s.sou.putQueue q rest)) p).trans ?_
    by_cases same : p = q
    · rw [if_pos same, same]
      exact putQueue_queue_self ..
    · rw [if_neg same]
      exact putQueue_queue_ne _ same _
  · rw [endFrame, if_pos host]
    simp only [State.withSou_sou, putQueue_history]
    refine ⟨?_, fun notify room => ?_⟩
    · split
      · rw [notify_eq]
        rfl
      · rfl
    · rw [if_pos notify]
      exact heard_notify (s := (s.withSou _).withSou _) room
  · rw [endFrame, if_neg other]
    exact ⟨putQueue_history .., rfl⟩

/-- R178: what an end of the transaction that ends the frame makes of it, marked or not. -/
theorem decided_ends (plain : f.mark ≠ none ∨ f.renewed = false) {result : FrameResult}
    (fate : QFrame.fate { f with inFlight := false } r = .ends result) : f.decided r = .ends result := by
  obtain ⟨origin, frame, retries, waits, delay, attempts, notify, tag, inFlight, renewed, mark⟩ := f
  dsimp only at fate plain
  cases mark with
  | none =>
    obtain rfl : renewed = false := plain.resolve_left fun h => h rfl
    exact fate
  | some m => simp only [QFrame.decided, fate]

theorem decided_stays (mark : f.mark = none) (fresh : f.renewed = false) {g : QFrame}
    (fate : QFrame.fate { f with inFlight := false } r = .stays g) : f.decided r = .stays g := by
  obtain ⟨origin, frame, retries, waits, delay, attempts, notify, tag, inFlight, renewed, marked⟩ := f
  obtain rfl : marked = none := mark
  obtain rfl : renewed = false := fresh
  exact fate

theorem decided_marked {m : EndMark} (mark : f.mark = some m) {g : QFrame}
    (fate : QFrame.fate { f with inFlight := false } r = .stays g) : f.decided r = .ends m.result := by
  obtain ⟨origin, frame, retries, waits, delay, attempts, notify, tag, inFlight, renewed, marked⟩ := f
  obtain rfl : marked = some m := mark
  dsimp only at fate
  simp only [QFrame.decided, fate]

theorem decided_renewed (mark : f.mark = none) (renewed : f.renewed = true) :
    f.decided r = .stays (QFrame.asNew { f with inFlight := false } r) := by
  simp only [QFrame.decided, mark, renewed, if_true]

end

/-! ## SURFACE_ABORT (R180) -/

section
variable {s : State}

theorem abortFrames_eq (named : QFrame → Bool) (s : State) :
    (abortFrames named s).2 = ((s.sou.urgent ++ s.sou.normal ++ s.sou.meter).filter (fun f => named f && !f.inFlight)).length ∧
    ∃ after, (abortFrames named s).1 = endFrames .aborted
        ((s.sou.urgent ++ s.sou.normal ++ s.sou.meter).filter (fun f => named f && !f.inFlight)) (s.withSou after) ∧
      after.history = s.sou.history ∧ ∀ q, after.queue q = ((s.sou.queue q).filter (fun f => !named f || f.inFlight)).map
        (fun f => if named f then { f with mark := some (f.mark.getD .aborted) } else f) := by
  simp only [abortFrames, withdraw_eq, List.filter_append]
  exact ⟨trivial, _, rfl, rfl, fun q => by cases q <;> rfl⟩

end

end Sys2Proof.Machine

open Sys2Proof.Machine Sys2Proof.Safety in
/-- Settles O55, by the room that a new frame finds. -/
theorem surfaceSends : Obligations.SurfaceSends := by
  refine ⟨fun tag address kind priority retries notify data k q w s takes left short low hk hq hr hn hd => ?_, fun q f s => ?_, fun q s left => ?_⟩
  · intro row known place blocks used free spare new joins
    obtain ⟨f, hf⟩ : ∃ f, f = newFrame .host ⟨address.toNat, k, data⟩ retries.toNat w (some tag) := ⟨_, rfl⟩
    have made := hostFrameOf_some (tag := tag) low hk hq hr hn hd
    rw [← hf] at made
    have plain := priorityOf_ne_meter hq
    have isSpare : spareBlocks s.sou q = spare s.sou.meter + spare s.sou.normal := by
      rw [spareBlocks, if_neg plain]
      rfl
    have isBlocks : f.blocks = blocks := by rw [hf]; rfl
    have taken := exec_taken (c := .surfaceSend tag address kind priority retries notify data) rfl rfl takes
    simp only [short, if_true] at taken
    have isKnown : ¬ (f.frame.address ≠ 0 ∧ (s.mtb.entry f.frame.address).isNone = true) ↔ known := by
      rw [hf, not_and_or, not_not, Option.isNone_iff_eq_none, ← ne_eq, Option.ne_none_iff_isSome]
      rfl
    refine ⟨fun unknown => ?_, fun there full => ?_, fun there room crowded => ?_, fun there room fits => ?_, fun there room less enough => ?_⟩
    · rw [surfaceSend_unknown made (not_not.mp fun h => unknown (isKnown.mp h))] at taken
      exact taken
    · rw [surfaceSend_full made (isKnown.mpr there) (take_full (Nat.le_of_not_lt full))] at taken
      exact taken
    · rw [surfaceSend_crowded made (isKnown.mpr there) (take_crowded room
        (by rw [isSpare, isBlocks, ← Nat.add_assoc]; exact crowded))] at taken
      exact taken
    · rw [surfaceSend_appended made (isKnown.mpr there) (take_fits room (isBlocks ▸ fits)), putQueue_queue_self, List.length_append,
        List.length_singleton, Nat.add_sub_cancel, isBlocks] at taken
      have queues := admitted_rested left (s.sou.putQueue q (s.sou.queue q ++ [f])) []
      have start : Reaches [.sou] s (s.withSou (s.sou.putQueue q (s.sou.queue q ++ [f]))) := reaches_withSou s _
      have reach := start.andThen (reaches_schedule_queued left rfl rfl) (rs := [.sou, .sbc])
      refine ⟨_, taken, answered_of_reaches reach, fun p => ?_, fun g hg => ?_, ?_, keepsBut_queueReply (keepsBut_of_reaches reach fun _ => id) _⟩
      · refine (frames_of_rested (queues p)).trans ?_
        by_cases same : p = q
        · rw [same, putQueue_queue_self, if_pos rfl, List.map_append, hf]
          rfl
        · rw [putQueue_queue_ne _ same, if_neg same, List.append_nil]
      · obtain ⟨h, hh, same⟩ := last_of_rested (queues q) hg
        rw [putQueue_queue_self, List.getLast?_append_of_ne_nil _ (by simp), Option.mem_def, List.getLast?_singleton, Option.some.injEq] at hh
        rw [← hh, hf] at same
        exact ⟨(congrArg QFrame.origin same).symm, (congrArg QFrame.retries same).symm, (congrArg QFrame.notify same).symm,
          (congrArg QFrame.tag same).symm⟩
      · refine Eq.trans ?_ (putQueue_history s.sou q (s.sou.queue q ++ [f]))
        exact (scheduled_rested (t := s.withSou (s.sou.putQueue q (s.sou.queue q ++ [f]))) left rfl rfl).2
    · obtain ⟨meter, normal, dropped, is, keeps, drops⟩ := take_drops (u := s.sou) (q := q) (f := f) room
        (by rw [isSpare, isBlocks, ← Nat.add_assoc]; exact enough)
      rw [surfaceSend_appended made (isKnown.mpr there) is, isBlocks] at taken
      obtain ⟨u, hu⟩ : ∃ u : Sou, u = { s.sou with meter := meter, normal := normal } := ⟨_, rfl⟩
      rw [← hu] at taken
      have reach := reaches_admitted left (u.putQueue q (u.queue q ++ [f])) dropped
      have queues := admitted_rested left (u.putQueue q (u.queue q ++ [f])) dropped
      have joined (p : Sys2Proof.QueueId) (same : u.queue p = s.sou.queue p) : ((schedule (endFrames .dropped dropped
          (s.withSou (u.putQueue q (u.queue q ++ [f]))))).sou.queue p).map (fun f => f.frame) =
          (s.sou.queue p).map (fun f => f.frame) ++ if p = q then [new] else [] := by
        refine (frames_of_rested (queues p)).trans ?_
        by_cases here : p = q
        · rw [here, putQueue_queue_self, if_pos rfl, List.map_append, ← here, same, hf]
          rfl
        · rw [putQueue_queue_ne _ here, if_neg here, List.append_nil, same]
      refine ⟨_, _, _, taken, drops (isBlocks ▸ less), answered_of_reaches reach, joined .urgent (by rw [hu]; rfl), fun fits => joined .normal ?_, ?_,
        keepsBut_queueReply (keepsBut_of_reaches reach fun _ => id) _⟩
      · rw [hu]
        exact keeps (isBlocks ▸ fits)
      · refine (congrArg List.getLast? (frames_of_rested (queues q))).trans ?_
        rw [putQueue_queue_self, List.map_append, List.map_singleton, List.getLast?_append_of_ne_nil _ (by simp), List.getLast?_singleton, hf]
        rfl
  · intro merges blocks spare given
    have merge (x : QFrame) : f.coalesces x = true ↔ merges x := coalesces_iff f x
    have none_merges (apart : ∀ x ∈ s.sou.queue q, ¬ merges x) : (s.sou.queue q).any (f.coalesces ·) = false := by
      rw [List.any_eq_false]
      exact fun x hx is => apart x hx ((merge x).mp is)
    refine ⟨fun before x after queue is others => ?_, fun apart => ⟨fun none_ => ?_, fun place fits => ?_, fun place room => ?_⟩⟩
    · have any : (s.sou.queue q).any (f.coalesces ·) = true := by
        rw [List.any_eq_true]
        exact ⟨x, by simp [queue], (merge x).mpr is⟩
      rw [handFrame_merges any, queue, replaceFirst_split _ after (fun y hy => Bool.eq_false_iff.mpr fun h => others y hy ((merge y).mp h))
        ((merge x).mpr is)]
      rfl
    · have any : (s.sou.queue q).any (f.coalesces ·) = false := none_merges apart
      rw [handFrame, if_neg (by simp [any])]
      by_cases place : (s.sou.queue q).length < queueCapacity q
      · have crowded := none_.resolve_left (Nat.not_le.mpr place)
        simp only [take_crowded (u := s.sou) (q := q) (f := f) place crowded]
      · simp only [take_full (u := s.sou) (q := q) (f := f) (Nat.le_of_not_lt place)]
    · rw [handFrame_fits (none_merges apart) place fits]
      rfl
    · obtain ⟨meter, normal, dropped, is, -, -⟩ := take_drops (u := s.sou) (q := q) (f := f) place room
      refine ⟨?_, keepsBut_of_reaches (reaches_handFrame q f s) (by decide)⟩
      have any : (s.sou.queue q).any (f.coalesces ·) = false := none_merges apart
      rw [handFrame, if_neg (by simp [any])]
      simp only [is]
      rw [endFrames_queue]
      refine (congrArg List.getLast? (putQueue_queue_self ..)).trans ?_
      rw [List.getLast?_append_of_ne_nil _ (by simp), List.getLast?_singleton]
  · obtain ⟨t, ht⟩ : ∃ t, t = s.withSou (s.sou.putQueue q (undelayHead (s.sou.queue q))) := ⟨_, rfl⟩
    have phase : t.phase = s.phase := by rw [ht]; rfl
    have sbc : t.sbc = s.sbc := by rw [ht]; rfl
    obtain ⟨queues, history⟩ := scheduled_rested left phase sbc
    have frames (fs : List QFrame) : (undelayHead fs).map (fun f => f.frame) = fs.map (fun f => f.frame) := by
      cases fs <;> rfl
    have queue (p : Sys2Proof.QueueId) : t.sou.queue p = if p = q then undelayHead (s.sou.queue q) else s.sou.queue p := by
      rw [ht]
      by_cases same : p = q
      · rw [if_pos same, same]
        exact putQueue_queue_self ..
      · rw [if_neg same]
        exact putQueue_queue_ne _ same _
    refine ⟨schedule t, by rw [ht]; rfl, fun p => ?_, fun f hf => ?_, ?_, ?_⟩
    · rw [frames_of_rested (queues p), queue]
      split
      · rename_i same
        rw [frames, same]
      · rfl
    · obtain ⟨g, hg, same⟩ := head_of_rested (queues q) hf
      have delays : g.delay = none := by
        rw [queue, if_pos rfl] at hg
        cases h : s.sou.queue q with
        | nil => simp [h, undelayHead] at hg
        | cons x rest =>
          simp only [h, undelayHead, List.head?_cons, Option.mem_def, Option.some.injEq] at hg
          rw [← hg]
      exact (congrArg QFrame.delay same).symm.trans delays
    · rw [history, ht]
      exact putQueue_history ..
    · have start : Reaches [.sou] s t := ht ▸ reaches_withSou s _
      exact keepsBut_of_reaches (start.andThen (reaches_schedule_queued left phase sbc) (rs := [.sou, .sbc])) fun _ => id

open Sys2Proof.Machine Sys2Proof.Safety in
/-- Settles O56, by the mark of the frame and the result. -/
theorem frameFates : Obligations.FrameFates := by
  refine ⟨fun q f rest s queue => ?_, fun tag selector named s takes left short => ?_, fun tag count s takes => ?_⟩
  · intro after ends stays
    refine ⟨fun mark fresh => ?_, fun m mark => ?_, fun mark renewed origin r => ?_⟩
    · have isEnded {result : FrameResult} {r : TxnResult} (fate : QFrame.fate { f with inFlight := false } r = .ends result) : ends result r :=
        endsAs_frameOutcome queue (decided_ends (.inr fresh) fate)
      have remains {g : QFrame} {r : TxnResult} (fate : QFrame.fate { f with inFlight := false } r = .stays g) : stays g r :=
        frameOutcome_stays queue (decided_stays mark fresh fate)
      refine ⟨isEnded rfl, isEnded rfl, isEnded rfl, fun few => remains (if_neg (by simp; omega)), fun many => isEnded (if_pos (by simp; omega)),
        fun r is retries => ?_, fun none_ => ⟨isEnded (if_neg (by simp [none_])), isEnded (if_neg (by simp [none_]))⟩⟩
      obtain rfl | rfl := is
      · exact remains (if_pos retries)
      · exact remains (if_pos retries)
    · intro result
      have isEnded {result : FrameResult} {r : TxnResult} (fate : QFrame.fate { f with inFlight := false } r = .ends result) : ends result r :=
        endsAs_frameOutcome queue (decided_ends (.inl (by simp [mark])) fate)
      have isNamed {g : QFrame} {r : TxnResult} (fate : QFrame.fate { f with inFlight := false } r = .stays g) : ends result r := by
        have same : m.result = result := by cases m <;> rfl
        exact endsAs_frameOutcome queue (same ▸ decided_marked mark fate)
      refine ⟨isEnded rfl, isEnded rfl, fun few => isNamed (if_neg (by simp; omega)), fun many => isEnded (if_pos (by simp; omega)),
        fun retries => ⟨isNamed (if_pos retries), isNamed (if_pos retries)⟩,
        fun none_ => ⟨isEnded (if_neg (by simp [none_])), isEnded (if_neg (by simp [none_]))⟩⟩
    · refine (frameOutcome_stays queue (decided_renewed mark renewed)).trans ?_
      have retries : f.origin.newRetries = if f.origin = .feedback then 1 else 0 := by
        obtain h | h := origin <;> simp [h, FrameOrigin.newRetries]
      rw [← retries]
      rfl
  · refine ⟨fun high => exec_refused rfl rfl takes ?_, fun low => ?_⟩
    · simp only [handleSurfaceAbort, flagOf_of_ge high]
    · intro names whole gone
      obtain ⟨all, flag, isAll⟩ : ∃ all, flagOf selector = some all ∧ (all = true ↔ selector.toNat = 1) := by
        obtain zero | one : selector.toNat = 0 ∨ selector.toNat = 1 := by omega
        · exact ⟨false, by simp only [flagOf, zero], by simp [zero]⟩
        · exact ⟨true, by simp only [flagOf, one], by simp [one]⟩
      have isNamed (f : QFrame) : f.named all named = names f := by
        rw [QFrame.named, Bool.eq_iff_iff]
        simp only [Bool.and_eq_true, Bool.or_eq_true, beq_iff_eq, isAll, names, decide_eq_true_eq]
      obtain ⟨count, after, is, history, queue⟩ := abortFrames_eq (QFrame.named all named) s
      simp only [isNamed] at count is queue
      obtain ⟨u, hu⟩ : ∃ u, u = (abortFrames (QFrame.named all named) s).1 := ⟨_, rfl⟩
      have runs : exec (.surfaceAbort tag selector named) s = .next (queueReply ⟨0x49, tag, .ok,
          some (.aborted gone.length (whole.any (fun f => names f && f.inFlight)))⟩ (schedule u)) := by
        refine exec_accepted rfl rfl takes ?_
        simp only [handleSurfaceAbort, flag, isNamed, Sou.any, count, hu]
        rfl
      rw [is] at hu
      have start : Reaches [.records, .sou] s u := hu ▸ (reaches_withSou s after).andThen (reaches_endFrames ..)
      have phase : u.phase = s.phase := start.frame .phase (by decide)
      have sbc : u.sbc = s.sbc := start.frame .sbc (by decide)
      have reach := start.andThen (reaches_schedule_queued left phase sbc) (rs := [.records, .sou, .sbc])
      obtain ⟨queues, kept⟩ := scheduled_rested left phase sbc
      have left_ (q : Sys2Proof.QueueId) : u.sou.queue q = ((s.sou.queue q).filter (fun f => !names f || f.inFlight)).map
          (fun f => if names f then { f with mark := some (f.mark.getD .aborted) } else f) := by
        rw [hu, endFrames_queue]
        exact queue q
      refine ⟨_, runs, answered_of_reaches reach, fun q => ?_, fun q f hf isName => ?_, ?_,
        keepsBut_queueReply (keepsBut_of_reaches reach fun _ => id) _⟩
      · refine (frames_of_rested (queues q)).trans ?_
        rw [left_, List.map_map]
        refine (List.map_congr_left fun f _ => ?_).trans (congrArg (List.map _) (List.filter_congr fun f _ => ?_))
        · simp only [Function.comp_apply]
          split <;> rfl
        · cases names f <;> cases f.inFlight <;> rfl
      · obtain ⟨g, hg, same⟩ := mem_of_rested (queues q) hf
        rw [left_, List.mem_map] at hg
        obtain ⟨x, -, rfl⟩ := hg
        have mark := congrArg QFrame.mark same
        have origin := congrArg QFrame.origin same
        have tag' := congrArg QFrame.tag same
        by_cases here : names x = true
        · simp only [rested, here, if_true] at mark
          simp [← mark]
        · simp only [rested, if_neg here] at origin tag'
          exact absurd (by simpa only [names, origin, tag'] using isName) here
      · have hosts : hosted gone = gone := List.filter_eq_self.mpr fun f hf => by
          have passes := (List.mem_filter.mp hf).2
          simp only [names, Bool.and_eq_true, decide_eq_true_eq] at passes ⊢
          exact passes.1.1
        have told := endFrames_told .aborted gone (s.withSou after) (by rw [State.withSou_sou, history]; exact short)
        rw [hosts] at told
        have ended : u.sou.history = historyAfter .aborted gone (s.withSou after) := by
          rw [hu]
          refine (congrArg (fun t => State.sou t |>.history) told).trans ?_
          rw [notifyAll_eq]
          rfl
        show (schedule u).sou.history.length = _
        rw [kept, ended, historyAfter, List.length_drop, List.length_append, List.length_map, State.withSou_sou, history]
        omega
  · refine ⟨fun bad => exec_refused rfl rfl takes ?_, fun low high => exec_accepted rfl rfl takes ?_⟩
    · simp only [handleSurfaceHistory]
      rw [if_pos (by omega)]
    · simp only [handleSurfaceHistory]
      rw [if_neg (by omega)]
      rfl

end

section
/-! PROOFS. The bindings' commands and the events at them (O57, O58). -/

namespace Sys2Proof.Machine
open Safety

/-! ## BIND_SET, BIND_CLEAR and BIND_LIST (R185, R186) -/

section
variable {s : State}

/-- R186: what a release of a hold makes of the engine, whatever the binding. -/
theorem releaseHold_unheld (b : Binding) (s : State) :
    (if b.state = .empty then s else releaseHold b s) = s.withRme (unheldBy b s.rme) := by
  by_cases empty : b.state = .empty
  · rw [if_pos empty, unheldBy, if_neg fun h => h.1 empty]
    rfl
  · rw [if_neg empty, releaseHold, unheldBy]
    by_cases held : (s.rme.level b.target.ref).holder = some b.control
    · rw [if_pos held, if_pos ⟨empty, held⟩]
      rfl
    · rw [if_neg held, if_neg fun h => held h.2]
      rfl

theorem unheldBy_gain (b : Binding) (m : Rme) (x : LevelRef) : ((unheldBy b m).level x).gain = (m.level x).gain := by
  unfold unheldBy
  split
  · obtain ⟨rfl, new⟩ | old := level_putLevel m b.target.ref x { m.level b.target.ref with holder := none }
    · rw [new]
    · rw [old]
  · rfl

theorem controlTaken_iff (size : s.bdt.length = 32) (i : Nat) (c : Control) : s.controlTaken i c = true ↔
    ∃ n < 32, n ≠ i ∧ (s.binding n).state ≠ .empty ∧ (s.binding n).control = c := by
  rw [State.controlTaken, numbered_eq_map_range s.bdt Binding.emptyEntry, List.any_map, List.any_eq_true, size]
  simp only [List.mem_range, Function.comp_apply, Bool.and_eq_true, bne_iff_ne, beq_iff_eq, and_assoc]
  rfl

theorem moduleMissing_iff (c : Control) : s.moduleMissing c = true ↔ ∃ a, c.origin = .remote a ∧ s.mtb.entry a = none := by
  unfold State.moduleMissing
  cases c.origin <;> simp

theorem routeMissing_iff (x : Target) : s.routeMissing x = true ↔ ∃ id, x.ref = .route id ∧ (s.rme.route id).state ≠ .active := by
  unfold State.routeMissing
  cases x.ref <;> simp

theorem suits_iff (m : BindMode) (x : Target) : m.suits x = true ↔
    (m = .toggle ↔ (∃ id, x = .routeMute id) ∨ ∃ n, x = .busMute n) := by
  cases m <;> cases x <;> simp [BindMode.suits, Target.isGain]

theorem clampTo_eq_iff (n : Nat) : (clampTo 1 60 n != n) = decide (n = 0 ∨ 60 < n) := by
  rw [clampTo, Bool.eq_iff_iff, bne_iff_ne, decide_eq_true_eq]
  omega

section
variable {origin control targetKind targetIndex mode step feedback : Byte}

theorem bindingOf_none (bad : controlOf origin control = none ∨ targetOf targetKind targetIndex = none ∨ bindModeOf mode = none ∨
    flagOf feedback = none) : bindingOf origin control targetKind targetIndex mode step feedback = none := by
  unfold bindingOf
  split
  · rename_i hc ht hm hf
    obtain h | h | h | h := bad <;> simp_all
  · rfl

theorem bindingOf_some {c : Control} {x : Target} {m : BindMode} {w : Bool} (hc : controlOf origin control = some c)
    (ht : targetOf targetKind targetIndex = some x) (hm : bindModeOf mode = some m) (hf : flagOf feedback = some w) :
    bindingOf origin control targetKind targetIndex mode step feedback =
      if m.suits x = true then some ⟨.active, .none, c, none, x, m, clampTo 1 60 step.toNat, w⟩ else none := by
  simp only [bindingOf, hc, ht, hm, hf]

theorem handleBindSet_range {index : Byte} (bad : 32 ≤ index.toNat ∨
    bindingOf origin control targetKind targetIndex mode step feedback = none) :
    handleBindSet index origin control targetKind targetIndex mode step feedback s = refuse s .outOfRange := by
  unfold handleBindSet
  split
  · rename_i hi hb
    obtain h | h := bad
    · rw [indexBelow_of_ge h] at hi
      cases hi
    · rw [h] at hb
      cases hb
  · rfl

theorem handleBindSet_some {index : Byte} {b : Binding} (inside : index.toNat < 32)
    (hb : bindingOf origin control targetKind targetIndex mode step feedback = some b) :
    handleBindSet index origin control targetKind targetIndex mode step feedback s =
      if s.controlTaken index.toNat b.control then refuse s .inUse
      else if s.moduleMissing b.control then refuse s .notFound
      else if s.routeMissing b.target then refuse s .notFound
      else ⟨schedule (storeBinding index.toNat { b with serial := s.serialOf b.control } s), adjustedIf (b.step != step.toNat),
        some (.binding { b with serial := s.serialOf b.control })⟩ := by
  simp only [handleBindSet, indexBelow_of_lt inside, hb]

theorem controlOf_number {c : Control} (hc : controlOf origin control = some c) (bank : c.origin = .bank) : c.number < 8 := by
  unfold controlOf at hc
  split at hc
  · split at hc
    · cases hc
      show control.toNat < 8
      omega
    · cases hc
  · split at hc
    · cases hc
      cases bank
    · cases hc
  · cases hc

end

/-- The binding stored, before its feedback. -/
def bindingStored (i : Nat) (b : Binding) (s : State) : State :=
  (s.withRme (unheldBy (s.binding i) s.rme)).withBdt (s.bdt.set i b)

theorem storeBinding_eq (i : Nat) (b : Binding) (s : State) :
    storeBinding i b s = if b.feedback then sendFeedback b (bindingStored i b s) else bindingStored i b s := by
  simp only [storeBinding, releaseHold_unheld]
  rfl

theorem reaches_bindingStored (i : Nat) (b : Binding) (s : State) : Reaches [.rme, .bdt] s (bindingStored i b s) :=
  (reaches_withRme s _).andThen (reaches_withBdt _ _)

theorem channel_set {v : Fsv} {i : Nat} (inside : i < v.channels.length) (f : Fader) :
    Fsv.channel { v with channels := v.channels.set i f } i = f := by
  simp [Fsv.channel, inside]

theorem channel_set_ne {v : Fsv} {i n : Nat} (other : n ≠ i) (f : Fader) :
    Fsv.channel { v with channels := v.channels.set i f } n = v.channel n := by
  simp [Fsv.channel, List.getD, other.symm]

theorem headed_target (f : Fader) (target : Nat) : (headed f target).target = target := by
  unfold headed
  cases f.state <;> dsimp only <;> split <;> rfl

/-- R191: the channel that a binding's feedback heads for its target. -/
theorem sendFeedback_target {b : Binding} (bank : b.control.origin = .bank) (number : b.control.number < s.fsv.channels.length)
    (enabled : (s.fsv.channel b.control.number).state ≠ .disabled) (free : (s.fsv.channel b.control.number).touch = false) :
    ((sendFeedback b s).fsv.channel b.control.number).target = feedbackValue b.mode true (s.rme.level b.target.ref) := by
  have takes : (s.fsv.channel b.control.number).takesTarget = true := by simp [takesTarget_iff, enabled, free]
  have sent : sendFeedback b s = changeFader b.control.number
      (fun f => f.aimed (feedbackValue b.mode true (s.rme.level b.target.ref))) s := by
    simp only [sendFeedback, bank, aimFader, if_pos takes]
  rw [sent, changeFader_fsv, channel_set number, aimed_headed, headed_target]

end

/-! ## Events (R187 to R190) and filters (R168) -/

section
variable {s : State} {i : Nat} {b : Binding} {e : SurfaceEvent}

/-- R184: the event acts on the one binding of its control. -/
theorem bindingEvent_bound (apart : s.bdt.Pairwise (fun b d => b.state ≠ .empty → d.state ≠ .empty → b.control ≠ d.control))
    (there : s.bdt[i]? = some b) (active : b.state = .active) (control : b.control = e.control) :
    bindingEvent e s = boundEvent i b e s := by
  have found : (numbered 0 s.bdt).find? (fun (_, b) => b.state != .empty && b.control == e.control) = some (i, b) := by
    have some_ : ((numbered 0 s.bdt).find? (fun (_, b) => b.state != .empty && b.control == e.control)).isSome = true := by
      rw [List.find?_isSome]
      exact ⟨(i, b), mem_numbered.mpr ⟨Nat.zero_le i, there⟩, by simp [active, control]⟩
    obtain ⟨⟨j, d⟩, is⟩ := Option.isSome_iff_exists.mp some_
    obtain ⟨-, other⟩ := mem_numbered.mp (List.mem_of_find?_eq_some is)
    have passes := List.find?_some is
    simp only [Bool.and_eq_true, bne_iff_ne, beq_iff_eq] at passes
    obtain ⟨used, same⟩ := passes
    rw [Nat.sub_zero] at other
    have used' : b.state ≠ .empty := by simp [active]
    obtain ⟨hi, rfl⟩ := List.getElem?_eq_some_iff.mp there
    obtain ⟨hj, rfl⟩ := List.getElem?_eq_some_iff.mp other
    rw [List.pairwise_iff_getElem] at apart
    rw [is]
    obtain below | rfl | above := Nat.lt_trichotomy i j
    · exact absurd (control.trans same.symm) (apart i j hi hj below used' used)
    · rfl
    · exact absurd (same.trans control.symm) (apart j i hj hi above used used')
  unfold bindingEvent
  split
  · rename_i j d is
    cases found.symm.trans is
    exact if_pos active
  · rename_i is
    cases found.symm.trans is

theorem bindingEvent_unbound (none_ : ∀ b ∈ s.bdt, b.state = .active → b.control ≠ e.control) : bindingEvent e s = s := by
  unfold bindingEvent
  split
  · rename_i j d is
    obtain ⟨-, there⟩ := mem_numbered.mp (List.mem_of_find?_eq_some is)
    have passes := List.find?_some is
    simp only [Bool.and_eq_true, bne_iff_ne, beq_iff_eq] at passes
    exact if_neg fun active => none_ d (List.mem_of_getElem? there) active passes.2
  · rfl

/-! ### The taper (R191) -/

theorem taper_tenths {p : Nat} (low : 1 ≤ p) (high : p ≤ 1023) : ∃ n, taper p = .tenths n ∧ n ≤ 100 := by
  unfold taper
  rw [if_neg (by omega)]
  split
  · exact ⟨_, rfl, by omega⟩
  · split
    · exact ⟨_, rfl, by omega⟩
    · exact ⟨_, rfl, by omega⟩

theorem taperAtLeast_tenths {p : Nat} {n : Int} (is : taper p = .tenths n) (g : Int) : taperAtLeast g p = decide (g ≤ n) := by
  simp only [taperAtLeast, is]

/-- The first position from `p` that reaches a gain, or the last looked at. -/
theorem inverseFrom_spec (g : Int) (n p : Nat) : p ≤ inverseFrom g n p ∧ inverseFrom g n p ≤ p + n ∧
    (∀ q, p ≤ q → q < inverseFrom g n p → taperAtLeast g q = false) ∧
    (inverseFrom g n p < p + n → taperAtLeast g (inverseFrom g n p) = true) := by
  induction n generalizing p with
  | zero => exact ⟨Nat.le_refl _, Nat.le_refl _, fun q low high => absurd high (Nat.not_lt.mpr low), fun less => absurd less (Nat.lt_irrefl _)⟩
  | succ n ih =>
    unfold inverseFrom
    split
    · rename_i reaches
      exact ⟨Nat.le_refl _, by omega, fun q low high => absurd high (Nat.not_lt.mpr low), fun _ => reaches⟩
    · rename_i fails
      obtain ⟨low, high, before, there⟩ := ih (p + 1)
      refine ⟨by omega, by omega, fun q above below => ?_, fun less => there (by omega)⟩
      obtain rfl | later := Nat.eq_or_lt_of_le above
      · simpa using fails
      · exact before q later below

theorem fdiv_ofNat (a b : Nat) : Int.fdiv (a : Int) (b : Int) = ((a / b : Nat) : Int) := by
  rw [Int.fdiv_eq_ediv_of_nonneg _ (Int.natCast_nonneg b)]
  rfl

theorem taper_eq (p : Nat) : taper p = if p = 0 then .off else .tenths (
    if p ≤ 255 then -1200 + Int.fdiv ((p - 1 : Int) * 800) 254
    else if p ≤ 767 then -400 + Int.fdiv ((p - 256 : Int) * 400) 511 else Int.fdiv ((p - 768 : Int) * 100) 255) := by
  have shifted {k : Nat} (above : k ≤ p) (m d : Nat) : Int.fdiv (((p : Int) - k) * m) d = (((p - k) * m / d : Nat) : Int) := by
    rw [← fdiv_ofNat, Nat.cast_mul, Nat.cast_sub above]
  unfold taper
  by_cases zero : p = 0
  · rw [if_pos zero, if_pos zero]
  rw [if_neg zero, if_neg zero]
  by_cases first : p ≤ 255
  · rw [if_pos first, if_pos first, ← shifted (k := 1) (by omega) 800 254]
    rfl
  rw [if_neg first, if_neg first]
  by_cases second : p ≤ 767
  · rw [if_pos second, if_pos second, ← shifted (k := 256) (by omega) 400 511]
    rfl
  · rw [if_neg second, if_neg second, ← shifted (k := 768) (by omega) 100 255]
    rfl

/-- R191: the lowest position that reaches a gain. -/
theorem inversePosition_tenths {g : Int} : 1 ≤ inversePosition (.tenths g) ∧ inversePosition (.tenths g) ≤ 1023 ∧
    (∀ q, 1 ≤ q → q < inversePosition (.tenths g) → ∃ n, taper q = .tenths n ∧ n < g) ∧
    (g ≤ 100 → ∃ n, taper (inversePosition (.tenths g)) = .tenths n ∧ g ≤ n) ∧ (100 < g → inversePosition (.tenths g) = 1023) := by
  obtain ⟨low, high, before, there⟩ := inverseFrom_spec g 1022 1
  have is : inversePosition (.tenths g) = inverseFrom g 1022 1 := rfl
  rw [is]
  obtain ⟨n, reached, most⟩ := taper_tenths low (Nat.le_trans high (by omega))
  refine ⟨low, by omega, fun q above below => ?_, fun small => ⟨n, reached, ?_⟩, fun large => ?_⟩
  · obtain ⟨n, is, -⟩ := taper_tenths above (by omega)
    have fails := before q above below
    rw [taperAtLeast_tenths is, decide_eq_false_iff_not] at fails
    exact ⟨n, is, by omega⟩
  · by_cases last : inverseFrom g 1022 1 < 1 + 1022
    · simpa [taperAtLeast_tenths reached] using there last
    · have top : inverseFrom g 1022 1 = 1023 := by omega
      rw [top] at reached
      have full : taper 1023 = .tenths 100 := rfl
      cases full.symm.trans reached
      exact small
  · by_contra short
    have fits := there (by omega)
    rw [taperAtLeast_tenths reached, decide_eq_true_eq] at fits
    omega

/-! ### The filters (R168) -/

theorem matchesEvent_iff (f : Filter) (e : SurfaceEvent) : f.matchesEvent e = true ↔
    f.enable = true ∧ (f.origin = none ∨ f.origin = some e.control.origin) ∧ f.low ≤ e.control.number ∧ e.control.number ≤ f.high ∧
      f.kinds.getLsbD e.kind.code = true := by
  simp only [Filter.matchesEvent, Bool.and_eq_true, Bool.or_eq_true, beq_iff_eq, decide_eq_true_eq, and_assoc]

/-- The first of a list that passes a test, with its place. -/
theorem find_numbered {α : Type} {test : α → Bool} {before : List α} {x : α} (after : List α) (passes : test x = true)
    (others : ∀ y ∈ before, test y = false) (n : Nat) :
    (numbered n (before ++ x :: after)).find? (fun (_, y) => test y) = some (n + before.length, x) := by
  induction before generalizing n with
  | nil => simp only [List.nil_append, numbered, List.find?_cons, passes, List.length_nil, Nat.add_zero]
  | cons y rest ih =>
    simp only [List.cons_append, numbered, List.find?_cons, others y (by simp)]
    rw [ih (fun z hz => others z (by simp [hz])), List.length_cons]
    congr 2
    omega

theorem decision_first {v : Evf} {before : List Filter} {f : Filter} {after : List Filter} (filters : v.filters = before ++ f :: after)
    (hears : f.matchesEvent e = true) (others : ∀ g ∈ before, g.matchesEvent e = false) :
    v.decision e = (before.length, f.action) := by
  have found := find_numbered (test := fun f => Filter.matchesEvent f e) after hears others 0
  rw [Nat.zero_add, ← filters] at found
  unfold Evf.decision
  split
  · rename_i is
    cases found.symm.trans is
    rfl
  · rename_i is
    cases found.symm.trans is

theorem decision_default {v : Evf} (none_ : ∀ f ∈ v.filters, f.matchesEvent e = false) : v.decision e = (255, v.default) := by
  unfold Evf.decision
  split
  · rename_i n f is
    obtain ⟨-, there⟩ := mem_numbered.mp (List.mem_of_find?_eq_some is)
    have passes := List.find?_some is
    cases (none_ f (List.mem_of_getElem? there)).symm.trans passes
  · rfl

end

end Sys2Proof.Machine

open Sys2Proof.Machine Sys2Proof.Safety in
/-- Settles O57, by the checks in their order. -/
theorem bindingCommands : Obligations.BindingCommands := by
  intro tag index s takes size i
  refine ⟨fun high => exec_refused rfl rfl takes ?_, fun inside empty => exec_refused rfl rfl takes ?_, fun inside used => ?_,
    exec_accepted rfl rfl takes ?_, fun origin control targetKind targetIndex mode step feedback => ?_⟩
  · simp only [handleBindClear, indexBelow_of_ge high]
  · simp only [handleBindClear, indexBelow_of_lt inside]
    exact if_pos empty
  · refine exec_accepted rfl rfl takes ?_
    have released := releaseHold_unheld (s.binding i) s
    rw [if_neg used] at released
    simp only [handleBindClear, indexBelow_of_lt inside]
    refine (if_neg used).trans ?_
    show accept ((releaseHold (s.binding i) s).withBdt ((releaseHold (s.binding i) s).bdt.set i Binding.emptyEntry)) none = _
    rw [released]
    rfl
  · have holds (b : Binding) : s.holds b = decide (b.state ≠ .empty ∧ (s.rme.level b.target.ref).holder = some b.control) := by
      rw [State.holds, Bool.eq_iff_iff, Bool.and_eq_true, bne_iff_ne, beq_iff_eq, decide_eq_true_eq]
    simp only [handleBindList, holds]
  · intro row
    refine ⟨fun bad => exec_refused rfl rfl takes (handleBindSet_range (bad.imp_right bindingOf_none)), fun c x m w inside hc hx hm hw => ?_⟩
    intro suits taken absent idle
    have made := bindingOf_some (step := step) hc hx hm hw
    have isTaken : s.controlTaken i c = true ↔ taken := controlTaken_iff size i c
    refine ⟨fun unsuited => exec_refused rfl rfl takes (handleBindSet_range (.inr ?_)), fun suited inUse => exec_refused rfl rfl takes ?_,
      fun suited free lacks => exec_refused rfl rfl takes ?_, fun suited free present active left => ?_⟩
    · rw [made, if_neg fun h => unsuited ((suits_iff m x).mp h)]
    · rw [if_pos ((suits_iff m x).mpr suited)] at made
      rw [handleBindSet_some inside made]
      exact if_pos (isTaken.mpr inUse)
    · rw [if_pos ((suits_iff m x).mpr suited)] at made
      rw [handleBindSet_some inside made]
      refine (if_neg fun h => free (isTaken.mp h)).trans ?_
      by_cases missing : absent
      · exact if_pos ((moduleMissing_iff c).mpr missing)
      · refine (if_neg fun h => missing ((moduleMissing_iff c).mp h)).trans ?_
        exact if_pos ((routeMissing_iff x).mpr (lacks.resolve_left missing))
    · rw [if_pos ((suits_iff m x).mpr suited)] at made
      obtain ⟨b, hb⟩ : ∃ b : Binding, b = ⟨.active, .none, c, s.serialOf c, x, m, clampTo 1 60 step.toNat, w⟩ := ⟨_, rfl⟩
      obtain ⟨u, hu⟩ : ∃ u, u = storeBinding i b s := ⟨_, rfl⟩
      have runs : exec row s = .next (queueReply ⟨0x50, tag, if step.toNat = 0 ∨ 60 < step.toNat then .adjusted else .ok, some (.binding b)⟩
          (schedule u)) := by
        refine (exec_taken (c := row) rfl rfl takes).trans ?_
        rw [handleBindSet_some inside made, if_neg fun h => free (isTaken.mp h), if_neg fun h => present ((moduleMissing_iff c).mp h),
          if_neg fun h => active ((routeMissing_iff x).mp h), clampTo_eq_iff, hu, hb]
        show Host.Outcome.next (queueReply ⟨0x50, tag, adjustedIf (decide (step.toNat = 0 ∨ 60 < step.toNat)), _⟩ _) = _
        simp only [adjustedIf, decide_eq_true_eq]
        rfl
      have stored : Reaches [.rme, .bdt] s (bindingStored i b s) := reaches_bindingStored i b s
      have sends : Reaches [.records, .sou, .fsv] (bindingStored i b s) u := by
        rw [hu, storeBinding_eq]
        exact .ite (fun _ => reaches_sendFeedback b _) fun _ => .refl _
      have both := stored.andThen sends (rs := [.records, .rme, .sou, .bdt, .fsv])
      have picks := reaches_schedule_queued left (both.frame .phase (by decide)) (both.frame .sbc (by decide))
      have reach := both.andThen picks (rs := [.records, .rme, .sbc, .sou, .bdt, .fsv])
      have later := sends.andThen picks (rs := [.records, .sbc, .sou, .fsv])
      refine ⟨_, b, runs, answered_of_reaches reach, by rw [hb], by rw [hb], by rw [hb], by rw [hb], by rw [hb], by rw [hb], by rw [hb]; rfl,
        fun bank => ?_, fun a e remote there => ?_, later.frame .bdt (by decide), later.frame .rme (by decide),
        keepsBut_queueReply (keepsBut_of_reaches reach fun _ => id) _, fun off => ?_, fun on bank kind eight enabled untouched => ?_⟩
      · rw [hb]
        simp only [State.serialOf, bank]
      · rw [hb]
        simp only [State.serialOf, remote, there, Option.map_some]
      · have still : u = bindingStored i b s := by
          rw [hu, storeBinding_eq, if_neg (by simp [hb, off])]
        have nothing := schedule_nothing ((SameOffer.of_keeps (keepsBut_of_reaches stored fun _ => id)).nothingLeft left)
        rw [still, nothing]
        exact ⟨rfl, rfl⟩
      · have feedback_ : u = sendFeedback b (bindingStored i b s) := by
          rw [hu, storeBinding_eq, if_pos (by simp [hb, on])]
        have control_ : b.control = c := by rw [hb]
        have number := controlOf_number hc bank
        have heads := sendFeedback_target (b := b) (s := bindingStored i b s) (control_ ▸ bank)
          (by rw [control_]; exact eight ▸ number) (by rw [control_]; exact enabled) (by rw [control_]; exact untouched)
        have same : (schedule u).fsv = u.fsv := picks.frame .fsv (by decide)
        have value : feedbackValue b.mode true ((bindingStored i b s).rme.level b.target.ref) = inversePosition (s.rme.level x.ref).gain := by
          have target_ : b.target = x := by rw [hb]
          have mode_ : b.mode = m := by rw [hb]
          rw [← unheldBy_gain (s.binding i) s.rme x.ref, target_, mode_]
          cases m with
          | toggle => exact absurd rfl kind
          | absolute => rfl
          | relative => rfl
        rw [value, control_] at heads
        show ((schedule u).fsv.channel c.number).target = _
        rw [same, feedback_]
        exact heads

open Sys2Proof.Machine Sys2Proof.Safety in
/-- Settles O58, by the mode of the binding, by the taper's first position, and by the first filter that matches. -/
theorem eventsAtBindings : Obligations.EventsAtBindings := by
  refine ⟨fun i b e s sound inside is active control => ?_, fun e s none_ => bindingEvent_unbound none_, fun p _ => taper_eq p,
    ⟨rfl, fun g _ _ => ⟨_, rfl, inversePosition_tenths⟩⟩, fun e s => ?_⟩
  · intro x l held
    obtain ⟨size, -, -, -, apart, -⟩ := sound
    have there : s.bdt[i]? = some b := by
      rw [← is, State.binding, List.getElem?_eq_getElem (by omega), List.getD_eq_getElem _ _ (by omega)]
    have acts := bindingEvent_bound apart there active control
    rw [acts]
    refine ⟨fun mode => ?_, fun mode => ?_, fun mode => ⟨fun kind p value _ => ?_, fun kind value => ?_, fun kind value => ?_, fun fader touch => ?_⟩⟩
    · simp only [boundEvent, mode]
      rfl
    · simp only [boundEvent, mode]
      rfl
    · simp only [boundEvent, mode, absoluteEvent, kind, control, value, Int.toNat_natCast]
      cases s.touchCapable e.control <;> rfl
    · simp only [boundEvent, mode, absoluteEvent, kind, control, value]
      cases s.touchCapable e.control <;> simp [setHolder, held, l, x] <;> rfl
    · simp only [boundEvent, mode, absoluteEvent, kind, control, value]
      cases s.touchCapable e.control <;> simp [setHolder, held, l, x] <;> rfl
    · simp only [boundEvent, mode, absoluteEvent]
      cases kind : e.kind <;> simp_all
  · intro hears decides
    have hearsIff (f : Sys2Proof.Machine.Filter) : f.matchesEvent e = true ↔ hears f := matchesEvent_iff f e
    have deaf {f : Sys2Proof.Machine.Filter} (h : ¬ hears f) : f.matchesEvent e = false := Bool.eq_false_iff.mpr fun m => h ((hearsIff f).mp m)
    refine ⟨fun before f after filters is others => ?_, fun none_ => ?_⟩
    · simp only [decides, filterEvent, decision_first filters ((hearsIff f).mpr is) fun g hg => deaf (others g hg)]
    · simp only [decides, filterEvent, decision_default fun f hf => deaf (none_ f hf)]

end

section
/-! PROOFS. The fader commands and what leaves FAULT (O59). -/

namespace Sys2Proof.Machine
open Safety

/-! ## One channel under feedback (R191, R197) -/

/-- What a channel keeps when targets are handed to it: a DISABLED or touched one everything, another one its position, its touch
and its settings, and FAULT and HELD. -/
structure Fader.Heeds (f g : Fader) : Prop where
  position : g.position = f.position
  reported : g.reported = f.reported
  sensor : g.touchSensor = f.touchSensor
  touch : g.touch = f.touch
  frozen : f.state = .disabled ∨ f.touch = true → g = f
  stopped : f.state = .fault ∨ f.state = .held → g.state = f.state
  runs : f.state = .idle ∨ f.state = .moving ∨ f.state = .stalled → g.state = .idle ∨ g.state = .moving ∨ g.state = .stalled

section
variable {f g h : Fader}

theorem Fader.Heeds.refl (f : Fader) : f.Heeds f := ⟨rfl, rfl, rfl, rfl, fun _ => rfl, fun _ => rfl, id⟩

theorem Fader.Heeds.trans (first : f.Heeds g) (second : g.Heeds h) : f.Heeds h := by
  refine ⟨second.position.trans first.position, second.reported.trans first.reported, second.sensor.trans first.sensor,
    second.touch.trans first.touch, fun still => ?_, fun still => ?_, fun runs => second.runs (first.runs runs)⟩
  · obtain rfl := first.frozen still
    exact second.frozen still
  · have same := first.stopped still
    exact (second.stopped (same ▸ still)).trans same

theorem heeds_aimed {t : Nat} (takes : f.takesTarget = true) : f.Heeds (f.aimed t).1 := by
  rw [takesTarget_iff] at takes
  rw [aimed_headed]
  unfold headed
  cases state : f.state <;> dsimp only <;> try split
  all_goals exact ⟨rfl, rfl, rfl, rfl, fun h => absurd (state ▸ h) takes, by simp [state], by simp [state]⟩

end

/-- What the Fader Servo keeps when targets are handed to its channels. -/
structure Fsv.Heeds (v w : Fsv) : Prop where
  size : w.channels.length = v.channels.length
  supply : w.supplyGood = v.supplyGood
  channel : ∀ n, (v.channel n).Heeds (w.channel n)

section
variable {v w x : Fsv}

theorem Fsv.Heeds.refl (v : Fsv) : v.Heeds v := ⟨rfl, rfl, fun _ => .refl _⟩

theorem Fsv.Heeds.trans (first : v.Heeds w) (second : w.Heeds x) : v.Heeds x :=
  ⟨second.size.trans first.size, second.supply.trans first.supply, fun n => (first.channel n).trans (second.channel n)⟩

end

section
variable {s t : State}

theorem heeds_of_reaches {ps : List Part} (r : Reaches ps s t) (fsv : Part.fsv ∉ ps := by decide) : s.fsv.Heeds t.fsv := by
  rw [show t.fsv = s.fsv from r.frame .fsv fsv]
  exact .refl _

/-- R201: a channel after a change of it or of another. -/
theorem changeFader_channel (i : Nat) (op : Fader → Fader × Option FaderReason) (s : State) (n : Nat) :
    (changeFader i op s).fsv.channel n =
      if n = i ∧ i < s.fsv.channels.length then (op (s.fsv.channel i)).1 else s.fsv.channel n := by
  rw [changeFader_fsv]
  by_cases same : n = i
  · subst same
    by_cases inside : n < s.fsv.channels.length
    · rw [if_pos ⟨rfl, inside⟩, channel_set inside]
    · rw [if_neg fun h => inside h.2, List.set_eq_of_length_le (Nat.le_of_not_lt inside)]
  · rw [if_neg fun h => same h.1, channel_set_ne same]

theorem heeds_aimFader (i p : Nat) (s : State) : s.fsv.Heeds (aimFader i p s).fsv := by
  unfold aimFader
  split
  · rename_i takes
    refine ⟨by rw [changeFader_fsv, List.length_set], by rw [changeFader_fsv], fun n => ?_⟩
    rw [changeFader_channel]
    split
    · rename_i here
      rw [here.1]
      exact heeds_aimed takes
    · exact .refl _
  · exact .refl _

theorem heeds_sendFeedback (b : Binding) (s : State) : s.fsv.Heeds (sendFeedback b s).fsv := by
  unfold sendFeedback
  dsimp only
  split
  · exact heeds_aimFader ..
  · split
    · exact .refl _
    · exact heeds_of_reaches (reaches_handFrame ..)

variable {v : Fsv} (h : v.Heeds s.fsv)
include h

theorem heeds_setTarget (x : LevelRef) (g : Option Gain) (m : Option Bool) (cause : Option Nat) : v.Heeds (setTarget x g m cause s).fsv :=
  feedbackAll_keeps (P := fun s => v.Heeds s.fsv) (fun b s h => h.trans (heeds_sendFeedback b s)) _ _ _ _
    (h.trans (heeds_of_reaches (reaches_withRme s _)))

theorem heeds_boundEvent (i : Nat) (b : Binding) (e : SurfaceEvent) : v.Heeds (boundEvent i b e s).fsv := by
  have held (x : LevelRef) (c : Option Control) : v.Heeds (setHolder x c s).fsv := h.trans (heeds_of_reaches (reaches_setHolder ..))
  have target := heeds_setTarget h
  unfold boundEvent absoluteEvent relativeEvent toggleEvent
  dsimp only
  split
  · split
    · split
      · split
        · exact held ..
        · exact h
      · split
        · exact held ..
        · exact h
    · split
      · exact target ..
      · exact h
    · split
      · exact target ..
      · exact h
    · exact h
  · split
    · exact target ..
    · exact h
  · split
    · exact target ..
    · exact h

theorem heeds_deliverEvent (e : SurfaceEvent) : v.Heeds (deliverEvent e s).fsv :=
  deliverEvent_keeps (P := fun s => v.Heeds s.fsv) (fun i b e _ _ _ _ h => heeds_boundEvent h i b e)
    (fun b s h => h.trans (heeds_of_reaches (reaches_notify b s))) e h

theorem heeds_reattach (a : Nat) (x : Serial) : v.Heeds (reattach a x s).fsv := by
  refine foldl_keeps (P := fun s => v.Heeds s.fsv) (fun s b _ h => ?_) (h.trans (heeds_of_reaches (reaches_withBdt s _)))
  split
  · exact h.trans (heeds_sendFeedback b s)
  · exact h

theorem heeds_stepResult (r : TxnResult) : v.Heeds (stepResult r s).fsv := by
  unfold stepResult
  split
  · exact h.trans (heeds_of_reaches (reaches_callResult ..))
  · simp only [assignResult]
    have moved : v.Heeds (setSearch s.sbc.search.stepOver s).fsv := h
    split
    · exact moved
    · split
      · exact heeds_reattach (moved.trans (heeds_of_reaches
          ((reaches_putEntry _ _).andThen (reaches_notify _ _) (rs := [.records, .mtb])))) ..
      · exact moved.trans (heeds_of_reaches (reaches_removeModule ..))
  · exact h
  · exact h

theorem heeds_endTxn (x : Txn) (r : TxnResult) : v.Heeds (endTxn x r s).fsv := by
  refine endTxn_keeps (P := fun s => v.Heeds s.fsv) (Q := fun s => v.Heeds s.fsv) h
    (fun t h => h.trans (heeds_of_reaches (reaches_judgeModule ..)))
    (fun _ _ t => takeEvents_keeps (P := fun s => v.Heeds s.fsv) (fun e s _ h => heeds_deliverEvent h e) (fun s h => h) _ _ _) (fun t h => ?_)
  unfold toOwner
  split
  · exact h
  · exact h
  · exact heeds_stepResult h r
  · exact h.trans (heeds_of_reaches (reaches_frameOutcome ..))

theorem heeds_endTxnIn (phases : List TxnPhase) (r : TxnResult) : v.Heeds (endTxnIn phases r s).fsv := by
  unfold endTxnIn
  split
  · split
    · exact heeds_endTxn h _ r
    · exact h
  · exact h

theorem heeds_schedule : v.Heeds (schedule s).fsv := h.trans (heeds_of_reaches (reaches_schedule s))

theorem heeds_storeBinding (i : Nat) (b : Binding) : v.Heeds (storeBinding i b s).fsv := by
  have stored : v.Heeds (bindingStored i b s).fsv := h.trans (heeds_of_reaches (reaches_bindingStored ..))
  rw [storeBinding_eq]
  split
  · exact stored.trans (heeds_sendFeedback ..)
  · exact stored

end

/-! ## Rows that hand targets to the channels alone -/

/-- The commands that change a channel otherwise: RESET, FADER_CONFIG and FADER_CLEAR. -/
def setsFader : Instr → Bool
  | .reset .. | .faderConfig .. | .faderClear .. => true
  | _ => false

/-- The events that change a channel otherwise: POWER_ON, the servo period, the motion timer and the supply input. -/
def drivesFader : Instr → Bool
  | .powerOn .. | .servoPeriod .. | .motionTimerExpiry .. | .supplyLow .. | .supplyBack .. => true
  | _ => false

theorem heeds_scheduled {s t u : State} (becomes : u = s ∨ u = schedule t) (heeds : s.fsv.Heeds t.fsv) : s.fsv.Heeds u.fsv := by
  obtain rfl | rfl := becomes
  · exact .refl _
  · exact heeds_schedule heeds

theorem handler_heeds {c : Instr} {handle : State → Handled} (hc : handlerOf c = some handle) (leaves : setsFader c = false) (s : State) :
    s.fsv.Heeds (handle s).state.fsv := by
  have reach := handler_reaches hc s
  cases c <;> cases hc
  case reset => cases leaves
  case faderConfig => cases leaves
  case faderClear => cases leaves
  case faderMove channel position =>
    unfold handleFaderMove
    split
    · exact .refl _
    · dsimp only
      split
      · exact .refl _
      split
      · exact .refl _
      · exact heeds_aimFader ..
  case routeSetGain id gain =>
    obtain same | ⟨n, g, -, -, -, is⟩ := state_handleRouteSetGain (s := s) id gain
    · exact heeds_scheduled (t := s) (.inl same) (.refl _)
    · exact heeds_scheduled (.inr is) (heeds_setTarget (.refl _) ..)
  case routeSetMute id mute =>
    obtain same | ⟨n, b, -, -, is⟩ := state_handleRouteSetMute (s := s) id mute
    · exact heeds_scheduled (t := s) (.inl same) (.refl _)
    · exact heeds_scheduled (.inr is) (heeds_setTarget (.refl _) ..)
  case busSet bus flags gain mute =>
    obtain same | ⟨_, _, _, _, _, -, -, is⟩ := state_handleBusSet (s := s) bus flags gain mute
    · exact heeds_scheduled (t := s) (.inl same) (.refl _)
    · exact heeds_scheduled (.inr is) (heeds_setTarget (.refl _) ..)
  case bindSet index origin control targetKind targetIndex mode step feedback =>
    obtain same | ⟨_, _, -, -, -, -, -, is⟩ :=
      state_handleBindSet (s := s) index origin control targetKind targetIndex mode step feedback
    · exact heeds_scheduled (t := s) (.inl same) (.refl _)
    · exact heeds_scheduled (.inr is) (heeds_storeBinding (.refl _) ..)
  all_goals
    dsimp only [reachOf] at reach
    exact heeds_of_reaches reach

theorem event_heeds {c : Instr} (hc : commandOf c = none) (take : c ≠ .takeCommand) (leaves : drivesFader c = false) {s t : State}
    (hx : exec c s = .next t) : s.fsv.Heeds t.fsv := by
  have reach := event_reaches_of_next hc take hx
  cases c <;> cases hc <;> cases hx
  case takeCommand => exact absurd rfl take
  case powerOn => cases leaves
  case servoPeriod => cases leaves
  case motionTimerExpiry => cases leaves
  case supplyLow => cases leaves
  case supplyBack => cases leaves
  case frameSendingEnd =>
    split
    · split
      · split
        · exact heeds_endTxn (heeds_of_reaches (reaches_withSbc ..)) ..
        · exact .refl _
      · exact .refl _
    · exact .refl _
  case replyWindowExpiry =>
    split
    · exact .refl _
    · exact heeds_endTxnIn (.refl _) ..
  case replyCorrupt => exact heeds_endTxnIn (.refl _) ..
  case replyComplete =>
    split
    · split
      · split
        · exact heeds_endTxn (.refl _) ..
        · exact .refl _
      · exact .refl _
    · exact .refl _
  case lineBreakStart => exact heeds_endTxnIn (heeds_of_reaches (reaches_withSbc ..)) ..
  all_goals
    dsimp only [reachOf] at reach
    exact heeds_of_reaches reach

/-! ## The servo period channel by channel (R194, R195) -/

/-- Another channel at the servo's work on one channel. -/
structure Away (i : Nat) (s t : State) : Prop where
  size : t.fsv.channels.length = s.fsv.channels.length
  others : ∀ n, n ≠ i → (s.fsv.channel n).Heeds (t.fsv.channel n)

section
variable {i n : Nat} {s t u : State}

theorem Away.trans (first : Away i s t) (second : Away i t u) : Away i s u :=
  ⟨second.size.trans first.size, fun n other => (first.others n other).trans (second.others n other)⟩

theorem away_of_heeds (heeds : s.fsv.Heeds t.fsv) : Away i s t := ⟨heeds.size, fun n _ => heeds.channel n⟩

theorem away_changeFader (i : Nat) (op : Fader → Fader × Option FaderReason) (s : State) : Away i s (changeFader i op s) := by
  refine ⟨by rw [changeFader_fsv, List.length_set], fun n other => ?_⟩
  rw [changeFader_channel, if_neg fun h => other h.1]
  exact .refl _

theorem changeFader_self (inside : i < s.fsv.channels.length) (op : Fader → Fader × Option FaderReason) :
    (changeFader i op s).fsv.channel i = (op (s.fsv.channel i)).1 := by
  rw [changeFader_channel, if_pos ⟨rfl, inside⟩]

theorem heeds_delivered (e : SurfaceEvent) (s : State) : s.fsv.Heeds (deliverEvent e s).fsv := heeds_deliverEvent (.refl _) e

theorem away_emitMoved (i k : Nat) (s : State) : Away i s (emitMoved i k s) := by
  unfold emitMoved emitPosition
  dsimp only
  split
  · exact (away_changeFader ..).trans (away_of_heeds (heeds_delivered ..))
  · exact away_of_heeds (.refl _)

theorem emitMoved_self (inside : i < s.fsv.channels.length) (k : Nat) :
    ∃ r, Fader.Heeds { s.fsv.channel i with reported := r } ((emitMoved i k s).fsv.channel i) := by
  unfold emitMoved emitPosition
  dsimp only
  split
  · have heeds := (heeds_delivered (localEvent i .fader (s.fsv.channel i).position s)
      (changeFader i (fun f => ({ f with reported := (s.fsv.channel i).position }, none)) s)).channel i
    rw [changeFader_self inside] at heeds
    exact ⟨_, heeds⟩
  · exact ⟨(s.fsv.channel i).reported, .refl _⟩

theorem emitMoved_held (inside : i < s.fsv.channels.length) (k : Nat) (touch : (s.fsv.channel i).touch = true) :
    ∃ r, (emitMoved i k s).fsv.channel i = { s.fsv.channel i with reported := r } := by
  obtain ⟨r, heeds⟩ := emitMoved_self inside k
  exact ⟨r, heeds.frozen (.inr touch)⟩

/-- What touch makes of the channel that it is handled for. -/
structure Fader.Sensed (f g : Fader) : Prop where
  position : g.position = f.position
  touch : g.touch = f.touchSensor
  stopped : f.state = .fault ∨ f.state = .held → g.state = f.state
  held : f.touchSensor = true → g.state = (if f.touch = false ∧ (f.state = .moving ∨ f.state = .stalled) then .idle else f.state) ∧
    g.duty = if f.touch = false ∧ (f.state = .moving ∨ f.state = .stalled) then 0 else f.duty

theorem touchStep_disabled (off : (s.fsv.channel i).state = .disabled) : touchStep i s = s := if_pos off

theorem touched_spec (f : Fader) : f.touched.1.position = f.position ∧ f.touched.1.touch = true ∧
    f.touched.1.state = (if f.state = .moving ∨ f.state = .stalled then .idle else f.state) ∧
    f.touched.1.duty = if f.state = .moving ∨ f.state = .stalled then 0 else f.duty := by
  unfold Fader.touched Fader.rested
  cases f.state <;> simp

theorem away_touchStep (i : Nat) (s : State) : Away i s (touchStep i s) := by
  unfold touchStep
  dsimp only
  split
  · exact away_of_heeds (.refl _)
  split
  · exact ((away_changeFader ..).trans (away_of_heeds (heeds_delivered ..))).trans (away_emitMoved ..)
  split
  · exact away_emitMoved ..
  split
  · exact ((away_emitMoved ..).trans (away_changeFader ..)).trans ((away_of_heeds (heeds_delivered ..)).trans (away_changeFader ..))
  · exact away_of_heeds (.refl _)

theorem touchStep_self (inside : i < s.fsv.channels.length) (on : (s.fsv.channel i).state ≠ .disabled) :
    (s.fsv.channel i).Sensed ((touchStep i s).fsv.channel i) := by
  obtain ⟨f, hf⟩ : ∃ f, f = s.fsv.channel i := ⟨_, rfl⟩
  unfold touchStep
  rw [← hf] at on ⊢
  dsimp only
  rw [if_neg on]
  split
  · rename_i comes
    simp only [Bool.and_eq_true, Bool.not_eq_true'] at comes
    obtain ⟨sensor, free⟩ := comes
    obtain ⟨position, touch, state, duty⟩ := touched_spec f
    obtain ⟨t, ht⟩ : ∃ t, t = changeFader i Fader.touched s := ⟨_, rfl⟩
    have own : t.fsv.channel i = f.touched.1 := by rw [ht, changeFader_self inside, hf]
    have heeds := heeds_delivered (localEvent i .touch 1 t) t
    have told : (deliverEvent (localEvent i .touch 1 t) t).fsv.channel i = f.touched.1 := by
      rw [(heeds.channel i).frozen (.inr (by rw [own, touch])), own]
    have size : i < (deliverEvent (localEvent i .touch 1 t) t).fsv.channels.length := by
      rw [heeds.size, ht, changeFader_fsv, List.length_set]
      exact inside
    obtain ⟨r, is⟩ := emitMoved_held size 2 (by rw [told, touch])
    rw [← ht, is, told]
    refine ⟨position, touch.trans sensor.symm, fun still => ?_, fun _ => ⟨?_, ?_⟩⟩
    · refine state.trans (if_neg ?_)
      obtain h | h := still <;> simp [h]
    · simp only [free, true_and]
      exact state
    · simp only [free, true_and]
      exact duty
  · rename_i comes
    split
    · rename_i sensor
      have touch : f.touch = true := by simpa [sensor] using comes
      obtain ⟨r, is⟩ := emitMoved_held inside 2 (by rw [← hf, touch])
      rw [is, ← hf]
      refine ⟨rfl, touch.trans sensor.symm, fun _ => rfl, fun _ => ⟨?_, ?_⟩⟩
      · rw [if_neg fun h => by simp [touch] at h]
      · rw [if_neg fun h => by simp [touch] at h]
    · rename_i sensor
      have off : f.touchSensor = false := Bool.eq_false_iff.mpr sensor
      split
      · rename_i touch
        obtain ⟨r, is⟩ := emitMoved_held inside 1 (by rw [← hf, touch])
        obtain ⟨t, ht⟩ : ∃ t, t = changeFader i (fun f => ({ f with touch := false }, none)) (emitMoved i 1 s) := ⟨_, rfl⟩
        have size : i < t.fsv.channels.length := by
          rw [ht, changeFader_fsv, List.length_set, (away_emitMoved i 1 s).size]
          exact inside
        have own : t.fsv.channel i = { f with reported := r, touch := false } := by
          rw [ht, changeFader_self (by rw [(away_emitMoved i 1 s).size]; exact inside), is, hf]
        have heeds := heeds_delivered (localEvent i .touch 0 t) t
        have told := heeds.channel i
        rw [own] at told
        rw [← ht, changeFader_self (by rw [heeds.size]; exact size)]
        exact ⟨told.position, told.touch.trans off.symm, fun still => told.stopped still, fun h => by simp [off] at h⟩
      · rename_i touch
        have free : f.touch = false := Bool.eq_false_iff.mpr touch
        rw [← hf]
        exact ⟨rfl, free.trans off.symm, fun _ => rfl, fun h => by simp [off] at h⟩

/-- The servo's work on several channels, one after another. -/
theorem touchSteps_away {is : List Nat} (other : n ∉ is) (s : State) :
    (is.foldl (fun s i => touchStep i s) s).fsv.channels.length = s.fsv.channels.length ∧
    (s.fsv.channel n).Heeds ((is.foldl (fun s i => touchStep i s) s).fsv.channel n) := by
  induction is generalizing s with
  | nil => exact ⟨rfl, .refl _⟩
  | cons i rest ih =>
    rw [List.mem_cons, not_or] at other
    have first := away_touchStep i s
    obtain ⟨size, heeds⟩ := ih other.2 (touchStep i s)
    exact ⟨size.trans first.size, (first.others n other.1).trans heeds⟩

theorem driveStep_channel (samples : List FaderSample) (i : Nat) (s : State) (n : Nat) (other : n ≠ i) :
    (driveStep samples i s).fsv.channel n = s.fsv.channel n := by
  unfold driveStep
  split
  · rfl
  · rw [changeFader_channel, if_neg fun h => other h.1]

theorem driveStep_size (samples : List FaderSample) (i : Nat) (s : State) :
    (driveStep samples i s).fsv.channels.length = s.fsv.channels.length := by
  unfold driveStep
  split
  · rfl
  · rw [changeFader_fsv, List.length_set]

theorem driveSteps_away {samples : List FaderSample} {is : List Nat} (other : n ∉ is) (s : State) :
    (is.foldl (fun s i => driveStep samples i s) s).fsv.channels.length = s.fsv.channels.length ∧
    (is.foldl (fun s i => driveStep samples i s) s).fsv.channel n = s.fsv.channel n := by
  induction is generalizing s with
  | nil => exact ⟨rfl, rfl⟩
  | cons i rest ih =>
    rw [List.mem_cons, not_or] at other
    obtain ⟨size, same⟩ := ih other.2 (driveStep samples i s)
    exact ⟨size.trans (driveStep_size ..), same.trans (driveStep_channel _ _ _ _ other.1)⟩

/-- R195: a channel acts on its sample. -/
theorem driveStep_self {samples : List FaderSample} {x : FaderSample} (there : samples[i]? = some x) (inside : i < s.fsv.channels.length) :
    (driveStep samples i s).fsv.channel i = if (s.fsv.channel i).state = .moving ∧ (s.fsv.channel i).touch = false then
      ((s.fsv.channel i).drive x.current).1 else s.fsv.channel i := by
  simp only [driveStep, there]
  rw [changeFader_self inside]
  split <;> rfl

theorem range_split {n : Nat} (inside : n < 8) : ∃ before after, List.range 8 = before ++ n :: after ∧ n ∉ before ∧ n ∉ after := by
  obtain ⟨before, after, split⟩ := List.append_of_mem (List.mem_range.mpr inside)
  have nodup := split ▸ (List.nodup_range (n := 8))
  have apart := List.nodup_middle.mp nodup
  rw [List.nodup_cons, List.mem_append, not_or] at apart
  exact ⟨before, after, split, apart.1.1, apart.1.2⟩

theorem sampleAll_channel {samples : List FaderSample} {x : FaderSample} (there : samples[n]? = some x) (inside : n < s.fsv.channels.length) :
    (sampleAll samples s).fsv.channel n = (s.fsv.channel n).settled.sampled x := by
  refine (getD_map_numbered inside _ Fader.powerOn Fader.powerOn).trans ?_
  simp only [there]
  rfl

theorem sampleAll_state (samples : List FaderSample) (inside : n < s.fsv.channels.length) :
    ((sampleAll samples s).fsv.channel n).state = (s.fsv.channel n).state := by
  refine (congrArg Fader.state (getD_map_numbered inside _ Fader.powerOn Fader.powerOn)).trans ?_
  dsimp only
  split <;> rfl

theorem sampleAll_size (samples : List FaderSample) (s : State) : (sampleAll samples s).fsv.channels.length = s.fsv.channels.length := by
  simp [sampleAll]

end

/-! ## FAULT (R199) -/

/-- A channel in FAULT. -/
def Faulted (n : Nat) (s : State) : Prop := n < s.fsv.channels.length ∧ (s.fsv.channel n).state = .fault

section
variable {n : Nat} {s t : State}

theorem faulted_of_heeds (h : Faulted n s) (heeds : s.fsv.Heeds t.fsv) : Faulted n t :=
  ⟨heeds.size ▸ h.1, ((heeds.channel n).stopped (.inl h.2)).trans h.2⟩

theorem faulted_changeFader (h : Faulted n s) (i : Nat) {op : Fader → Fader × Option FaderReason}
    (keeps : i = n → (op (s.fsv.channel n)).1.state = .fault) : Faulted n (changeFader i op s) := by
  refine ⟨by rw [changeFader_fsv, List.length_set]; exact h.1, ?_⟩
  rw [changeFader_channel]
  split
  · rename_i here
    rw [← here.1]
    exact keeps here.1.symm
  · exact h.2

theorem faulted_touchStep (h : Faulted n s) (i : Nat) : Faulted n (touchStep i s) := by
  have away := away_touchStep i s
  refine ⟨away.size ▸ h.1, ?_⟩
  by_cases same : n = i
  · subst same
    exact ((touchStep_self h.1 (by simp [h.2])).stopped (.inl h.2)).trans h.2
  · exact ((away.others n same).stopped (.inl h.2)).trans h.2

theorem faulted_driveStep (h : Faulted n s) (samples : List FaderSample) (i : Nat) : Faulted n (driveStep samples i s) := by
  unfold driveStep
  split
  · exact h
  · refine faulted_changeFader h i fun _ => ?_
    rw [if_neg fun moving => by simp [h.2] at moving]
    exact h.2

theorem faulted_changeAllFaders (h : Faulted n s) {op : Fader → Fader × Option FaderReason}
    (keeps : ∀ f : Fader, f.state = .fault → (op f).1.state = .fault) : Faulted n (changeAllFaders op s) :=
  foldl_keeps (P := Faulted n) (fun _ i _ h => faulted_changeFader h i fun _ => keeps _ h.2) h

theorem faulted_servo (h : Faulted n s) (samples : List FaderSample) : Faulted n (schedule
    ((List.range 8).foldl (fun s i => driveStep samples i s) ((List.range 8).foldl (fun s i => touchStep i s) (sampleAll samples s)))) := by
  have sampled : Faulted n (sampleAll samples s) := ⟨sampleAll_size samples s ▸ h.1, (sampleAll_state samples h.1).trans h.2⟩
  have touched := foldl_keeps (P := Faulted n) (xs := List.range 8) (fun _ i _ h => faulted_touchStep h i) sampled
  exact faulted_of_heeds (foldl_keeps (P := Faulted n) (xs := List.range 8) (fun _ i _ h => faulted_driveStep h samples i) touched)
    (heeds_of_reaches (reaches_schedule _))

end

/-! ## The commands (R193, R197, R199) -/

section
variable {i : Nat} {s t : State}

/-- A channel left as it is. -/
theorem changeFader_nothing (inside : i < s.fsv.channels.length) {op : Fader → Fader × Option FaderReason}
    (nothing : op (s.fsv.channel i) = (s.fsv.channel i, none)) : changeFader i op s = s := by
  have same : s.fsv.channels.set i (s.fsv.channel i) = s.fsv.channels := by
    rw [Fsv.channel, List.getD_eq_getElem _ _ inside]
    exact List.set_getElem_self inside
  simp only [changeFader, nothing, same]
  rfl

/-- R201: a change with its notice. -/
theorem changeFader_tells {op : Fader → Fader × Option FaderReason} {g : Fader} {r : FaderReason} (is : op (s.fsv.channel i) = (g, some r)) :
    changeFader i op s = notify (g.stateNotice i (s.fsv.channel i).state r) (putChannel i g s) := by
  simp only [changeFader, is]
  rfl

/-- A change without a notice. -/
theorem changeFader_silent {op : Fader → Fader × Option FaderReason} {g : Fader} (is : op (s.fsv.channel i) = (g, none)) :
    changeFader i op s = putChannel i g s := by
  simp only [changeFader, is]
  rfl

theorem handleFaderClear_inside {channel : Byte} (inside : channel.toNat < 8) : handleFaderClear channel s =
    accept (changeFader channel.toNat (fun f => f.clearFault s.fsv.supplyGood) s)
      (some (.faderStanding ((changeFader channel.toNat (fun f => f.clearFault s.fsv.supplyGood) s).fsv.channel channel.toNat).state)) := by
  simp only [handleFaderClear, indexBelow_of_lt inside]

theorem flagOf_false {b : Byte} (off : flagOf b = some false) : b = 0 := by
  unfold flagOf at off
  split at off
  · rename_i zero
    exact BitVec.eq_of_toNat_eq zero
  · cases off
  · cases off

theorem faderSettingsOf_enable {enable kp deadband minDuty maxDuty rest limit : Byte} {x : FaderSettings}
    (made : faderSettingsOf enable kp deadband minDuty maxDuty rest limit = some x) : flagOf enable = some x.enable := by
  unfold faderSettingsOf at made
  split at made
  · rename_i he _
    cases made
    exact he
  · cases made

/-- Settings that leave a channel enabled leave it in FAULT. -/
theorem configured_fault {f : Fader} {x : FaderSettings} (fault : f.state = .fault) (on : x.enable = true) (good : Bool) :
    (f.configured x good).1.state = .fault := by
  simp [Fader.configured, Fader.withSettings, fault, on]

theorem faulted_handler {c : Instr} {h : State → Handled} (hh : handlerOf c = some h) (fault : Faulted i s)
    (other : (¬ ∃ tag, c = .reset tag) ∧ (¬ ∃ tag n, c = .faderClear tag n ∧ n.toNat = i) ∧
      ¬ ∃ tag n kp deadband low high rest limit, c = .faderConfig tag n 0 kp deadband low high rest limit ∧ n.toNat = i) :
    Faulted i (h s).state := by
  obtain ⟨reset, clear, config⟩ := other
  have set (sets : setsFader c = true) : Faulted i (h s).state := by
    cases c <;> cases sets <;> cases hh
    case reset tag => exact absurd ⟨tag, rfl⟩ reset
    case faderClear tag channel =>
      unfold handleFaderClear
      split
      · exact fault
      · rename_i n hn
        refine faulted_changeFader fault n fun same => absurd ⟨tag, channel, rfl, ?_⟩ clear
        simp only [indexBelow, Option.ite_none_right_eq_some, Option.some.injEq] at hn
        omega
    case faderConfig tag channel enable kp deadband low high rest limit =>
      unfold handleFaderConfig
      split
      · rename_i n x hn hx
        have changed : Faulted i (changeFader n (fun f => f.configured x s.fsv.supplyGood) s) := by
          refine faulted_changeFader fault n fun same => configured_fault fault.2 ?_ _
          by_contra off
          have zero := flagOf_false ((faderSettingsOf_enable hx).trans (congrArg some (Bool.eq_false_iff.mpr off)))
          subst zero
          refine config ⟨tag, channel, kp, deadband, low, high, rest, limit, rfl, ?_⟩
          simp only [indexBelow, Option.ite_none_right_eq_some, Option.some.injEq] at hn
          omega
        unfold configureFader
        dsimp only
        split
        · exact faulted_of_heeds changed (heeds_of_reaches (reaches_releaseHolders ..))
        · exact changed
      · exact fault
  cases sets : setsFader c with
  | false => exact faulted_of_heeds fault (handler_heeds hh sets s)
  | true => exact set sets

theorem faulted_event {c : Instr} (hc : commandOf c = none) (take : c ≠ .takeCommand) (power : c ≠ .powerOn) (fault : Faulted i s)
    (hx : exec c s = .next t) : Faulted i t := by
  have driven (drives : drivesFader c = true) : Faulted i t := by
    cases c <;> cases drives <;> cases hx
    case powerOn => exact absurd rfl power
    case servoPeriod samples => exact faulted_servo fault samples
    case motionTimerExpiry channel =>
      refine faulted_changeFader fault _ fun _ => ?_
      rw [Fader.stall, if_neg (by simp [fault.2])]
      exact fault.2
    case supplyLow =>
      split
      · exact faulted_changeAllFaders (s := setSupply false s) fault fun f is => by simp [Fader.supplyLow, is]
      · exact fault
    case supplyBack =>
      split
      · exact fault
      · exact faulted_changeAllFaders (s := setSupply true s) fault fun f is => by simp [Fader.supplyBack, is]
  cases drives : drivesFader c with
  | false => exact faulted_of_heeds fault (event_heeds hc take drives hx)
  | true => exact driven drives

/-- R199: the only ways out of FAULT. -/
theorem leavesFault {c : Instr} (fault : Faulted i s) (hx : exec c s = .next t) (leaves : (t.fsv.channel i).state ≠ .fault) :
    c = .powerOn ∨ c = .takeCommand ∨ (∃ tag, c = .reset tag) ∨ (∃ tag n, c = .faderClear tag n ∧ n.toNat = i) ∨
    ∃ tag n kp deadband low high rest limit, c = .faderConfig tag n 0 kp deadband low high rest limit ∧ n.toNat = i := by
  by_contra unlisted
  simp only [not_or] at unlisted
  obtain ⟨power, take, other⟩ := unlisted
  refine leaves (And.right (a := i < t.fsv.channels.length) ?_)
  cases hc : commandOf c with
  | none => exact faulted_event hc take power fault hx
  | some row =>
    obtain ⟨h, hh, is⟩ := handlerOf_of_commandOf hc
    rw [is, takeRow] at hx
    cases hx
    split
    · exact faulted_handler hh fault other
    · exact fault

theorem clearFault_eq {f : Fader} (fault : f.state = .fault) (good : Bool) : f.clearFault good =
    ({ f with state := if good then .idle else .held, fault := .none, target := f.position, duty := 0, overRun := 0, openRun := 0 },
      some .cleared) := by
  cases good <;> simp [Fader.clearFault, fault, Fader.rested, Fader.heldBack]

theorem byte_le (b : Byte) : b.toNat ≤ 255 := Nat.le_of_lt_succ b.isLt

/-- R193: the settings that a channel stores. -/
def settingsClamped (e : Bool) (r : RestMode) (kp deadband minDuty maxDuty limit : Byte) : FaderSettings :=
  ⟨e, max 1 (min 64 kp.toNat), max 1 (min 32 deadband.toNat), min minDuty.toNat (max 1 maxDuty.toNat), max 1 maxDuty.toNat, r,
    max 1 limit.toNat⟩

section
variable {enable kp deadband minDuty maxDuty rest limit : Byte} {e : Bool} {r : RestMode}

theorem faderSettingsOf_some (he : flagOf enable = some e) (hr : restOf rest = some r) :
    faderSettingsOf enable kp deadband minDuty maxDuty rest limit = some (settingsClamped e r kp deadband minDuty maxDuty limit) := by
  have whole (b : Byte) : min 255 b.toNat = b.toNat := Nat.min_eq_right (byte_le b)
  simp only [faderSettingsOf, he, hr, clampTo, whole]
  rfl

theorem settings_adjusted (x : FaderSettings) : adjustedIf (x.clamped kp deadband minDuty maxDuty limit) =
    if kp.toNat = x.kp ∧ deadband.toNat = x.deadband ∧ minDuty.toNat = x.minDuty ∧ maxDuty.toNat = x.maxDuty ∧ limit.toNat = x.limit
    then .ok else .adjusted := by
  by_cases exact_ : kp.toNat = x.kp ∧ deadband.toNat = x.deadband ∧ minDuty.toNat = x.minDuty ∧ maxDuty.toNat = x.maxDuty ∧ limit.toNat = x.limit
  · rw [if_pos exact_]
    obtain ⟨h1, h2, h3, h4, h5⟩ := exact_
    simp [adjustedIf, FaderSettings.clamped, h1, h2, h3, h4, h5]
  · have clamps : x.clamped kp deadband minDuty maxDuty limit = true := by
      simp only [FaderSettings.clamped, Bool.or_eq_true, bne_iff_ne]
      by_contra none_
      simp only [not_or, not_not] at none_
      obtain ⟨⟨⟨⟨h1, h2⟩, h3⟩, h4⟩, h5⟩ := none_
      exact exact_ ⟨h1.symm, h2.symm, h3.symm, h4.symm, h5.symm⟩
    rw [if_neg exact_, adjustedIf, if_pos clamps]

end

section
variable {f : Fader} {x : FaderSettings} {good : Bool}

theorem configured_enabled (on : x.enable = true) (off : f.state = .disabled) : f.configured x good =
    ({ f.withSettings x with
      state := if good then .idle else .held, target := f.position, reported := f.position, motion := 0, overRun := 0, openRun := 0
      fault := .none, duty := 0, touch := f.touchSensor }, some .enabled) := by
  cases good <;> simp [Fader.configured, on, off, Fader.rested, Fader.heldBack]

theorem configured_disabled (off : x.enable = false) (on : f.state ≠ .disabled) : f.configured x good =
    ({ f.withSettings x with state := .disabled, duty := 0, touch := false }, some .disabled) := by
  simp [Fader.configured, off, on]

theorem configured_same (same : x.enable = true ∧ f.state ≠ .disabled ∨ x.enable = false ∧ f.state = .disabled) :
    f.configured x good = (f.withSettings x, none) := by
  obtain ⟨on, state⟩ | ⟨off, state⟩ := same
  · simp [Fader.configured, on, state]
  · simp [Fader.configured, off, state]

end

theorem configureFader_off {x : FaderSettings} (off : x.enable = false ∧ (s.fsv.channel i).state ≠ .disabled) :
    configureFader i x s = releaseHolders (fun c => c == ⟨.bank, i⟩) (changeFader i (fun f => f.configured x s.fsv.supplyGood) s) := by
  unfold configureFader
  exact if_pos off

theorem configureFader_on {x : FaderSettings} (on : ¬ (x.enable = false ∧ (s.fsv.channel i).state ≠ .disabled)) :
    configureFader i x s = changeFader i (fun f => f.configured x s.fsv.supplyGood) s := by
  unfold configureFader
  exact if_neg on

theorem configureFader_fsv (x : FaderSettings) : (configureFader i x s).fsv =
    { s.fsv with channels := s.fsv.channels.set i ((s.fsv.channel i).configured x s.fsv.supplyGood).1 } := by
  by_cases off : x.enable = false ∧ (s.fsv.channel i).state ≠ .disabled
  · rw [configureFader_off off]
    exact changeFader_fsv ..
  · rw [configureFader_on off, changeFader_fsv]

theorem unheld_released (test : Control → Bool) (l : GainRec) {c : Control} (named : test c = true) : (l.unheld test).holder ≠ some c := by
  unfold GainRec.unheld
  split
  · simp
  · rename_i stays
    intro held
    simp [held, named] at stays

end

end Sys2Proof.Machine

open Sys2Proof.Machine Sys2Proof.Safety in
/-- Settles O59, by the rows that reach a channel in FAULT, and by the checks of the three commands. -/
theorem faderCommands : Obligations.FaderCommands := by
  refine ⟨fun c i s t inside size fault hx leaves => ?_, fun tag channel position s takes size => ?_⟩
  · exact leavesFault ⟨size ▸ inside, fault⟩ hx leaves
  · intro i f becomes
    have inBounds (inside : i < 8) : i < s.fsv.channels.length := by omega
    refine ⟨fun high => exec_refused rfl rfl takes ?_, fun inside other => ?_, fun inside fault => ?_, fun inside off => exec_refused rfl rfl takes ?_,
      fun inside on touch => exec_refused rfl rfl takes ?_, fun inside on free => ?_, fun enable kp deadband minDuty maxDuty rest limit e r inside he hr => ?_⟩
    · simp only [handleFaderClear, indexBelow_of_ge high]
    · refine exec_accepted rfl rfl takes ?_
      rw [handleFaderClear_inside inside, changeFader_nothing (inBounds inside) (by rw [Fader.clearFault, if_neg other])]
    · obtain ⟨u, hu⟩ : ∃ u, u = changeFader i (fun f => f.clearFault s.fsv.supplyGood) s := ⟨_, rfl⟩
      have cleared := clearFault_eq fault s.fsv.supplyGood
      have reach : Reaches [.records, .fsv] s u := hu ▸ reaches_changeFader ..
      have own : u.fsv.channel i = (f.clearFault s.fsv.supplyGood).1 := by rw [hu, changeFader_self (inBounds inside)]
      refine ⟨_, _, rfl, (exec_accepted (t := u) rfl rfl takes ?_), answered_of_reaches reach, ?_, fun room => ?_,
        keepsBut_queueReply (keepsBut_of_reaches reach fun _ => id) _⟩
      · rw [handleFaderClear_inside inside, ← hu, own, cleared]
      · show u.fsv = _
        rw [hu, changeFader_fsv]
        show { s.fsv with channels := s.fsv.channels.set i (f.clearFault s.fsv.supplyGood).1 } = _
        rw [cleared]
      · have told := changeFader_tells (op := fun f => f.clearFault s.fsv.supplyGood) cleared
        rw [← hu, fault] at told
        show Heard _ u
        rw [told]
        exact heard_notify (s := putChannel i _ s) room
    · simp only [handleFaderMove, indexBelow_of_lt inside]
      exact if_pos off
    · simp only [handleFaderMove, indexBelow_of_lt inside]
      exact (if_neg on).trans (if_pos touch)
    · obtain ⟨u, hu⟩ : ∃ u, u = aimFader i (min 1023 position.toNat) s := ⟨_, rfl⟩
      have reach : Reaches [.records, .fsv] s u := hu ▸ reaches_aimFader ..
      have status : adjustedIf (min 1023 position.toNat != position.toNat) = if 1023 < position.toNat then .adjusted else .ok := by
        by_cases high : 1023 < position.toNat
        · rw [if_pos high, adjustedIf, if_pos (bne_iff_ne.mpr (by omega))]
        · rw [if_neg high, adjustedIf, if_neg (by simp; omega)]
      refine ⟨queueReply ⟨0x54, tag, if 1023 < position.toNat then .adjusted else .ok, some (.faderPosition (min 1023 position.toNat))⟩ u,
        (exec_taken (c := .faderMove tag channel position) rfl rfl takes).trans ?_, answered_of_reaches reach, ?_,
        keepsBut_queueReply (keepsBut_of_reaches reach fun _ => id) _⟩
      · have handled : handleFaderMove channel position s =
            ⟨u, adjustedIf (min 1023 position.toNat != position.toNat), some (.faderPosition (min 1023 position.toNat))⟩ := by
          rw [hu]
          simp only [handleFaderMove, indexBelow_of_lt inside]
          exact (if_neg on).trans (if_neg (by simpa using free))
        rw [handled, status]
        rfl
      · have takesIt : f.takesTarget = true := by simp [takesTarget_iff, on, free]
        show u.fsv = _
        rw [hu, aimFader, if_pos takesIt, changeFader_fsv, aimed_headed]
    · intro high x stored
      have made := faderSettingsOf_some (kp := kp) (deadband := deadband) (minDuty := minDuty) (maxDuty := maxDuty) (limit := limit) he hr
      have whole : f.withSettings x = stored := rfl
      obtain ⟨u, hu⟩ : ∃ u, u = configureFader i x s := ⟨_, rfl⟩
      have reach : Reaches [.records, .rme, .fsv] s u := hu ▸ reaches_configureFader s i x
      have fsv : u.fsv = { s.fsv with channels := s.fsv.channels.set i (f.configured x s.fsv.supplyGood).1 } := hu ▸ configureFader_fsv x
      have silent (on : ¬ (x.enable = false ∧ f.state ≠ .disabled)) : Reaches [.records, .fsv] s u := by
        rw [hu, configureFader_on on]
        exact reaches_changeFader ..
      refine ⟨queueReply ⟨0x53, tag, _, some (.faderSettings x)⟩ u,
        (exec_taken (c := .faderConfig tag channel enable kp deadband minDuty maxDuty rest limit) rfl rfl takes).trans ?_,
        answered_of_reaches reach, fun on off => ?_, fun off on => ⟨?_, fun q hq => ?_, fun l hl => ?_⟩, fun same => ?_, fun keeps => ?_,
        keepsBut_queueReply (keepsBut_of_reaches reach fun _ => id) _⟩
      · simp only [handleFaderConfig, indexBelow_of_lt inside, made, settings_adjusted]
        rw [hu]
        rfl
      · exact fsv.trans (by rw [configured_enabled on off, whole])
      · exact fsv.trans (by rw [configured_disabled off on, whole])
      · change q ∈ u.rme.routes at hq
        rw [hu, configureFader_off ⟨off, on⟩] at hq
        simp only [releaseHolders, State.withRme_rme, List.mem_map] at hq
        obtain ⟨p, -, rfl⟩ := hq
        exact unheld_released _ _ (by simp)
      · change l ∈ u.rme.buses at hl
        rw [hu, configureFader_off ⟨off, on⟩] at hl
        simp only [releaseHolders, State.withRme_rme, List.mem_map] at hl
        obtain ⟨p, -, rfl⟩ := hl
        exact unheld_released _ _ (by simp)
      · refine ⟨fsv.trans (by rw [configured_same same, whole]), ?_⟩
        have off : ¬ (x.enable = false ∧ f.state ≠ .disabled) := by
          obtain ⟨on, -⟩ | ⟨-, state⟩ := same
          · exact fun h => by simp [x, on] at h
          · exact fun h => h.2 state
        show u.msu.notices = s.msu.notices
        rw [hu, configureFader_on off, changeFader_silent (g := f.withSettings x) (configured_same same)]
        rfl
      · have off : ¬ (x.enable = false ∧ f.state ≠ .disabled) := by
          obtain on | state := keeps
          · exact fun h => by simp [x, on] at h
          · exact fun h => h.2 state
        exact (silent off).frame .rme (by decide)

end

section
/-! PROOFS. The fader servo (O60). -/

namespace Sys2Proof.Machine
open Safety

/-! ## The servo period in the statement's words (R194, R195) -/

section
variable {n : Nat} {s u : State}

/-- Two runs over a list that take the same steps from the states that occur. -/
theorem foldl_agrees {α β : Type} {P : β → Prop} {f g : β → α → β} {xs : List α} (keeps : ∀ b, ∀ x ∈ xs, P b → P (f b x))
    (same : ∀ b, ∀ x ∈ xs, P b → f b x = g b x) {b : β} (first : P b) : xs.foldl f b = xs.foldl g b := by
  induction xs generalizing b with
  | nil => rfl
  | cons x rest ih =>
    rw [List.foldl_cons, List.foldl_cons, ← same b x List.mem_cons_self first]
    exact ih (fun b y hy => keeps b y (List.mem_cons_of_mem _ hy)) (fun b y hy => same b y (List.mem_cons_of_mem _ hy))
      (keeps b x List.mem_cons_self first)

theorem sample_there {samples : List FaderSample} (eight : samples.length = 8) (inside : n < 8) :
    samples[n]? = some (samples.getD n ⟨0, false, 0⟩) := by
  rw [List.getD_eq_getElem?_getD, List.getElem?_eq_getElem (by omega)]
  rfl

theorem sampleAll_eq {samples : List FaderSample} (eight : samples.length = 8) (size : s.fsv.channels.length = 8) :
    sampleAll samples s = s.withFsv { s.fsv with
      channels := (List.range 8).map (fun n => (s.fsv.channel n).settled.sampled (samples.getD n ⟨0, false, 0⟩)) } := by
  have channels : (numbered 0 s.fsv.channels).map (fun p => match samples[p.1]? with
      | some x => p.2.settled.sampled x
      | none => p.2.settled) =
      (List.range 8).map (fun n => (s.fsv.channel n).settled.sampled (samples.getD n ⟨0, false, 0⟩)) := by
    rw [numbered_eq_map_range _ Fader.powerOn, size, List.map_map]
    refine List.map_congr_left fun i hi => ?_
    rw [Function.comp_apply, sample_there eight (List.mem_range.mp hi)]
    rfl
  exact congrArg (fun c => s.withFsv { s.fsv with channels := c }) channels

/-- R194: a move told by the position and the last report that stand. -/
theorem emitMoved_eq {f : Fader} (k : Nat) (position : (u.fsv.channel n).position = f.position)
    (reported : (u.fsv.channel n).reported = f.reported) :
    emitMoved n k u = if k ≤ ((f.position : Int) - f.reported).natAbs then positionTold n u else u := by
  rw [← position, ← reported]
  rfl

theorem touched_told (n : Nat) (u : State) : changeFader n Fader.touched u =
    if (u.fsv.channel n).state = .moving ∨ (u.fsv.channel n).state = .stalled then
      notify (.faderState n (u.fsv.channel n).state .idle .touched (u.fsv.channel n).position (u.fsv.channel n).target (u.fsv.channel n).fault)
        (putChannel n { u.fsv.channel n with touch := true, state := .idle, duty := 0, overRun := 0, openRun := 0 } u)
    else putChannel n { u.fsv.channel n with touch := true } u := by
  by_cases goes : (u.fsv.channel n).state = .moving ∨ (u.fsv.channel n).state = .stalled
  · rw [if_pos goes, changeFader_tells (g := { u.fsv.channel n with touch := true, state := .idle, duty := 0, overRun := 0, openRun := 0 })
      (r := .touched)]
    · rfl
    · obtain state | state := goes <;> simp only [Fader.touched, state] <;> rfl
  · rw [if_neg goes, changeFader_silent]
    unfold Fader.touched
    rw [not_or] at goes
    split
    · exact absurd ‹_› goes.1
    · exact absurd ‹_› goes.2
    all_goals rfl

theorem touched_reported (f : Fader) : f.touched.1.reported = f.reported := by
  unfold Fader.touched
  split <;> rfl

theorem touchStep_eq (inside : n < u.fsv.channels.length) : touchStep n u = handFollowed n u := by
  unfold touchStep handFollowed
  dsimp only
  split
  · rfl
  · cases sensor : (u.fsv.channel n).touchSensor <;> cases touch : (u.fsv.channel n).touch
    case isFalse.false.false => rfl
    case isFalse.true.true => rfl
    case isFalse.true.false =>
      obtain ⟨w, hw⟩ : ∃ w, w = changeFader n Fader.touched u := ⟨_, rfl⟩
      have own : w.fsv.channel n = (u.fsv.channel n).touched.1 := by rw [hw, changeFader_self inside]
      obtain ⟨position, held, -, -⟩ := touched_spec (u.fsv.channel n)
      have told := (heeds_delivered (localEvent n .touch 1 w) w).channel n
      have moved := emitMoved_eq (n := n) (u := deliverEvent (localEvent n .touch 1 w) w) (f := u.fsv.channel n) 2
        (by rw [told.position, own, position]) (by rw [told.reported, own]; exact touched_reported _)
      have is := touched_told n u
      simp only [sensor] at is
      simp only [← hw, Bool.not_false, Bool.and_self, ↓reduceIte]
      rw [moved, ← is, ← hw]
      rfl
    case isFalse.false.true =>
      obtain ⟨r, heeds⟩ := emitMoved_self inside 1
      obtain ⟨w, hw⟩ : ∃ w, w = emitMoved n 1 u := ⟨_, rfl⟩
      obtain ⟨v, hv⟩ : ∃ v, v = putChannel n { w.fsv.channel n with touch := false } w := ⟨_, rfl⟩
      rw [← hw] at heeds
      have size : n < w.fsv.channels.length := by
        rw [hw, (away_emitMoved n 1 u).size]
        exact inside
      have own : v.fsv.channel n = { w.fsv.channel n with touch := false } := by
        rw [hv]
        exact channel_set size _
      have told := (heeds_delivered (localEvent n .touch 0 v) v).channel n
      have position : ((deliverEvent (localEvent n .touch 0 v) v).fsv.channel n).position = (u.fsv.channel n).position := by
        rw [told.position, own]
        exact heeds.position
      have first : changeFader n (fun f => ({ f with touch := false }, none)) w = v := hv ▸ changeFader_silent rfl
      have second : changeFader n (fun f => ({ f with target := f.position }, none)) (deliverEvent (localEvent n .touch 0 v) v) =
          putChannel n { (deliverEvent (localEvent n .touch 0 v) v).fsv.channel n with target := (u.fsv.channel n).position }
            (deliverEvent (localEvent n .touch 0 v) v) := by
        rw [← position]
        exact changeFader_silent rfl
      have moved := emitMoved_eq (n := n) (u := u) 1 rfl rfl
      simp only [← hw, first, second, Bool.false_and, Bool.false_eq_true, ↓reduceIte]
      rw [← moved, ← hw, ← hv]
      rfl

end

/-- The reason of a channel that its sample stopped. -/
def Fader.ending (g : Fader) : FaderReason :=
  match g.state with
  | .fault => if g.fault = .overcurrent then .overcurrent else .openLoad
  | .stalled => .stalled
  | _ => .arrived

section
variable {n : Nat} {s u : State} {f : Fader}

theorem dutyFor_eq (f : Fader) (e : Int) : f.dutyFor e =
    if f.minDuty ≤ (max (-(f.maxDuty : Int)) (min f.maxDuty (Int.tdiv (f.kp * e) 8))).natAbs then
      max (-(f.maxDuty : Int)) (min f.maxDuty (Int.tdiv (f.kp * e) 8))
    else if e < 0 then -f.minDuty else f.minDuty := by
  rw [← ite_not]
  simp only [Nat.not_le]
  rfl

/-- R195: what a MOVING channel makes of its sample, and the reason when it stops. -/
theorem drive_eq (moving : f.state = .moving) (current : Nat) :
    f.drive current = (driven f current, if (driven f current).state = .moving then none else some (driven f current).ending) := by
  have acts : ¬ f.state ≠ .moving := fun h => h moving
  unfold Fader.drive driven
  simp only [if_neg acts, ← dutyFor_eq]
  generalize (if f.duty ≠ 0 ∧ f.limit < current then f.overRun + 1 else 0) = heavy
  generalize (if 32 ≤ f.duty.natAbs ∧ current < 4 then f.openRun + 1 else 0) = light
  by_cases tooHeavy : 3 ≤ heavy
  · simp only [if_pos tooHeavy]
    rfl
  by_cases tooLight : 20 ≤ light
  · simp only [if_neg tooHeavy, if_pos tooLight]
    rfl
  simp only [if_neg tooHeavy, if_neg tooLight]
  split
  · rfl
  split
  · rfl
  · rfl

theorem driven_still (still : f.state ≠ .moving) (current : Nat) : driven f current = f := if_pos still

theorem driveStep_eq {samples : List FaderSample} (eight : samples.length = 8) (inside : n < 8) :
    driveStep samples n u = channelDriven (fun m => (samples.getD m ⟨0, false, 0⟩).current) n u := by
  obtain ⟨c, hc⟩ : ∃ c, c = (samples.getD n ⟨0, false, 0⟩).current := ⟨_, rfl⟩
  obtain ⟨f, hf⟩ : ∃ f, f = u.fsv.channel n := ⟨_, rfl⟩
  obtain ⟨g, hg⟩ : ∃ g, g = if f.touch then f else driven f c := ⟨_, rfl⟩
  have right : channelDriven (fun m => (samples.getD m ⟨0, false, 0⟩).current) n u = if g.state = f.state then putChannel n g u
      else notify (.faderState n f.state g.state g.ending g.position g.target g.fault) (putChannel n g u) := by
    rw [hg, hf, hc]
    rfl
  rw [right]
  simp only [driveStep, sample_there eight inside, ← hc]
  by_cases acts : f.state = .moving ∧ f.touch = false
  · have now : g = driven f c := by rw [hg, if_neg (by simp [acts.2])]
    have does := drive_eq acts.1 c
    rw [← now] at does
    by_cases still : g.state = .moving
    · rw [if_pos (still.trans acts.1.symm)]
      exact changeFader_silent (by rw [← hf, if_pos acts, does, if_pos still])
    · rw [if_neg fun h => still (h.trans acts.1), hf]
      exact changeFader_tells (by rw [← hf, if_pos acts, does, if_neg still])
  · have same : g = f := by
      rw [hg]
      split
      · rfl
      · rename_i touch
        exact driven_still (fun moving => acts ⟨moving, Bool.eq_false_iff.mpr touch⟩) c
    rw [same, if_pos rfl]
    exact changeFader_silent (by rw [← hf, if_neg acts])

theorem servo_eq {samples : List FaderSample} (eight : samples.length = 8) (size : s.fsv.channels.length = 8) :
    exec (.servoPeriod samples) s = .next (schedule ((List.range 8).foldl
      (fun u n => channelDriven (fun m => (samples.getD m ⟨0, false, 0⟩).current) n u)
      ((List.range 8).foldl (fun u n => handFollowed n u) (sampleAll samples s)))) := by
  have touches := foldl_agrees (P := fun t => t.fsv.channels.length = 8) (f := fun u n => touchStep n u) (g := fun u n => handFollowed n u)
    (xs := List.range 8) (fun t i _ size => (away_touchStep i t).size.trans size)
    (fun t i hi size => touchStep_eq (size ▸ List.mem_range.mp hi)) ((sampleAll_size samples s).trans size)
  have drives (t : State) := foldl_agrees (P := fun _ => True) (f := fun u n => driveStep samples n u)
    (g := fun u n => channelDriven (fun m => (samples.getD m ⟨0, false, 0⟩).current) n u) (xs := List.range 8) (b := t)
    (fun _ _ _ _ => trivial) (fun u i hi _ => driveStep_eq eight (List.mem_range.mp hi)) trivial
  rw [← touches, ← drives]
  rfl

end

/-! ## A channel through a servo period (R194, R195) -/

/-- The channels after touch is handled. -/
def touchedAll (samples : List FaderSample) (s : State) : State :=
  (List.range 8).foldl (fun s i => touchStep i s) (sampleAll samples s)

/-- The channels after those that move act on their samples. -/
def drivenAll (samples : List FaderSample) (s : State) : State :=
  (List.range 8).foldl (fun s i => driveStep samples i s) (touchedAll samples s)

section
variable {n : Nat} {s u : State} {f g : Fader} {samples : List FaderSample} {x : FaderSample}

theorem drive_keeps (f : Fader) (current : Nat) : (f.drive current).1.position = f.position ∧ (f.drive current).1.touch = f.touch := by
  unfold Fader.drive Fader.rested
  dsimp only
  repeat' split
  all_goals exact ⟨rfl, rfl⟩

theorem Fader.Heeds.enabled (heeds : f.Heeds g) (on : f.state ≠ .disabled) : g.state ≠ .disabled := by
  intro off
  have halted (h : f.state = .fault ∨ f.state = .held) : False := on ((heeds.stopped h).symm.trans off)
  have running (h : f.state = .idle ∨ f.state = .moving ∨ f.state = .stalled) : False := by simpa [off] using heeds.runs h
  cases is : f.state
  case disabled => exact on is
  case fault => exact halted (.inl is)
  case held => exact halted (.inr is)
  case idle => exact running (.inl is)
  case moving => exact running (.inr (.inl is))
  case stalled => exact running (.inr (.inr is))

/-- What a servo period makes of the channel that was sampled. -/
structure Fader.Served (f g : Fader) : Prop where
  position : g.position = f.position
  off : f.state = .disabled → g = f
  touch : f.state ≠ .disabled → g.touch = f.touchSensor
  stopped : f.state ≠ .disabled → f.touchSensor = true → g.duty = 0 ∧
    g.state = if f.touch = true ∨ f.state = .fault ∨ f.state = .held then f.state else .idle

/-- A hand on a channel stops its motor, what feedback made of the channel before it was its turn. -/
theorem stopped_of_sensed {good : Bool} {h : Fader} (heeds : f.Heeds g) (sound : FaderSound good g) (sensed : g.Sensed h)
    (on : f.state ≠ .disabled) (sensor : f.touchSensor = true) :
    h.duty = 0 ∧ h.state = if f.touch = true ∨ f.state = .fault ∨ f.state = .held then f.state else .idle := by
  obtain ⟨pushes, moving, -⟩ := sound
  obtain ⟨state, duty⟩ := sensed.held (heeds.sensor.trans sensor)
  have still (rests : g.state ≠ .moving) : g.duty = 0 := by
    by_contra pushed
    exact rests (pushes pushed)
  by_cases touch : f.touch = true
  · obtain rfl := heeds.frozen (.inr touch)
    rw [if_pos (.inl touch), state, duty, if_neg fun h => by simp [touch] at h, if_neg fun h => by simp [touch] at h]
    exact ⟨still fun m => by simp [moving m] at touch, rfl⟩
  · have free : g.touch = false := heeds.touch.trans (Bool.eq_false_iff.mpr touch)
    simp only [free, true_and] at state duty
    by_cases halted : f.state = .fault ∨ f.state = .held
    · have same := heeds.stopped halted
      have rests : ¬ (g.state = .moving ∨ g.state = .stalled) := by
        rw [same]
        obtain h | h := halted <;> simp [h]
      rw [if_pos (.inr halted), state, duty, if_neg rests, if_neg rests]
      exact ⟨still fun m => rests (.inl m), same⟩
    · rw [if_neg (by tauto), state, duty]
      have runs := heeds.runs (by cases is : f.state <;> simp_all)
      by_cases goes : g.state = .moving ∨ g.state = .stalled
      · rw [if_pos goes, if_pos goes]
        exact ⟨rfl, rfl⟩
      · rw [if_neg goes, if_neg goes]
        obtain idle | goes' := runs
        · exact ⟨still (by simp [idle]), idle⟩
        · exact absurd goes' goes

theorem drivenAll_channel (there : samples[n]? = some x) (inside : n < 8) (size : (touchedAll samples s).fsv.channels.length = 8) :
    (drivenAll samples s).fsv.channel n =
      if ((touchedAll samples s).fsv.channel n).state = .moving ∧ ((touchedAll samples s).fsv.channel n).touch = false then
        (((touchedAll samples s).fsv.channel n).drive x.current).1 else (touchedAll samples s).fsv.channel n := by
  obtain ⟨before, after, range, first, last⟩ := range_split inside
  obtain ⟨sizeBefore, same⟩ := driveSteps_away (samples := samples) first (touchedAll samples s)
  obtain ⟨-, rest⟩ := driveSteps_away (samples := samples) last
    (driveStep samples n (before.foldl (fun s i => driveStep samples i s) (touchedAll samples s)))
  rw [drivenAll, range, List.foldl_append, List.foldl_cons, rest, driveStep_self there (by rw [sizeBefore, size]; exact inside), same]

theorem touchedAll_size (size : s.fsv.channels.length = 8) : (touchedAll samples s).fsv.channels.length = 8 := by
  unfold touchedAll
  exact foldl_keeps (P := fun t => t.fsv.channels.length = 8) (fun t i _ size => (away_touchStep i t).size.trans size)
    ((sampleAll_size samples s).trans size)

/-- R194: a channel through the handling of touch, its own turn and the turns of the others. -/
theorem touchedAll_channel (inside : n < 8) (sound : FadersSound (sampleAll samples s).fsv) :
    ∃ (u : State) (h : Fader), FadersSound u.fsv ∧ ((sampleAll samples s).fsv.channel n).Heeds (u.fsv.channel n) ∧
      ((u.fsv.channel n).state = .disabled → h = u.fsv.channel n) ∧ ((u.fsv.channel n).state ≠ .disabled → (u.fsv.channel n).Sensed h) ∧
      h.Heeds ((touchedAll samples s).fsv.channel n) := by
  obtain ⟨before, after, range, first, last⟩ := range_split inside
  obtain ⟨u, hu⟩ : ∃ u, u = before.foldl (fun s i => touchStep i s) (sampleAll samples s) := ⟨_, rfl⟩
  have stands : FadersSound u.fsv :=
    hu ▸ foldl_keeps (P := fun t => FadersSound t.fsv) (fun t i _ sound => fadersSound_touchStep sound i) sound
  have heeds := (touchSteps_away first (sampleAll samples s)).2
  have rest := (touchSteps_away last (touchStep n u)).2
  refine ⟨u, (touchStep n u).fsv.channel n, stands, hu ▸ heeds, fun off => by rw [touchStep_disabled off],
    fun on => touchStep_self (by rw [stands.1]; exact inside) on, ?_⟩
  rw [touchedAll, range, List.foldl_append, List.foldl_cons, ← hu]
  exact rest

/-- R194, R195: a channel through a servo period. -/
theorem drivenAll_served (there : samples[n]? = some x) (inside : n < 8) (sound : FadersSound (sampleAll samples s).fsv)
    (size : s.fsv.channels.length = 8) :
    ((sampleAll samples s).fsv.channel n).Served ((drivenAll samples s).fsv.channel n) := by
  obtain ⟨f, hf⟩ : ∃ f, f = (sampleAll samples s).fsv.channel n := ⟨_, rfl⟩
  obtain ⟨k, hk⟩ : ∃ k, k = (touchedAll samples s).fsv.channel n := ⟨_, rfl⟩
  obtain ⟨u, h, stands, heeds, off, on, rest⟩ := touchedAll_channel inside sound
  have final := drivenAll_channel there inside (touchedAll_size (samples := samples) size)
  obtain ⟨position, touch⟩ := drive_keeps k x.current
  rw [← hk] at rest final
  rw [← hf] at heeds ⊢
  have ends : ((drivenAll samples s).fsv.channel n).position = k.position ∧ ((drivenAll samples s).fsv.channel n).touch = k.touch := by
    rw [final]
    split
    · exact ⟨position, touch⟩
    · exact ⟨rfl, rfl⟩
  have keeps (still : k.state ≠ .moving ∨ k.touch = true) : (drivenAll samples s).fsv.channel n = k := by
    rw [final, if_neg]
    rintro ⟨moving, free⟩
    obtain still | still := still
    · exact still moving
    · simp [free] at still
  by_cases disabled : f.state = .disabled
  · have first := heeds.frozen (.inl disabled)
    have own := off (first ▸ disabled)
    have same : k = f := by rw [rest.frozen (.inl (by rw [own, first, disabled])), own, first]
    have all := (keeps (.inl (by simp [same, disabled]))).trans same
    exact ⟨by rw [all], fun _ => all, fun h => absurd disabled h, fun h => absurd disabled h⟩
  · have running := heeds.enabled disabled
    have sensed := on running
    have touch : k.touch = f.touchSensor := rest.touch.trans (sensed.touch.trans heeds.sensor)
    refine ⟨ends.1.trans (rest.position.trans (sensed.position.trans heeds.position)), fun h => absurd h disabled,
      fun _ => ends.2.trans touch, fun _ sensor => ?_⟩
    have hand : h.touch = true := (sensed.touch.trans heeds.sensor).trans sensor
    rw [keeps (.inr (touch.trans sensor)), rest.frozen (.inr hand)]
    exact stopped_of_sensed heeds (faderSound_channel stands inside) sensed disabled sensor

/-- R194: without a hand the handling of touch does nothing. -/
theorem touchedAll_untouched (size : s.fsv.channels.length = 8) (eight : samples.length = 8) (off : ∀ x ∈ samples, x.touch = false)
    (free : ∀ n < 8, (s.fsv.channel n).touch = false) : touchedAll samples s = sampleAll samples s := by
  unfold touchedAll
  refine foldl_keeps (P := (· = sampleAll samples s)) (fun t i hi same => ?_) rfl
  have inside := List.mem_range.mp hi
  have there := sample_there eight inside
  have own := sampleAll_channel (s := s) there (by rw [size]; exact inside)
  have sensor : (t.fsv.channel i).touchSensor = false := by
    rw [same, own]
    exact off _ (List.mem_of_getElem? there)
  have touch : (t.fsv.channel i).touch = false := by
    rw [same, own]
    exact free i inside
  refine Eq.trans ?_ same
  simp [touchStep, sensor, touch]

theorem driven_of_untouched (free : f.touch = false) (current : Nat) :
    (if f.state = .moving ∧ f.touch = false then (f.drive current).1 else f) = driven f current := by
  by_cases moving : f.state = .moving
  · rw [if_pos ⟨moving, free⟩, drive_eq moving]
  · rw [if_neg fun h => moving h.1, driven_still moving]

/-- R194, R195: a servo period without a hand on any channel. -/
theorem drivenAll_untouched (there : samples[n]? = some x) (inside : n < 8) (size : s.fsv.channels.length = 8)
    (eight : samples.length = 8) (off : ∀ x ∈ samples, x.touch = false) (free : ∀ n < 8, (s.fsv.channel n).touch = false) :
    (drivenAll samples s).fsv.channel n = driven ((s.fsv.channel n).settled.sampled x) x.current := by
  have own := sampleAll_channel (s := s) there (by rw [size]; exact inside)
  rw [drivenAll_channel there inside (touchedAll_size size), touchedAll_untouched size eight off free, own]
  exact driven_of_untouched (f := (s.fsv.channel n).settled.sampled x) (free n inside) x.current

theorem reaches_drivenAll_untouched (size : s.fsv.channels.length = 8)
    (eight : samples.length = 8) (off : ∀ x ∈ samples, x.touch = false) (free : ∀ n < 8, (s.fsv.channel n).touch = false) :
    Reaches [.records, .fsv] s (drivenAll samples s) := by
  rw [drivenAll, touchedAll_untouched size eight off free]
  exact (reaches_withFsv s _).andThen (.foldl _ _ fun s i _ => reaches_driveStep s samples i)

/-! ## The motor terminals and the supply input (R196, R198) -/

theorem terminals_table (f : Fader) :
    (f.state = .moving → 0 < f.duty → f.terminals = (.switched f.duty.toNat, .low)) ∧
    (f.state = .moving → f.duty < 0 → f.terminals = (.low, .switched (-f.duty).toNat)) ∧
    (f.state = .moving ∧ f.duty = 0 ∨ (f.state = .idle ∨ f.state = .stalled) ∧ f.touch = false → f.terminals =
      if f.restInForce = .brake then (.low, .low) else (.released, .released)) ∧
    (f.state = .idle ∧ f.touch = true ∨ f.state = .disabled ∨ f.state = .fault ∨ f.state = .held →
      f.terminals = (.released, .released)) := by
  unfold Fader.terminals
  dsimp only
  refine ⟨fun moving forth => ?_, fun moving back => ?_, fun rests => ?_, fun free => ?_⟩
  · rw [moving]
    dsimp only
    rw [if_pos forth, show f.duty.natAbs = f.duty.toNat by omega]
  · rw [moving]
    dsimp only
    rw [if_neg (by omega), if_pos back, show f.duty.natAbs = (-f.duty).toNat by omega]
  · obtain ⟨moving, zero⟩ | ⟨idle | stalled, touch⟩ := rests
    · cases f.restInForce <;> simp [moving, zero]
    · cases f.restInForce <;> simp [idle, touch]
    · cases f.restInForce <;> simp [stalled]
  · obtain ⟨idle, touch⟩ | off | fault | held := free
    · simp [idle, touch]
    · simp [off]
    · simp [fault]
    · simp [held]

/-- R198: the supply input at another level, with what each channel makes of it. -/
theorem supply_changes (op : Fader → Fader × Option FaderReason) {change : Fader → Fader} (does : ∀ f, (op f).1 = change f) (good : Bool)
    (size : s.fsv.channels.length = 8) :
    KeepsBut [.records, .fsv] s (changeAllFaders op (setSupply good s)) ∧ (changeAllFaders op (setSupply good s)).fsv.supplyGood = good ∧
      (changeAllFaders op (setSupply good s)).fsv.channels = s.fsv.channels.map change := by
  have reach : Reaches [.records, .fsv] s (changeAllFaders op (setSupply good s)) :=
    (reaches_withFsv s _).andThen (reaches_changeAllFaders ..)
  have all := changeAllFaders_fsv op (s := setSupply good s) size
  rw [funext does] at all
  exact ⟨keepsBut_of_reaches reach fun _ => id, (congrArg Fsv.supplyGood all).trans rfl, (congrArg Fsv.channels all).trans rfl⟩

theorem supplyLow_eq (f : Fader) : f.supplyLow.1 =
    if f.state = .idle ∨ f.state = .moving ∨ f.state = .stalled then { f with state := .held, duty := 0 } else f := by
  unfold Fader.supplyLow
  cases state : f.state <;> simp <;> rfl

theorem supplyBack_eq (f : Fader) : f.supplyBack.1 =
    if f.state ≠ .held then f
    else if f.touch = false ∧ f.deadbandInForce < ((f.target : Int) - f.position).natAbs then
      { f with state := .moving, motion := 0, overRun := 0, openRun := 0 }
    else { f with state := .idle, duty := 0, overRun := 0, openRun := 0 } := by
  unfold Fader.supplyBack
  by_cases held : f.state = .held
  · have acts : ¬ f.state ≠ .held := fun h => h held
    rw [if_pos held, if_neg acts]
    by_cases touch : f.touch = true
    · rw [if_pos touch, if_neg fun near => by simp [touch] at near]
      rfl
    · rw [if_neg touch]
      by_cases far : f.deadbandInForce < f.distance
      · rw [if_pos far, if_pos ⟨Bool.eq_false_iff.mpr touch, far⟩]
        rfl
      · rw [if_neg far, if_neg fun near => far near.2]
        rfl
  · rw [if_neg held, if_pos held]

end

end Sys2Proof.Machine

open Sys2Proof.Machine Sys2Proof.Safety in
/-- Settles O60: the servo period row by row and channel by channel, and the timer and supply rows. -/
theorem faderServo : Obligations.FaderServo := by
  refine ⟨terminals_table, fun samples j s sound left wf => ?_⟩
  intro ch x sampled
  have size := sound.1
  have eight : samples.length = 8 := by
    have both : (samples.length == 8 && samples.all fun x => decide (x.position ≤ 1023)) = true := wf
    rw [Bool.and_eq_true, beq_iff_eq] at both
    exact both.1
  have below {n : Nat} {x : Sys2Proof.FaderSample} (there : samples[n]? = some x) : n < 8 := eight ▸ (List.getElem?_eq_some_iff.mp there).1
  have own {n : Nat} {x : Sys2Proof.FaderSample} (there : samples[n]? = some x) :=
    sampleAll_channel (s := s) there (by rw [size]; exact below there)
  have inside : j.val < s.fsv.channels.length := by rw [size]; exact j.isLt
  have fsv : (schedule (drivenAll samples s)).fsv = (drivenAll samples s).fsv := (reaches_schedule _).frame .fsv (by decide)
  refine ⟨?_, ⟨schedule (drivenAll samples s), rfl, fun n x there => ?_, fun off free => ?_⟩, fun still => ?_, fun moving => ?_,
    fun low => congrArg Host.Outcome.next (if_neg (by simp [low])), fun good => congrArg Host.Outcome.next (if_pos good), fun good => ?_,
    fun low => ?_⟩
  · rw [servo_eq eight size, sampleAll_eq eight size]
    rfl
  · have served := drivenAll_served there (below there) (fadersSound_sampleAll sound wf) size
    rw [own there] at served
    rw [fsv]
    exact ⟨served.position, served.off, fun on => ⟨served.touch on, served.stopped on⟩⟩
  · have reach := reaches_drivenAll_untouched size eight off free
    have nothing := schedule_nothing ((SameOffer.of_keeps (keepsBut_of_reaches reach fun _ => id)).nothingLeft left)
    rw [nothing]
    exact ⟨keepsBut_of_reaches reach fun _ => id, fun n x there => drivenAll_untouched there (below there) size eight off free⟩
  · exact congrArg Host.Outcome.next (changeFader_nothing inside (by exact if_neg still))
  · refine ⟨_, rfl, keepsBut_of_reaches (reaches_changeFader ..) fun _ => id, ?_⟩
    rw [changeFader_fsv, Fader.stall, if_pos moving]
    rfl
  · obtain ⟨keeps, level, channels⟩ := supply_changes Fader.supplyLow supplyLow_eq false size
    exact ⟨_, congrArg Host.Outcome.next (if_pos good), keeps, level, channels⟩
  · obtain ⟨keeps, level, channels⟩ := supply_changes Fader.supplyBack supplyBack_eq true size
    exact ⟨_, congrArg Host.Outcome.next (if_neg (by simp [low])), keeps, level, channels⟩

end
